-- ==== Sys2Proof/Word.lean ====
section
/-! DEFINITION. The two word types of the part: a byte of a message, frame or record (R188 to R190), and a
point of the 32-bit millisecond count of the time base (R186). -/

namespace Sys2Proof

/-- One byte of a message, a frame or a record. -/
abbrev Byte := BitVec 8

/-- A point on the time base: a count 0..4,294,967,295 that wraps (R186). -/
abbrev TimePoint := BitVec 32

end Sys2Proof
end

