-- ==== Sys2Proof/Syntax.lean ====
section
/-! DEFINITION. The commands of the block: one constructor of `Instr` for each row of
spec/opcode_table.json, with the operands the row carries. The engine's commands carry their parameter
bytes as the port takes them (R190); frames carry their header and the fields of their kind (R104, R106,
R188); events carry what the outside alone can know (levels, answers, idle time). -/

namespace Sys2Proof

/-- The five path sensors, in the order a sheet meets them on its first pass (3.1). -/
inductive PathSensor where
  | feed | reg | fuse | duplex | exit
deriving DecidableEq, Repr

/-- One level of each path sensor on the scale 0..15, as a sample reads it (R41). -/
structure Levels where
  feed : Fin 16
  reg : Fin 16
  fuse : Fin 16
  duplex : Fin 16
  exit : Fin 16
deriving DecidableEq, Repr

/-- The door switch input (R41). -/
inductive DoorReading where
  | closed | opened
deriving DecidableEq, Repr

/-- The card presence switch (R81). -/
inductive Presence where
  | absent | present
deriving DecidableEq, Repr

/-- The six counts of a usage record (00_scope, Usage record). -/
structure UsageOf (α : Type) where
  stdMono : α
  stdColour : α
  largeMono : α
  largeColour : α
  duplex : α
  sheets : α
deriving DecidableEq, Repr

/-- A usage record: the six counts as numbers. -/
abbrev Usage := UsageOf Nat

/-- A hold id: the requesting station's number and the job serial (R125). -/
structure HoldId where
  station : Nat
  serial : Nat
deriving DecidableEq, Repr

/-- Destination, source and exchange number of a frame (R104). -/
structure FrameHead where
  dest : Nat
  source : Nat
  exch : Nat
deriving DecidableEq, Repr

/-- ROLL: home range (first and last, 0 and 0 for none) and joining mark (R106, R188). -/
structure RollFields where
  first : Nat
  last : Nat
  joining : Bool
deriving DecidableEq, Repr

/-- HOLD REQUEST: account, hold id, amount, minimum (R106, R188). -/
structure HoldRequestFields where
  account : Nat
  hold : HoldId
  amount : Nat
  minimum : Nat
deriving DecidableEq, Repr

/-- TOP-UP REQUEST: hold id, amount, minimum (R106, R188). -/
structure TopUpRequestFields where
  hold : HoldId
  amount : Nat
  minimum : Nat
deriving DecidableEq, Repr

/-- POST: hold id, account, cumulative charged total and usage, final mark, offline mark (R106, R188). -/
structure PostFields where
  hold : HoldId
  account : Nat
  charged : Nat
  usage : Usage
  final : Bool
  offline : Bool
deriving DecidableEq, Repr

/-- HOLD ANSWER: status code, granted amount, discount rate (R106, R188). -/
structure HoldAnswerFields where
  status : Nat
  granted : Nat
  discount : Nat
deriving DecidableEq, Repr

/-- POST ANSWER: status code, posted amount (R106, R188). -/
structure PostAnswerFields where
  status : Nat
  posted : Nat
deriving DecidableEq, Repr

/-- ESCROW QUERY and ESCROW RELEASE: card serial and escrow tag (R106, R188). -/
structure EscrowFields where
  serial : Nat
  tag : Nat
deriving DecidableEq, Repr

/-- ESCROW ANSWER: status code, charged total (R106, R188). -/
structure EscrowAnswerFields where
  status : Nat
  charged : Nat
deriving DecidableEq, Repr

/-- RELEASE ANSWER: status code (R106, R188). -/
structure ReleaseAnswerFields where
  status : Nat
deriving DecidableEq, Repr

/-- The ten frame kinds with their payload fields (R106). -/
inductive Payload where
  | roll (p : RollFields)
  | holdRequest (p : HoldRequestFields)
  | topUpRequest (p : TopUpRequestFields)
  | post (p : PostFields)
  | holdAnswer (p : HoldAnswerFields)
  | postAnswer (p : PostAnswerFields)
  | escrowQuery (p : EscrowFields)
  | escrowAnswer (p : EscrowAnswerFields)
  | escrowRelease (p : EscrowFields)
  | releaseAnswer (p : ReleaseAnswerFields)
deriving DecidableEq, Repr

/-- A frame of the shop line, by its fields (R104). -/
structure Frame where
  head : FrameHead
  body : Payload
deriving DecidableEq, Repr

/-- The commands and events of the block, one for each row of spec/opcode_table.json. -/
inductive Instr where
  | powerOn
  | powerLoss
  | interruptedCardWaitEnd
  | status (params : List Byte)
  | readNotice (params : List Byte)
  | setOptions (params : List Byte)
  | loadTariff (params : List Byte)
  | loadProfile (params : List Byte)
  | openJob (params : List Byte)
  | feed (params : List Byte)
  | closeJob (params : List Byte)
  | readLost (params : List Byte)
  | resume (params : List Byte)
  | purgeStart (params : List Byte)
  | purgeEnd (params : List Byte)
  | serviceClear (params : List Byte)
  | readMeters (params : List Byte)
  | readRoster (params : List Byte)
  | accountAdd (params : List Byte)
  | accountCredit (params : List Byte)
  | accountSet (params : List Byte)
  | accountRemove (params : List Byte)
  | readAccount (params : List Byte)
  | listAccounts (params : List Byte)
  | readStatement (params : List Byte)
  | readRefunds (params : List Byte)
  | discardRefund (params : List Byte)
  | releaseEscrow (params : List Byte)
  | restart (params : List Byte)
  | unknownCommandMessage (bytes : List Byte)
  | readTransaction (clocked : Nat)
  | storeWriteComplete
  | leadingEdge (sensor : PathSensor)
  | trailingEdge (sensor : PathSensor)
  | doorOpenEdge
  | doorClosedEdge
  | windowDeadline (sheet : Nat)
  | purgeSettlingWaitEnd
  | periodicPostDue
  | cardInsertion
  | cardRemoval
  | cardReadAnswer (bytes : List Byte)
  | cardWriteAck
  | cardAnswerDeadline
  | roll (head : FrameHead) (fields : RollFields)
  | holdRequest (head : FrameHead) (fields : HoldRequestFields)
  | topUpRequest (head : FrameHead) (fields : TopUpRequestFields)
  | post (head : FrameHead) (fields : PostFields)
  | holdAnswer (head : FrameHead) (fields : HoldAnswerFields)
  | postAnswer (head : FrameHead) (fields : PostAnswerFields)
  | escrowQuery (head : FrameHead) (fields : EscrowFields)
  | escrowAnswer (head : FrameHead) (fields : EscrowAnswerFields)
  | escrowRelease (head : FrameHead) (fields : EscrowFields)
  | releaseAnswer (head : FrameHead) (fields : ReleaseAnswerFields)
  | frameDiscarded (bytes : List Byte)
  | frameSendStart (idle : Nat)
  | frameSent
  | collision
  | exchangeAnswerDeadline
  | exchangeStart
  | joiningWindowEnd
  | rollAnswerDelayEnd
  | accountRequestTaken
  | holdLapse (hold : HoldId)
  | outboundRound
  | sensorSample (levels : Levels) (door : DoorReading)
  | cardPresenceSample (presence : Presence)
  | lineBusy
deriving DecidableEq, Repr

end Sys2Proof
end

