-- ==== Sys2Proof/Machine/State.lean ====
section
/-! DEFINITION. Everything the spec gives the machine to hold, block by block, as plain data, and the state
after reset. INVENTORY.md lists each field with its rule and its reset value. -/

namespace Sys2Proof.Machine

/-! ## Names shared by the blocks -/

/-- The reason list of the chapter Engine Port, in its order: the order numbers the codes (R188). -/
inductive Reason where
  | ok | granted | wait | noResult | busy | badFrame | invalid | badParam | jobOpen | noJob
  | wrongState | noProfile | noTariff | pathFault | pathNotClear | doorOpen | pathFull | jobLimit | noFunds | noCard
  | cardRejected | cardLost | escrowOpen | noEscrow | listFull | noLine | homeAbsent | noAccount | suspended | notHome
  | poolFull | tableFull | unknownHold | lapsed | late | holdsOpen | statementDue | isProtected | noEntry | escrowShort
  | stationAbsent | noAnswer | unreadable | isForeign | badPurse | worn | unknownKind
deriving DecidableEq, Repr

/-- The 26 commands of the catalogue, in its order: the order gives the opcodes 0x01 to 0x1A (R190). -/
inductive Opcode where
  | status | readNotice | setOptions | loadTariff | loadProfile | openJob | feed | closeJob | readLost
  | resume | purgeStart | purgeEnd | serviceClear | readMeters | readRoster
  | accountAdd | accountCredit | accountSet | accountRemove | readAccount | listAccounts | readStatement
  | readRefunds | discardRefund | releaseEscrow | restart
deriving DecidableEq, Repr

/-- A home range: first..last within 1..65,535 (R117, R183). -/
structure HomeRange where
  first : Nat
  last : Nat
deriving DecidableEq, Repr

/-- The fields of the option record (R183). -/
structure Options where
  station : Option Nat
  home : Option HomeRange
  issuer : Nat
  allowance : Nat
  accountBlock : Nat
  purseBlock : Nat
deriving DecidableEq, Repr

/-- A counter kept twice: a lifetime value and a period value (R122, R162). -/
structure Counter where
  life : Nat
  period : Nat
deriving DecidableEq, Repr

/-! ## Sheets and prices -/

inductive SheetSize where
  | std | large
deriving DecidableEq, Repr

inductive ColourMode where
  | mono | colour
deriving DecidableEq, Repr

/-- The engine's identity for a sheet: set and page, 1..9,999 each. -/
structure Tag where
  set : Nat
  page : Nat
deriving DecidableEq, Repr

/-- A sheet's description: size class, colour mode, faces 1 or 2, coverage classes 0..3. -/
structure Sheet where
  size : SheetSize
  mode : ColourMode
  faces : Nat
  front : Nat
  back : Nat
deriving DecidableEq, Repr

/-- The tariff's fields (R26). -/
structure Tariff where
  stdMono : Nat
  stdColour : Nat
  largeMono : Nat
  largeColour : Nat
  light : Nat
  normal : Nat
  heavy : Nat
  full : Nat
  backFace : Nat
  t1 : Nat
  t2 : Nat
  t3 : Nat
  d0 : Nat
  d1 : Nat
  d2 : Nat
  d3 : Nat
deriving DecidableEq, Repr

/-! ## Path monitor -/

/-- The path profile's fields (R45). -/
structure Profile where
  feedReg : Nat
  regFuse : Nat
  fuseExit : Nat
  fuseDuplex : Nat
  duplexReg : Nat
  stayStd : Nat
  stayLarge : Nat
  tolerance : Nat
  pick : Nat
  thFeed : Nat
  thReg : Nat
  thFuse : Nat
  thDuplex : Nat
  thExit : Nat
deriving DecidableEq, Repr

inductive PathState where
  | idle | active | fault | purging | service
deriving DecidableEq, Repr

/-- A filter (R43, R81): the filtered state (`on`: COVERED, OPEN or PRESENT), the agreement count, and the
edge that a sample has made and that has not been taken yet, with its time stamp (log 8). -/
structure Filter where
  on : Bool
  count : Nat
  edge : Option TimePoint
deriving DecidableEq, Repr

/-- The six filters of the path monitor. -/
structure Filters where
  feed : Filter
  reg : Filter
  fuse : Filter
  duplex : Filter
  exit : Filter
  door : Filter
deriving DecidableEq, Repr

/-- The six filtered states, as results and notices carry them (COVERED, OPEN: true). -/
structure FilterStates where
  feed : Bool
  reg : Bool
  fuse : Bool
  duplex : Bool
  exit : Bool
  door : Bool
deriving DecidableEq, Repr

/-- The edge a record waits for, at the sensor of its route position (R50). -/
inductive Awaited where
  | lead | trail
deriving DecidableEq, Repr

/-- A sheet record (R50). -/
structure SheetRecord where
  number : Nat
  tag : Tag
  sheet : Sheet
  price : Nat
  reserve : Nat
  position : Nat
  awaits : Awaited
  earliest : TimePoint
  latest : TimePoint
  leadTime : Option TimePoint
deriving DecidableEq, Repr

inductive JamKind where
  | late | stay | early | short | stray | door
deriving DecidableEq, Repr

/-- The sensor a jam names: a path sensor or DOOR (R57). -/
inductive JamPlace where
  | sensor (s : PathSensor)
  | door
deriving DecidableEq, Repr

/-- The jam record (R57). -/
structure JamRecord where
  kind : JamKind
  place : JamPlace
  sheet : Option (Nat × Tag)
  time : TimePoint
  lost : Nat
deriving DecidableEq, Repr

structure PathMonitor where
  state : PathState
  filters : Filters
  profile : Option Profile
  queue : List SheetRecord
  jam : Option JamRecord
  purgeCount : Nat
  /-- the settling wait of a PURGE END: samples still to be counted (R70) -/
  settling : Option Nat
  lastSample : TimePoint
  sampleDue : TimePoint
deriving DecidableEq, Repr

/-! ## Job unit -/

inductive JobState where
  | none | authorising | running | halted | draining | settling
deriving DecidableEq, Repr

inductive FundingKind where
  | purse | account | offline
deriving DecidableEq, Repr

inductive CloseReason where
  | closed | cardRemoved | cardLost | interrupted
deriving DecidableEq, Repr

/-- The top-up state (R1, R13). `aged` is set from the first moment 5 s have passed since the refusal,
whatever the count shows afterwards (R186). -/
inductive TopUp where
  | none
  | pending
  | refused (time : TimePoint) (aged : Bool)
  | permanent
deriving DecidableEq, Repr

structure PursePart where
  card : Nat
  tag : Option Nat
deriving DecidableEq, Repr

structure AccountPart where
  number : Nat
  home : Nat
  hold : HoldId
  discount : Nat
  acked : Nat
deriving DecidableEq, Repr

/-- The job context (R1). -/
structure JobContext where
  serial : Option Nat
  state : JobState
  funding : Option FundingKind
  openingCard : Option Nat
  purse : Option PursePart
  account : Option AccountPart
  funded : Nat
  charged : Nat
  delivered : Nat
  reserved : Nat
  usage : Usage
  fed : Nat
  lost : Nat
  redone : Nat
  topUp : TopUp
  closeReason : Option CloseReason
deriving DecidableEq, Repr

/-- What the job checkpoint holds (R25). -/
structure Checkpoint where
  serial : Nat
  funding : FundingKind
  openingCard : Option Nat
  purse : Option PursePart
  account : Option AccountPart
  funded : Nat
  charged : Nat
  delivered : Nat
  usage : Usage
deriving DecidableEq, Repr

/-- The lost list (R75). -/
structure LostList where
  owner : Option Nat
  tags : List Tag
  overflow : Bool
deriving DecidableEq, Repr

/-- A FEED in hand that waits for funds: its P and R are kept (R12, R14). -/
structure PendingFeed where
  tag : Tag
  sheet : Sheet
  price : Nat
  reserve : Nat
deriving DecidableEq, Repr

/-- A request waiting for the job unit's exchange slot or for the own account unit (R149). -/
inductive JobRequest where
  | topUp (amount minimum : Nat)
  | periodicPost
  | finalPost
deriving DecidableEq, Repr

inductive Route where
  | card | refundList | posted | queued
deriving DecidableEq, Repr

structure JobUnit where
  ctx : JobContext
  lostList : LostList
  nextSerial : Nat
  /-- the opening card was removed while AUTHORISING (R8) -/
  removed : Bool
  feed : Option PendingFeed
  waiting : List JobRequest
  postDue : Option TimePoint
  /-- an interrupted purse job awaits the card controller's first outcome (R187) -/
  awaitsCard : Bool
deriving DecidableEq, Repr

/-! ## Card controller -/

inductive CardKind where
  | purse | account
deriving DecidableEq, Repr

/-- The identity of a card whose record 0 was read with a good check (R82, R85). -/
structure CardIdentity where
  serial : Nat
  kind : CardKind
  account : Nat
deriving DecidableEq, Repr

/-- The figures of a purse slot (R83). -/
structure Purse where
  balance : Nat
  escrow : Nat
  station : Option Nat
  tag : Nat
  counter : Nat
deriving DecidableEq, Repr

inductive SlotName where
  | a | b
deriving DecidableEq, Repr

/-- The purse image (R86). -/
structure PurseImage where
  serial : Nat
  slot : SlotName
  purse : Purse
deriving DecidableEq, Repr

/-- What a purse write is for, and so who is told of its end (5.4). -/
inductive WritePurpose where
  | move (amount : Nat)
  | jobSettlement
  | refundEntry (serial tag charged : Nat)
  | peerAnswer (station serial tag charged : Nat)
  | release (kept : Nat)
deriving DecidableEq, Repr

structure CardWrite where
  purpose : WritePurpose
  purse : Purse
deriving DecidableEq, Repr

/-- The card states of 5.3; READING names the record awaited. -/
inductive CardState where
  | empty
  | reading (record : Nat)
  | ready
  | rejected (reason : Reason)
deriving DecidableEq, Repr

/-- A request on the card port (R80). -/
inductive CardRequest where
  | read (record : Nat)
  | write (record : Nat) (bytes : List Byte)
deriving DecidableEq, Repr

inductive RefundState where
  | held | claimed
deriving DecidableEq, Repr

/-- An entry of the refund list (R92). -/
structure RefundEntry where
  serial : Nat
  tag : Nat
  charged : Nat
  state : RefundState
deriving DecidableEq, Repr

/-- A request of the card controller's exchange source (R96, R97). `live`: the card that the query is for
has not been removed since. -/
inductive CardExchange where
  | query (station serial tag : Nat) (live : Bool)
  | release (station serial tag : Nat)
deriving DecidableEq, Repr

structure CardUnit where
  state : CardState
  identity : Option CardIdentity
  /-- record 1 as read, while record 2 is awaited -/
  record1 : Option (List Byte)
  image : Option PurseImage
  writing : Option CardWrite
  resolving : Bool
  request : Option (CardRequest × TimePoint)
  presence : Filter
  presenceDue : TimePoint
  /-- presence samples taken since the start, counted to 3 (R187) -/
  startSamples : Nat
  refunds : List RefundEntry
  refundReserved : Bool
  slot : Option CardExchange
  waiting : List CardExchange
deriving DecidableEq, Repr

/-! ## Shop line controller -/

inductive LineState where
  | off | joining | member | conflict
deriving DecidableEq, Repr

structure RosterEntry where
  station : Nat
  present : Bool
  home : Option HomeRange
  overlap : Bool
deriving DecidableEq, Repr

/-- The three exchange sources (6.4). -/
inductive Source where
  | job | card | settlement
deriving DecidableEq, Repr

/-- An exchange (R110 to R112). `attempts` counts those left, the present one included; `awaiting` is the
time at which the request was sent whole, while its answer is awaited. -/
structure Exchange where
  source : Source
  dest : Nat
  body : Payload
  attempts : Nat
  number : Nat
  awaiting : Option TimePoint
deriving DecidableEq, Repr

/-- The places for frames waiting to be sent (R108). -/
inductive Place where
  | accountAnswer | cardAnswer | request | roll
deriving DecidableEq, Repr

/-- A frame waiting to be sent, with its collision count k (R108, R109). -/
structure OutFrame where
  place : Place
  frame : Frame
  k : Nat
deriving DecidableEq, Repr

/-- What this station has sent in the run of bytes on the line since the line was last idle (R103, R104): nothing,
bytes of a frame that it still sends or that collided, or a frame sent whole. -/
inductive OwnShare where
  | nothing | part | whole
deriving DecidableEq, Repr

structure LineUnit where
  state : LineState
  busy : Bool
  share : OwnShare
  roster : List RosterEntry
  inProgress : Option Exchange
  pending : List Exchange
  counter : Nat
  waiting : List OutFrame
  sending : Option Place
  joinEnd : Option TimePoint
  rollDelays : List TimePoint
deriving DecidableEq, Repr

/-! ## Account unit -/

inductive AccountStatus where
  | opened | suspended
deriving DecidableEq, Repr

/-- The nine figures an account keeps twice (R122). -/
structure FiguresOf (α : Type) where
  usage : UsageOf α
  charged : α
  late : α
  jobs : α
deriving DecidableEq, Repr

/-- An account record (R122). -/
structure Account where
  number : Nat
  status : AccountStatus
  balance : Int
  limit : Nat
  discount : Nat
  figures : FiguresOf Counter
  statementSerial : Nat
deriving DecidableEq, Repr

inductive HoldState where
  | active | lapsed | settled
deriving DecidableEq, Repr

/-- A hold record (R125). `place` is its place of the 48; `stamp` orders the changes (R127, log 18). -/
structure Hold where
  hold : HoldId
  account : Nat
  state : HoldState
  granted : Nat
  posted : Nat
  postedUsage : Usage
  expiry : Option TimePoint
  place : Nat
  stamp : Nat
deriving DecidableEq, Repr

/-- Where a request at the account unit came from (R130, R156). -/
inductive Origin where
  | peer (station exch : Nat)
  | job
  | settlement
deriving DecidableEq, Repr

structure Arrival where
  origin : Origin
  body : Payload
deriving DecidableEq, Repr

/-- The request in hand, its answer held until its store writes have completed (R131). -/
structure InHand where
  arrival : Arrival
  answer : Payload
  outstanding : Nat
deriving DecidableEq, Repr

structure StatementSnapshot where
  number : Nat
  figures : FiguresOf Nat
deriving DecidableEq, Repr

structure AccountUnit where
  table : List Account
  pool : List Hold
  nextStamp : Nat
  arrivals : List Arrival
  inHand : Option InHand
  snapshot : Option StatementSnapshot
deriving DecidableEq, Repr

/-! ## Settlement unit -/

/-- An entry of the outbound settlement queue (R154). -/
inductive OutEntry where
  | finalPost (dest : Nat) (hold : HoldId) (account charged : Nat) (usage : Usage) (acked : Nat) (offline : Bool)
  | escrowRelease (dest serial tag : Nat)
deriving DecidableEq, Repr

/-- The identity of an entry (R155). -/
inductive EntryKey where
  | finalPost (hold : HoldId)
  | escrowRelease (dest serial tag : Nat)
deriving DecidableEq, Repr

structure Try where
  key : EntryKey
  triggered : Bool
deriving DecidableEq, Repr

structure SettlementUnit where
  queue : List OutEntry
  reservedJob : Bool
  reservedCard : Nat
  heard : List Nat
  waits : List Nat
  round : Option (List EntryKey)
  roundDue : Option TimePoint
  trying : Option Try
deriving DecidableEq, Repr

/-! ## Meter unit -/

/-- One value for each jam kind. -/
structure JamsOf (α : Type) where
  late : α
  stay : α
  early : α
  short : α
  stray : α
  door : α
deriving DecidableEq, Repr

/-- One value for each funding kind. -/
structure FundsOf (α : Type) where
  purse : α
  account : α
  offline : α
deriving DecidableEq, Repr

/-- The nineteen meters (R162). -/
structure MetersOf (α : Type) where
  usage : UsageOf α
  lost : α
  jams : JamsOf α
  charged : FundsOf α
  jobs : FundsOf α
deriving DecidableEq, Repr

/-- The meter record of the store (R162). -/
structure MeterRecord where
  counters : MetersOf Counter
  clearSerial : Nat
deriving DecidableEq, Repr

structure MeterUnit where
  record : MeterRecord
  snapshot : Option (MetersOf Nat)
deriving DecidableEq, Repr

/-! ## Store -/

/-- A store write: the record's identity and its new contents (R181). An account or hold record of `none`
is written as free. The contents of a meter write are those of the moment the store begins it (R165). -/
inductive RecordWrite where
  | options (bytes : List Byte)
  | tariff (t : Tariff)
  | profile (p : Profile)
  | account (number : Nat) (r : Option Account)
  | hold (place : Nat) (r : Option Hold)
  | refunds (l : List RefundEntry)
  | outbound (l : List OutEntry)
  | meters (m : MeterRecord)
  | checkpoint (c : Option Checkpoint)
  | serial (n : Nat)
deriving DecidableEq, Repr

/-- Who waits for a write: nobody, the command in hand (R174) or the request in hand (R131). -/
inductive WriteTag where
  | plain | command | request
deriving DecidableEq, Repr

structure QueuedWrite where
  what : RecordWrite
  tag : WriteTag
deriving DecidableEq, Repr

/-- The records of the store (11.1). -/
structure StoreRecords where
  options : Option (List Byte)
  tariff : Option Tariff
  profile : Option Profile
  accounts : List Account
  holds : List Hold
  refunds : List RefundEntry
  outbound : List OutEntry
  meters : MeterRecord
  checkpoint : Option Checkpoint
  serial : Nat
deriving DecidableEq, Repr

structure Store where
  records : StoreRecords
  current : Option (QueuedWrite × TimePoint)
  queue : List QueuedWrite
  waiting : List QueuedWrite
  /-- the meters changed while a meter write was in progress (R165) -/
  metersAgain : Bool
deriving DecidableEq, Repr

/-! ## Engine port -/

inductive StartCause where
  | powerOn | restart
deriving DecidableEq, Repr

/-- The items of a SETTLE notice (R23, R160). -/
inductive SettleItems where
  | postDone (dest : Nat) (hold : HoldId) (account status posted : Nat)
  | postFailed (dest : Nat) (hold : HoldId) (account status : Nat) (amount : Int)
  | releaseDone (dest serial tag : Nat)
deriving DecidableEq, Repr

/-- The items of a JOB END notice (R24). -/
structure JobEndItems where
  serial : Nat
  delivered : Nat
  lostNotRedone : Nat
  charged : Nat
  funding : FundingKind
  route : Route
  closeReason : Option CloseReason
deriving DecidableEq, Repr

/-- The kinds of notice with the items each carries (R179). -/
inductive NoticeBody where
  | start (cause : StartCause) (station : Option Nat) (stored : Bool)
  | cardInsertedAccount (serial account : Nat)
  | cardInsertedPurse (serial : Nat) (purse : Purse)
  | cardRemoved (serial : Option Nat)
  | cardRejected (reason : Reason) (serial : Option Nat)
  | cardSettled (serial amount balance : Nat)
  | fundsGranted (amount : Nat)
  | fundsRefused (reason : Reason)
  | fundsLapsed
  | jam (record : JamRecord)
  | pathClear (time : TimePoint)
  | service (count : Nat) (states : FilterStates)
  | jobEnd (items : JobEndItems)
  | settle (items : SettleItems)
  | escrowUnresolved (reason : Reason) (serial escrow : Nat) (station : Option Nat) (tag : Nat)
  | roster (overlap : Bool) (station : Option Nat)
  | lineConflict (kind dest : Nat)
deriving DecidableEq, Repr

structure Notice where
  time : TimePoint
  body : NoticeBody
deriving DecidableEq, Repr

/-- The values of STATUS (R178). -/
structure StatusReport where
  jobState : JobState
  serial : Option Nat
  funding : Option FundingKind
  funded : Nat
  charged : Nat
  reserved : Nat
  free : Nat
  acked : Option Nat
  topUp : Option TopUp
  closeReason : Option CloseReason
  fed : Nat
  lost : Nat
  redone : Nat
  pathState : PathState
  filters : FilterStates
  pathClear : Bool
  sheets : Nat
  purgeCount : Nat
  jam : Option JamRecord
  cardState : CardState
  writing : Bool
  resolving : Bool
  cardSerial : Option Nat
  cardKind : Option CardKind
  cardAccount : Option Nat
  image : Option PurseImage
  lineState : LineState
  station : Option Nat
  outbound : Nat
  reservedPlaces : Nat
  notices : Nat
  overflow : Bool
deriving DecidableEq, Repr

/-- The outcome of a purge (R71). -/
inductive PurgeOutcome where
  | clear | notClear | service
deriving DecidableEq, Repr

/-- One account of LIST ACCOUNTS (R147). -/
structure AccountLine where
  number : Nat
  status : AccountStatus
  balance : Int
  available : Int
  shadowed : Bool
deriving DecidableEq, Repr

/-- The values a result carries (10.4, column "Values of an OK result"). -/
inductive Values where
  | none
  | status (r : StatusReport)
  | notice (count : Nat) (overflow : Bool) (oldest : Option Notice)
  | jobOpened (serial : Nat) (funding : FundingKind) (funded discount : Nat)
  | granted (number price reserve free : Nat)
  | free (amount : Nat)
  | jobState (s : JobState)
  | lost (owner : Option Nat) (tags : List Tag) (overflow : Bool)
  | resumed (path : PathState) (job : JobState)
  | purgeCount (n : Nat)
  | purged (outcome : PurgeOutcome) (count : Nat) (states : FilterStates)
  | meters (serial : Nat) (clear : Bool) (counters : MetersOf Counter)
  | roster (state : LineState) (station : Option Nat) (entries : List RosterEntry)
  | credited (balance available : Int)
  | removed (balance : Int) (lifetime : FiguresOf Nat)
  | account (record : Account) (available : Int) (overLimit : Bool) (active lapsed : Nat)
  | accounts (lines : List AccountLine) (more : Bool)
  | statement (record : Account) (clear : Bool)
  | refunds (reserved : Nat) (entries : List RefundEntry)
  | released (kept balance : Nat)
deriving DecidableEq, Repr

/-- A result: the command it answers (none for BAD_FRAME and INVALID), its status and its values. -/
structure Result where
  command : Option Opcode
  reason : Reason
  values : Values
deriving DecidableEq, Repr

/-- The port states (R172). -/
inductive PortState where
  | idle
  | executing (command : Opcode)
  | result (r : Result)
deriving DecidableEq, Repr

/-- What a read transaction shifts out (R175). -/
inductive Reply where
  | nothing
  | empty
  | busy (command : Opcode) (refused : Nat)
  | result (r : Result)
deriving DecidableEq, Repr

structure Port where
  state : PortState
  refused : Nat
  notices : List Notice
  overflow : Bool
  /-- the result of a command whose store write waits for a place (R174) -/
  held : Option Result
  /-- what the last read transaction shifted out -/
  shifted : Reply
deriving DecidableEq, Repr

/-! ## The whole part -/

structure State where
  powered : Bool
  timeBase : TimePoint
  options : Options
  port : Port
  job : JobUnit
  tariff : Option Tariff
  path : PathMonitor
  card : CardUnit
  line : LineUnit
  accounts : AccountUnit
  settle : SettlementUnit
  meter : MeterUnit
  store : Store
  free : Nat
  pending : List Instr
deriving DecidableEq, Repr

/-- Faults of the machine: there is none. No rule of the spec stops the part, so no command ends in one
(log 29); safe. -/
inductive Fault where
deriving DecidableEq, Repr

/-- Refusals of the machine. -/
inductive Refusal where
  /-- Raised only by `exec` for a command that has no meaning yet; no arm raises it now. Safe. -/
  | notModelled (mnemonic : String)
deriving DecidableEq, Repr

/-! ## Reset values -/

/-- A usage record with the same value at every count. -/
def UsageOf.all {α : Type} (a : α) : UsageOf α :=
  { stdMono := a, stdColour := a, largeMono := a, largeColour := a, duplex := a, sheets := a }

def FiguresOf.all {α : Type} (a : α) : FiguresOf α :=
  { usage := UsageOf.all a, charged := a, late := a, jobs := a }

def MetersOf.all {α : Type} (a : α) : MetersOf α :=
  { usage := UsageOf.all a, lost := a,
    jams := { late := a, stay := a, early := a, short := a, stray := a, door := a },
    charged := { purse := a, account := a, offline := a },
    jobs := { purse := a, account := a, offline := a } }

/-- The option defaults (R183). -/
def Options.defaults : Options :=
  { station := none, home := none, issuer := 0, allowance := 0, accountBlock := 200, purseBlock := 100 }

/-- A filter as a start leaves it (R43, R81). -/
def Filter.start : Filter := { on := false, count := 0, edge := none }

/-- The job context NONE, with amounts and counts 0 (R1). -/
def JobContext.blank : JobContext :=
  { serial := Option.none, state := .none, funding := Option.none, openingCard := Option.none,
    purse := Option.none, account := Option.none, funded := 0, charged := 0, delivered := 0, reserved := 0,
    usage := UsageOf.all 0, fed := 0, lost := 0, redone := 0, topUp := .none, closeReason := Option.none }

/-- The job unit as a start leaves it, with the serial counter of the store (R1, R75, R149). -/
def JobUnit.start (serial : Nat) : JobUnit :=
  { ctx := JobContext.blank, lostList := { owner := none, tags := [], overflow := false },
    nextSerial := serial, removed := false, feed := none, waiting := [], postDue := none, awaitsCard := false }

/-- The path monitor as a start leaves it, with the profile of the store (R42, R59). The first sample is due 20 ms
after the start. The spec names no last sample before it: the model counts the start itself as the last one, so that
a job opened in those 20 ms is sampled from the next count on (DESIGN CHOICE, log 39). -/
def PathMonitor.start (profile : Option Profile) : PathMonitor :=
  { state := .idle,
    filters := { feed := Filter.start, reg := Filter.start, fuse := Filter.start, duplex := Filter.start,
                 exit := Filter.start, door := Filter.start },
    profile := profile, queue := [], jam := none, purgeCount := 0, settling := none,
    lastSample := 0, sampleDue := 20 }

/-- The card controller as a start leaves it, with the refund list of the store (R81, R85, R92). -/
def CardUnit.start (refunds : List RefundEntry) : CardUnit :=
  { state := .empty, identity := none, record1 := none, image := none, writing := none, resolving := false,
    request := none, presence := Filter.start, presenceDue := 5, startSamples := 0,
    refunds := refunds, refundReserved := false, slot := none, waiting := [] }

/-- The shop line controller of a station with no number (R110, R114). -/
def LineUnit.off : LineUnit :=
  { state := .off, busy := false, share := .nothing, roster := [], inProgress := none, pending := [], counter := 0, waiting := [],
    sending := none, joinEnd := none, rollDelays := [] }

/-- The account unit as a start leaves it, with the table and the pool of the store (R124, R129, R130). -/
def AccountUnit.start (table : List Account) (pool : List Hold) (nextStamp : Nat) : AccountUnit :=
  { table := table, pool := pool, nextStamp := nextStamp, arrivals := [], inHand := none, snapshot := none }

/-- The settlement unit as a start leaves it, with the queue of the store (R154, R157, R158). -/
def SettlementUnit.start (queue : List OutEntry) : SettlementUnit :=
  { queue := queue, reservedJob := false, reservedCard := 0, heard := [], waits := [], round := none,
    roundDue := none, trying := none }

/-- The meter record of a part from the factory (R162). -/
def MeterRecord.factory : MeterRecord :=
  { counters := MetersOf.all { life := 0, period := 0 }, clearSerial := 0 }

/-- The store of a part from the factory (R182). -/
def StoreRecords.factory : StoreRecords :=
  { options := none, tariff := none, profile := none, accounts := [], holds := [], refunds := [],
    outbound := [], meters := MeterRecord.factory, checkpoint := none, serial := 1 }

/-- A store with nothing to write. -/
def Store.quiet (records : StoreRecords) : Store :=
  { records := records, current := none, queue := [], waiting := [], metersAgain := false }

/-- The port as a start leaves it, its START notice raised (R177). -/
def Port.start (notice : Notice) : Port :=
  { state := .idle, refused := 0, notices := [notice], overflow := false, held := none, shifted := .nothing }

/-- The machine right after reset: the power-on start of a part from the factory (R177, R182, R185; log 1).
No option record is stored, so the running options are the defaults, the station has no number and the
line is OFF. -/
def State.reset : State :=
  { powered := true, timeBase := 0, options := Options.defaults,
    port := Port.start { time := 0, body := .start .powerOn none false },
    job := JobUnit.start 1, tariff := none, path := PathMonitor.start none, card := CardUnit.start [],
    line := LineUnit.off, accounts := AccountUnit.start [] [] 0, settle := SettlementUnit.start [],
    meter := { record := MeterRecord.factory, snapshot := none },
    store := Store.quiet StoreRecords.factory, free := 0, pending := [] }

end Sys2Proof.Machine
end

