-- ==== Sys2Proof/Machine/Layout.lean ====
section
/-! DEFINITION. The byte layouts of the chapter Formats and Layouts: shop line frames with their CRC
(R104, R105, R188), card records and the option record (R189), engine port messages (R171, R190). -/

namespace Sys2Proof

/-! ## Numbers and bytes -/

/-- The number a run of bytes spells, most significant byte first (R188, R189, R190). -/
def number (bytes : List Byte) : Nat :=
  bytes.foldl (fun n b => n * 256 + b.toNat) 0

/-- The low `8 * width` bits of a number as bytes, most significant byte first. -/
def spell : Nat → Nat → List Byte
  | 0, _ => []
  | width + 1, n => BitVec.ofNat 8 (n / 256 ^ width) :: spell width n

/-- The number at bytes `start .. start + len - 1` of a record. -/
def field (bytes : List Byte) (start len : Nat) : Nat :=
  number ((bytes.drop start).take len)

/-- A four-byte figure in two's complement (R190). -/
def signed32 (n : Nat) : Int :=
  if n < 2147483648 then (n : Int) else (n : Int) - 4294967296

/-- A signed figure as the number its four bytes spell (R190). -/
def unsigned32 (i : Int) : Nat :=
  (i % 4294967296).toNat

/-! ## Checks -/

/-- One bit shifted out of the CRC register folds the polynomial 0x1021 in (R105). -/
def crcShift (r : BitVec 16) : BitVec 16 :=
  if r.msb then (r <<< 1) ^^^ 0x1021#16 else r <<< 1

/-- One byte taken into the register's high end, most significant bit first (R105). -/
def crcByte (r : BitVec 16) (b : Byte) : BitVec 16 :=
  let r0 := r ^^^ (b.zeroExtend 16 <<< 8)
  crcShift (crcShift (crcShift (crcShift (crcShift (crcShift (crcShift (crcShift r0)))))))

/-- The CRC over a run of bytes; the register starts at 0xFFFF (R105). -/
def crc (bytes : List Byte) : BitVec 16 :=
  bytes.foldl crcByte 0xFFFF#16

/-- The 16-bit words of a record, high byte first (R189). -/
def words : List Byte → List Nat
  | hi :: lo :: rest => (hi.toNat * 256 + lo.toNat) :: words rest
  | _ => []

/-- Ones'-complement addition: the carry out of bit 15 is added back into bit 0 (R189). -/
def onesAdd (a b : Nat) : Nat :=
  if a + b < 65536 then a + b else a + b - 65535

/-- The ones'-complement sum of the words of a run of bytes (R189). -/
def onesSum (bytes : List Byte) : Nat :=
  (words bytes).foldl onesAdd 0

/-! ## Shop line frames -/

/-- The kind code of a payload (R188). -/
def Payload.kind : Payload → Nat
  | .roll _ => 1
  | .holdRequest _ => 2
  | .topUpRequest _ => 3
  | .post _ => 4
  | .holdAnswer _ => 5
  | .postAnswer _ => 6
  | .escrowQuery _ => 7
  | .escrowAnswer _ => 8
  | .escrowRelease _ => 9
  | .releaseAnswer _ => 10

/-- The payload length of each kind (R188). -/
def kindLength : Nat → Option Nat
  | 1 => some 5
  | 2 => some 13
  | 3 => some 11
  | 4 => some 24
  | 5 => some 5
  | 6 => some 4
  | 7 => some 6
  | 8 => some 4
  | 9 => some 6
  | 10 => some 1
  | _ => none

/-- The hold station byte of a POST: the station in its low six bits, the final mark in bit 6, the offline
mark in bit 7 (R188). -/
def postStationByte (station : Nat) (final offline : Bool) : Nat :=
  station + (if final then 64 else 0) + (if offline then 128 else 0)

/-- The payload bytes of a frame (R188). -/
def Payload.bytes : Payload → List Byte
  | .roll p => spell 2 p.first ++ spell 2 p.last ++ spell 1 (if p.joining then 1 else 0)
  | .holdRequest p =>
      spell 2 p.account ++ spell 1 p.hold.station ++ spell 2 p.hold.serial ++ spell 4 p.amount ++ spell 4 p.minimum
  | .topUpRequest p => spell 1 p.hold.station ++ spell 2 p.hold.serial ++ spell 4 p.amount ++ spell 4 p.minimum
  | .post p =>
      spell 1 (postStationByte p.hold.station p.final p.offline) ++ spell 2 p.hold.serial ++ spell 2 p.account
        ++ spell 3 p.charged ++ spell 3 p.usage.stdMono ++ spell 3 p.usage.stdColour ++ spell 3 p.usage.largeMono
        ++ spell 3 p.usage.largeColour ++ spell 2 p.usage.duplex ++ spell 2 p.usage.sheets
  | .holdAnswer p => spell 1 p.status ++ spell 3 p.granted ++ spell 1 p.discount
  | .postAnswer p => spell 1 p.status ++ spell 3 p.posted
  | .escrowQuery p => spell 4 p.serial ++ spell 2 p.tag
  | .escrowAnswer p => spell 1 p.status ++ spell 3 p.charged
  | .escrowRelease p => spell 4 p.serial ++ spell 2 p.tag
  | .releaseAnswer p => spell 1 p.status

/-- The payload a kind code and payload bytes of its length stand for (R188). -/
def Payload.read (kind : Nat) (b : List Byte) : Option Payload :=
  match kind with
  | 1 => some (.roll { first := field b 0 2, last := field b 2 2, joining := field b 4 1 != 0 })
  | 2 => some (.holdRequest { account := field b 0 2, hold := { station := field b 2 1 % 64, serial := field b 3 2 },
                              amount := field b 5 4, minimum := field b 9 4 })
  | 3 => some (.topUpRequest { hold := { station := field b 0 1 % 64, serial := field b 1 2 },
                               amount := field b 3 4, minimum := field b 7 4 })
  | 4 => some (.post { hold := { station := field b 0 1 % 64, serial := field b 1 2 }, account := field b 3 2,
                       charged := field b 5 3,
                       usage := { stdMono := field b 8 3, stdColour := field b 11 3, largeMono := field b 14 3,
                                  largeColour := field b 17 3, duplex := field b 20 2, sheets := field b 22 2 },
                       final := field b 0 1 / 64 % 2 == 1, offline := field b 0 1 / 128 == 1 })
  | 5 => some (.holdAnswer { status := field b 0 1, granted := field b 1 3, discount := field b 4 1 })
  | 6 => some (.postAnswer { status := field b 0 1, posted := field b 1 3 })
  | 7 => some (.escrowQuery { serial := field b 0 4, tag := field b 4 2 })
  | 8 => some (.escrowAnswer { status := field b 0 1, charged := field b 1 3 })
  | 9 => some (.escrowRelease { serial := field b 0 4, tag := field b 4 2 })
  | 10 => some (.releaseAnswer { status := field b 0 1 })
  | _ => none

/-- The bytes the CRC covers, from the destination to the end of the payload (R104, R105). -/
def Frame.covered (f : Frame) : List Byte :=
  spell 1 f.head.dest ++ spell 1 f.head.source ++ spell 1 f.body.kind ++ spell 1 f.head.exch
    ++ spell 1 f.body.bytes.length ++ f.body.bytes

/-- A frame as the line carries it: start byte 0xA5, the covered bytes, the CRC high byte first (R188). -/
def Frame.bytes (f : Frame) : List Byte :=
  [0xA5#8] ++ f.covered ++ spell 2 (crc f.covered).toNat

/-- A receiver's judgement of a run of bytes: the frame, or none where R104 discards it, at the first of
its faults: start byte, length, CRC, source, kind and its length, ROLL and broadcast. -/
def Frame.read (b : List Byte) : Option Frame :=
  let len := field b 5 1
  if b.head? != some 0xA5#8 then none
  else if len > 24 || b.length != 8 + len then none
  else if (crc ((b.drop 1).take (5 + len))).toNat != field b (6 + len) 2 then none
  else if field b 2 1 > 31 then none
  else if kindLength (field b 3 1) != some len then none
  else if (field b 3 1 == 1) != (field b 1 1 == 63) then none
  else (Payload.read (field b 3 1) ((b.drop 6).take len)).map fun body =>
    { head := { dest := field b 1 1, source := field b 2 1, exch := field b 4 1 }, body := body }

/-- The fields of a payload fit their widths (R188). -/
def Payload.fits : Payload → Bool
  | .roll p => p.first < 65536 && p.last < 65536
  | .holdRequest p =>
      p.account < 65536 && p.hold.station < 64 && p.hold.serial < 65536 && p.amount < 4294967296
        && p.minimum < 4294967296
  | .topUpRequest p =>
      p.hold.station < 64 && p.hold.serial < 65536 && p.amount < 4294967296 && p.minimum < 4294967296
  | .post p =>
      p.hold.station < 64 && p.hold.serial < 65536 && p.account < 65536 && p.charged < 16777216
        && p.usage.stdMono < 16777216 && p.usage.stdColour < 16777216 && p.usage.largeMono < 16777216
        && p.usage.largeColour < 16777216 && p.usage.duplex < 65536 && p.usage.sheets < 65536
  | .holdAnswer p => p.status < 256 && p.granted < 16777216 && p.discount < 256
  | .postAnswer p => p.status < 256 && p.posted < 16777216
  | .escrowQuery p => p.serial < 4294967296 && p.tag < 65536
  | .escrowAnswer p => p.status < 256 && p.charged < 16777216
  | .escrowRelease p => p.serial < 4294967296 && p.tag < 65536
  | .releaseAnswer p => p.status < 256

/-- The frame is a ROLL. -/
def Payload.isRoll : Payload → Bool
  | .roll _ => true
  | _ => false

/-- A good frame (R104): its fields fit, its source is a station, and it is a ROLL exactly when it is
addressed to 63. -/
def Frame.good (f : Frame) : Bool :=
  f.head.dest < 256 && f.head.source < 32 && f.head.exch < 256 && f.body.fits
    && (f.body.isRoll == (f.head.dest == 63))

end Sys2Proof

namespace Sys2Proof.Machine

/-! ## Reason codes and opcodes -/

/-- The code of a reason: its position in the reason list, from 0 (R188). -/
def Reason.code (r : Reason) : Nat := r.ctorIdx

/-- The opcode of a command: its position in the catalogue, from 0x01 (R190). -/
def Opcode.code (o : Opcode) : Nat := o.ctorIdx + 1

/-- The catalogue in its order (10.4). -/
def Opcode.catalogue : List Opcode :=
  [.status, .readNotice, .setOptions, .loadTariff, .loadProfile, .openJob, .feed, .closeJob, .readLost,
   .resume, .purgeStart, .purgeEnd, .serviceClear, .readMeters, .readRoster, .accountAdd, .accountCredit,
   .accountSet, .accountRemove, .readAccount, .listAccounts, .readStatement, .readRefunds, .discardRefund,
   .releaseEscrow, .restart]

/-- The command an opcode names, if the catalogue has it (R190). -/
def Opcode.ofCode (n : Nat) : Option Opcode :=
  if n = 0 then none else Opcode.catalogue[n - 1]?

/-! ## Card records -/

/-- The identity record as read, its check agreeing (R82, R189). -/
structure IdentityRecord where
  serial : Nat
  kind : Nat
  account : Nat
  issuer : Nat
deriving DecidableEq, Repr

/-- A record's check agrees when the sum of words 0 to 6 equals bytes 14 and 15 (R189). -/
def cardCheckAgrees (b : List Byte) : Bool :=
  b.length == 16 && onesSum (b.take 14) == field b 14 2

/-- The identity in record 0, or none where its check does not agree (R85, R189). -/
def IdentityRecord.read (b : List Byte) : Option IdentityRecord :=
  if cardCheckAgrees b then
    some { serial := field b 0 4, kind := field b 4 2, account := field b 6 2, issuer := field b 8 2 }
  else none

/-- A station byte: 0..31 is a station, 0xFF none (R188, R189). -/
def stationByte (s : Option Nat) : Nat := s.getD 255

/-- The purse of a slot, or none where the slot is invalid: the check agrees, the escrow station is 0..31
or none, and the escrow is 0 exactly when the station is none (R83, R189). -/
def Purse.read (b : List Byte) : Option Purse :=
  let station := field b 6 1
  let escrow := field b 3 3
  if cardCheckAgrees b && (station < 32 || station == 255) && ((escrow == 0) == (station == 255)) then
    some { balance := field b 0 3, escrow := escrow, station := if station = 255 then none else some station,
           tag := field b 8 2, counter := field b 10 4 }
  else none

/-- Bytes 0 to 13 of a slot the part writes, its fill 0 (R189). -/
def Purse.fields (p : Purse) : List Byte :=
  spell 3 p.balance ++ spell 3 p.escrow ++ spell 1 (stationByte p.station) ++ spell 1 0 ++ spell 2 p.tag
    ++ spell 4 p.counter

/-- The sixteen bytes of a slot, its check computed (R88, R189). -/
def Purse.bytes (p : Purse) : List Byte :=
  p.fields ++ spell 2 (onesSum p.fields)

/-- The current slot of a purse card: the valid slot with the higher counter, slot A where they are equal;
none where neither is valid (R84). -/
def currentSlot (a b : Option Purse) : Option (SlotName × Purse) :=
  match a, b with
  | some pa, some pb => if pa.counter < pb.counter then some (.b, pb) else some (.a, pa)
  | some pa, none => some (.a, pa)
  | none, some pb => some (.b, pb)
  | none, none => none

/-- The record of a slot: 1 is slot A, 2 is slot B (R83). -/
def SlotName.record : SlotName → Nat
  | .a => 1
  | .b => 2

def SlotName.spare : SlotName → SlotName
  | .a => .b
  | .b => .a

/-! ## The option record -/

/-- The fields of an option record are inside their ranges (R183). -/
def Options.inRange (o : Options) : Bool :=
  (match o.station with | none => true | some n => n < 32)
    && (match o.home with | none => true | some h => 1 ≤ h.first && h.first ≤ h.last && h.last < 65536)
    && o.issuer < 65536 && o.allowance ≤ 2000 && (1 ≤ o.accountBlock && o.accountBlock ≤ 100000)
    && (1 ≤ o.purseBlock && o.purseBlock ≤ 10000)

/-- The option fields of bytes 0 to 13, or none where one is outside its range (R183, R184, R189). -/
def Options.readFields (b : List Byte) : Option Options :=
  let station := field b 0 1
  let first := field b 1 2
  let last := field b 3 2
  let o : Options :=
    { station := if station = 255 then none else some station,
      home := if first = 0 ∧ last = 0 then none else some { first := first, last := last },
      issuer := field b 5 2, allowance := field b 7 2, accountBlock := field b 9 3, purseBlock := field b 12 2 }
  if b.length = 14 ∧ o.inRange = true then some o else none

/-- The check of an option record: the bitwise inverse of the sum of words 0 to 6 (R189). -/
def optionCheck (b : List Byte) : Nat := 65535 - onesSum (b.take 14)

/-- The stored record SET OPTIONS writes from its parameter bytes (R184, R189). -/
def optionRecord (params : List Byte) : List Byte :=
  params ++ spell 2 (optionCheck params)

/-- The options of a stored record, or none where its check disagrees or a field is out of range (R189). -/
def Options.readRecord (b : List Byte) : Option Options :=
  if b.length = 16 ∧ field b 14 2 = optionCheck b then Options.readFields (b.take 14) else none

/-- Bytes 0 to 13 of an option record (R189). -/
def Options.fields (o : Options) : List Byte :=
  spell 1 (stationByte o.station) ++ spell 2 ((o.home.map HomeRange.first).getD 0)
    ++ spell 2 ((o.home.map HomeRange.last).getD 0) ++ spell 2 o.issuer ++ spell 2 o.allowance
    ++ spell 3 o.accountBlock ++ spell 2 o.purseBlock

/-! ## Engine port messages -/

/-- The read code that opens a read transaction (R190). -/
def readCode : Byte := 0xFF#8

/-- The sum modulo 256 of all the bytes of a message (R171). -/
def byteSum (b : List Byte) : Nat := (b.foldl (fun n x => n + x.toNat) 0) % 256

/-- The check byte that brings a message's sum to 0 (R171, R190). -/
def checkByte (b : List Byte) : Byte := BitVec.ofNat 8 (256 - byteSum b)

/-- A command message: opcode, length, parameters, check (R190). -/
def commandMessage (o : Opcode) (params : List Byte) : List Byte :=
  let b := spell 1 o.code ++ spell 1 params.length ++ params
  b ++ [checkByte b]

/-- The message is well formed: as many bytes as its length calls for, at most 240 parameters, and a sum
of 0 (R171, R190). -/
def messageWellFormed (b : List Byte) : Bool :=
  b.length == field b 1 1 + 3 && field b 1 1 ≤ 240 && byteSum b == 0

/-- What the bytes of a transaction are (R171, R173). -/
inductive Message where
  /-- no byte at all, or a read transaction -/
  | notCommand
  | malformed
  | unknownOpcode
  | command (o : Opcode) (params : List Byte)
deriving DecidableEq, Repr

/-- The judgement of the bytes of a transaction (R171, R173). -/
def Message.read (b : List Byte) : Message :=
  if b = [] ∨ b.head? = some readCode then .notCommand
  else if messageWellFormed b = false then .malformed
  else match Opcode.ofCode (field b 0 1) with
    | none => .unknownOpcode
    | some o => .command o ((b.drop 2).take (field b 1 1))

/-- A result message: status, length in two bytes, values, check (R190). -/
def resultMessage (status : Nat) (values : List Byte) : List Byte :=
  let b := spell 1 status ++ spell 2 values.length ++ values
  b ++ [checkByte b]

end Sys2Proof.Machine
end

