-- ==== Sys2Proof/WellFormed.lean ====
section
/-! DEFINITION. Which commands are well formed: the operands the outside can really give the part. A command that is
not well formed still has a meaning; the check only says what a sender may send. -/

namespace Sys2Proof

/-- The bytes of a transaction that begins no read transaction and names no command of the catalogue (R171, R173). -/
def namesNoCommand (bytes : List Byte) : Bool :=
  match Machine.Message.read bytes with
  | .malformed => true
  | .unknownOpcode => true
  | _ => false

/-- A command message carries at most 240 parameter bytes (R171, R190). -/
def paramsFit (params : List Byte) : Bool := params.length ≤ 240

/-- The frame an event carries is a good one (R104). -/
def frameGood (head : FrameHead) (body : Payload) : Bool := Frame.good { head := head, body := body }

/-- A hold id that a station may hold: station 0..31, serial 1..65,535 (R125). -/
def HoldId.wf (h : HoldId) : Bool := h.station < 32 && (1 ≤ h.serial && h.serial < 65536)

/-- The operands of a command are inside what the spec lets its sender give. -/
def Instr.wf (i : Instr) : Bool :=
  match i with
  | .powerOn => true
  | .powerLoss => true
  | .interruptedCardWaitEnd => true
  | .status ps => paramsFit ps
  | .readNotice ps => paramsFit ps
  | .setOptions ps => paramsFit ps
  | .loadTariff ps => paramsFit ps
  | .loadProfile ps => paramsFit ps
  | .openJob ps => paramsFit ps
  | .feed ps => paramsFit ps
  | .closeJob ps => paramsFit ps
  | .readLost ps => paramsFit ps
  | .resume ps => paramsFit ps
  | .purgeStart ps => paramsFit ps
  | .purgeEnd ps => paramsFit ps
  | .serviceClear ps => paramsFit ps
  | .readMeters ps => paramsFit ps
  | .readRoster ps => paramsFit ps
  | .accountAdd ps => paramsFit ps
  | .accountCredit ps => paramsFit ps
  | .accountSet ps => paramsFit ps
  | .accountRemove ps => paramsFit ps
  | .readAccount ps => paramsFit ps
  | .listAccounts ps => paramsFit ps
  | .readStatement ps => paramsFit ps
  | .readRefunds ps => paramsFit ps
  | .discardRefund ps => paramsFit ps
  | .releaseEscrow ps => paramsFit ps
  | .restart ps => paramsFit ps
  | .unknownCommandMessage bytes => namesNoCommand bytes
  | .readTransaction _ => true
  | .storeWriteComplete => true
  | .leadingEdge _ => true
  | .trailingEdge _ => true
  | .doorOpenEdge => true
  | .doorClosedEdge => true
  | .windowDeadline sheet => 1 ≤ sheet && sheet < 65536
  | .purgeSettlingWaitEnd => true
  | .periodicPostDue => true
  | .cardInsertion => true
  | .cardRemoval => true
  | .cardReadAnswer _ => true
  | .cardWriteAck => true
  | .cardAnswerDeadline => true
  | .roll head p => frameGood head (.roll p)
  | .holdRequest head p => frameGood head (.holdRequest p)
  | .topUpRequest head p => frameGood head (.topUpRequest p)
  | .post head p => frameGood head (.post p)
  | .holdAnswer head p => frameGood head (.holdAnswer p)
  | .postAnswer head p => frameGood head (.postAnswer p)
  | .escrowQuery head p => frameGood head (.escrowQuery p)
  | .escrowAnswer head p => frameGood head (.escrowAnswer p)
  | .escrowRelease head p => frameGood head (.escrowRelease p)
  | .releaseAnswer head p => frameGood head (.releaseAnswer p)
  | .frameDiscarded bytes => (Frame.read bytes).isNone
  | .frameSendStart _ => true
  | .frameSent => true
  | .collision => true
  | .exchangeAnswerDeadline => true
  | .exchangeStart => true
  | .joiningWindowEnd => true
  | .rollAnswerDelayEnd => true
  | .accountRequestTaken => true
  | .holdLapse hold => hold.wf
  | .outboundRound => true
  | .sensorSample _ _ => true
  | .cardPresenceSample _ => true
  | .lineBusy => true

end Sys2Proof
end

