-- ==== Sys2Proof/Decode.lean ====
section
/-! DEFINITION. The block has no instruction words: spec/opcode_table.json gives no row any bits (log 37). What the
outside sends as bytes is read by `Message.read` and `Frame.read` (R171, R104); here stands the command that carries
each message or frame. -/

namespace Sys2Proof

/-- The command a word spells by the table's bits: the table gives none (log 37). -/
def decodeTableWord (_nbits _w : Nat) : Option Instr := none

/-- The command of the catalogue with its parameter bytes. -/
def Instr.ofMessage (o : Machine.Opcode) (ps : List Byte) : Instr :=
  match o with
  | .status => .status ps
  | .readNotice => .readNotice ps
  | .setOptions => .setOptions ps
  | .loadTariff => .loadTariff ps
  | .loadProfile => .loadProfile ps
  | .openJob => .openJob ps
  | .feed => .feed ps
  | .closeJob => .closeJob ps
  | .readLost => .readLost ps
  | .resume => .resume ps
  | .purgeStart => .purgeStart ps
  | .purgeEnd => .purgeEnd ps
  | .serviceClear => .serviceClear ps
  | .readMeters => .readMeters ps
  | .readRoster => .readRoster ps
  | .accountAdd => .accountAdd ps
  | .accountCredit => .accountCredit ps
  | .accountSet => .accountSet ps
  | .accountRemove => .accountRemove ps
  | .readAccount => .readAccount ps
  | .listAccounts => .listAccounts ps
  | .readStatement => .readStatement ps
  | .readRefunds => .readRefunds ps
  | .discardRefund => .discardRefund ps
  | .releaseEscrow => .releaseEscrow ps
  | .restart => .restart ps

/-- The event that a good frame is when it ends on the line. -/
def Instr.ofFrame (f : Frame) : Instr :=
  match f.body with
  | .roll p => .roll f.head p
  | .holdRequest p => .holdRequest f.head p
  | .topUpRequest p => .topUpRequest f.head p
  | .post p => .post f.head p
  | .holdAnswer p => .holdAnswer f.head p
  | .postAnswer p => .postAnswer f.head p
  | .escrowQuery p => .escrowQuery f.head p
  | .escrowAnswer p => .escrowAnswer f.head p
  | .escrowRelease p => .escrowRelease f.head p
  | .releaseAnswer p => .releaseAnswer f.head p

end Sys2Proof
end

