-- ==== Sys2Proof/Config.lean ====
section
/-! DEFINITION. The free values of the model: what the spec leaves without a value and the part still
sends. They have no body, so nothing can be proved of them but what holds of every value (log 10). -/

namespace Sys2Proof.Config

/-- A three-byte field of an answer frame for which the spec states no value: the granted amount of a
refused HOLD ANSWER (but NO_FUNDS, which carries 0), the posted amount of a refused POST ANSWER.
DESIGN CHOICE (log 10): free, drawn by the counter `State.free`; safe. -/
opaque freeAmount : Nat → BitVec 24

/-- The discount rate byte of a refused HOLD ANSWER, which the spec states no value for.
DESIGN CHOICE (log 10): free, drawn by the counter `State.free`; safe. -/
opaque freeRate : Nat → BitVec 8

end Sys2Proof.Config
end

