-- ==== Sys2Proof/Machine/Ops.lean ====
section
/-! DEFINITION. The operations every block shares: the update of one block of State, time points, notices,
results, the store write queue and the meters. -/

namespace Sys2Proof.Machine

/-- What a command answers. -/
abbrev Answer := Host.Outcome State Fault Refusal

/-! ## One block replaced -/

def State.setPort (s : State) (p : Port) : State := { s with port := p }
def State.setJob (s : State) (j : JobUnit) : State := { s with job := j }
def State.setTariff (s : State) (t : Option Tariff) : State := { s with tariff := t }
def State.setPath (s : State) (p : PathMonitor) : State := { s with path := p }
def State.setCard (s : State) (c : CardUnit) : State := { s with card := c }
def State.setLine (s : State) (l : LineUnit) : State := { s with line := l }
def State.setAccounts (s : State) (a : AccountUnit) : State := { s with accounts := a }
def State.setSettle (s : State) (u : SettlementUnit) : State := { s with settle := u }
def State.setMeter (s : State) (m : MeterUnit) : State := { s with meter := m }
def State.setStore (s : State) (t : Store) : State := { s with store := t }
def State.setFree (s : State) (n : Nat) : State := { s with free := n }
def State.setPending (s : State) (l : List Instr) : State := { s with pending := l }

/-- The job context replaced. -/
def State.setCtx (s : State) (c : JobContext) : State := s.setJob { s.job with ctx := c }

/-- A command or event of a part without power has no effect (R182; log 4). -/
def whenPowered (s : State) (f : State → State) : Answer :=
  .next (if s.powered then f s else s)

/-- An event that is not due does not happen: the state stays as it is (R55, R142; log 3). -/
def whenDue (due : State → Bool) (s : State) (f : State → State) : Answer :=
  whenPowered s fun s => if due s then f s else s

/-! ## Time points (R186) -/

/-- The distance from the point `p` to the count `t`, modulo 2^32. -/
def elapsed (t p : TimePoint) : Nat := (t - p).toNat

/-- The count `t` is beyond the point `p` (R186). -/
def beyond (t p : TimePoint) : Bool := 1 ≤ elapsed t p && elapsed t p ≤ 2147483647

/-- The count `t` is at the point `p` or beyond it. -/
def reached (t p : TimePoint) : Bool := elapsed t p ≤ 2147483647

/-- The point `ms` milliseconds after `p`. -/
def after (p : TimePoint) (ms : Nat) : TimePoint := p + BitVec.ofNat 32 ms

/-- Due times that may be absent. -/
def dueAt (s : State) (p : Option TimePoint) : Bool :=
  match p with
  | none => false
  | some t => reached s.timeBase t

/-! ## The notice queue (R179) -/

/-- A block raises a notice: it joins the end of the queue, or is discarded and sets the overflow mark
where the queue holds 16 (R179). -/
def raiseNotice (body : NoticeBody) (s : State) : State :=
  if s.port.notices.length < 16 then
    s.setPort { s.port with notices := s.port.notices ++ [{ time := s.timeBase, body := body }] }
  else s.setPort { s.port with overflow := true }

/-! ## Results (R172 to R176) -/

/-- The port places a result, clears the refused count and goes to RESULT (R174). -/
def placeResult (r : Result) (s : State) : State :=
  s.setPort { s.port with state := .result r, refused := 0, held := none }

/-- The owning block hands the port the result of the command in hand (R174). -/
def complete (reason : Reason) (values : Values) (s : State) : State :=
  match s.port.state with
  | .executing c => placeResult { command := some c, reason := reason, values := values } s
  | _ => s

/-- The result of the command in hand, kept until its store write stands in the queue (R174). -/
def holdResult (reason : Reason) (values : Values) (s : State) : State :=
  match s.port.state with
  | .executing c => s.setPort { s.port with held := some { command := some c, reason := reason, values := values } }
  | _ => s

/-- The store write of the command in hand stands in the queue: its held result is placed (R174, R181). -/
def releaseHeld (s : State) : State :=
  match s.port.held with
  | some r => placeResult r s
  | none => s

/-- A result in the result place is discarded: snapshots are abandoned, nothing else is undone
(R168, R170, R176). -/
def discardResult (s : State) : State :=
  match s.port.state with
  | .result _ =>
      ((s.setPort { s.port with state := .idle }).setMeter { s.meter with snapshot := none }).setAccounts
        { s.accounts with snapshot := none }
  | _ => s

/-- A command message taken by the port, in every port state (R173): refused in EXECUTING with the refused
count raised; otherwise an unread result is discarded, and the owning block takes the command. A message
of more than 240 parameter bytes is not well formed (R190). -/
def takeCommand (o : Opcode) (params : List Byte) (owner : State → State) (s : State) : State :=
  match s.port.state with
  | .executing _ => s.setPort { s.port with refused := min 255 (s.port.refused + 1) }
  | _ =>
    let s1 := discardResult s
    if params.length > 240 then placeResult { command := none, reason := .badFrame, values := .none } s1
    else owner (s1.setPort { s1.port with state := .executing o })

/-- A command without parameters: any parameter byte is a parameter count that does not fit (R173, log 7). -/
def takeBare (o : Opcode) (params : List Byte) (owner : State → State) (s : State) : State :=
  takeCommand o params (fun s => if params = [] then owner s else complete .badParam .none s) s

/-! ## Lists in key order -/

/-- Put `a` at its place in a list in rising key order, in the place of an entry with its key. -/
def putSorted {α : Type} (key : α → Nat) (a : α) : List α → List α
  | [] => [a]
  | b :: rest =>
    if key a < key b then a :: b :: rest
    else if key a = key b then a :: rest
    else b :: putSorted key a rest

/-- Remove the entries with key `k`. -/
def dropKey {α : Type} (key : α → Nat) (k : Nat) (l : List α) : List α :=
  l.filter fun b => key b != k

/-! ## The store (R181, R182) -/

/-- An account record in the store: replaced, or freed. -/
def putAccount (number : Nat) (r : Option Account) (l : List Account) : List Account :=
  match r with
  | some a => putSorted Account.number a l
  | none => dropKey Account.number number l

/-- A hold record in the store at its place: replaced, or freed. -/
def putHold (place : Nat) (r : Option Hold) (l : List Hold) : List Hold :=
  match r with
  | some h => putSorted Hold.place h l
  | none => dropKey Hold.place place l

/-- The records after a write has completed (R181). -/
def RecordWrite.apply (w : RecordWrite) (r : StoreRecords) : StoreRecords :=
  match w with
  | .options b => { r with options := some b }
  | .tariff t => { r with tariff := some t }
  | .profile p => { r with profile := some p }
  | .account n a => { r with accounts := putAccount n a r.accounts }
  | .hold p h => { r with holds := putHold p h r.holds }
  | .refunds l => { r with refunds := l }
  | .outbound l => { r with outbound := l }
  | .meters m => { r with meters := m }
  | .checkpoint c => { r with checkpoint := c }
  | .serial n => { r with serial := n }

def RecordWrite.isMeters : RecordWrite → Bool
  | .meters _ => true
  | _ => false

/-- A write as the store begins it: the meter record carries the counters of that moment (R165, R181). -/
def RecordWrite.begun (m : MeterRecord) (w : RecordWrite) : RecordWrite :=
  match w with
  | .meters _ => .meters m
  | w => w

/-- The places of the queue that are taken; the write in progress keeps its place until it completes
(R181; log 11). -/
def Store.taken (t : Store) : Nat := t.queue.length + (if t.current.isSome then 1 else 0)

/-- The store begins the oldest write when none is in progress (R181). -/
def beginWrite (s : State) : State :=
  match s.store.current, s.store.queue with
  | none, w :: rest =>
      s.setStore { s.store with
        current := some ({ w with what := w.what.begun s.meter.record }, s.timeBase), queue := rest }
  | _, _ => s

/-- A submitter hands the store a write: it joins the end of the queue, or waits for a place (R181). -/
def submit (tag : WriteTag) (w : RecordWrite) (s : State) : State :=
  if s.store.taken < 8 then
    beginWrite (s.setStore { s.store with queue := s.store.queue ++ [{ what := w, tag := tag }] })
  else s.setStore { s.store with waiting := s.store.waiting ++ [{ what := w, tag := tag }] }

/-- A command's store write: its result is returned once the write stands in the queue (R174, R181). -/
def submitAndAnswer (w : RecordWrite) (values : Values) (s : State) : State :=
  if s.store.taken < 8 then complete .ok values (submit .command w s)
  else holdResult .ok values (submit .command w s)

/-! ## Meters (R163 to R165) -/

/-- The end of the range of every meter and statement value (R122, R162). -/
def counterMax : Nat := 4294967295

/-- An addition to both values; each saturates on its own (R122, R164). -/
def Counter.add (n : Nat) (c : Counter) : Counter :=
  { life := min counterMax (c.life + n), period := min counterMax (c.period + n) }

/-- A clear takes the value it reported off the period value (R167, R170). -/
def Counter.clear (n : Nat) (c : Counter) : Counter := { c with period := c.period - n }

def UsageOf.zip {α β γ : Type} (f : α → β → γ) (a : UsageOf α) (b : UsageOf β) : UsageOf γ :=
  { stdMono := f a.stdMono b.stdMono, stdColour := f a.stdColour b.stdColour,
    largeMono := f a.largeMono b.largeMono, largeColour := f a.largeColour b.largeColour,
    duplex := f a.duplex b.duplex, sheets := f a.sheets b.sheets }

def UsageOf.map {α β : Type} (f : α → β) (a : UsageOf α) : UsageOf β :=
  { stdMono := f a.stdMono, stdColour := f a.stdColour, largeMono := f a.largeMono,
    largeColour := f a.largeColour, duplex := f a.duplex, sheets := f a.sheets }

/-- The values of a usage record in the order of the conventions. -/
def UsageOf.toList {α : Type} (a : UsageOf α) : List α :=
  [a.stdMono, a.stdColour, a.largeMono, a.largeColour, a.duplex, a.sheets]

def FiguresOf.zip {α β γ : Type} (f : α → β → γ) (a : FiguresOf α) (b : FiguresOf β) : FiguresOf γ :=
  { usage := UsageOf.zip f a.usage b.usage, charged := f a.charged b.charged, late := f a.late b.late,
    jobs := f a.jobs b.jobs }

def FiguresOf.map {α β : Type} (f : α → β) (a : FiguresOf α) : FiguresOf β :=
  { usage := UsageOf.map f a.usage, charged := f a.charged, late := f a.late, jobs := f a.jobs }

def FiguresOf.toList {α : Type} (a : FiguresOf α) : List α :=
  UsageOf.toList a.usage ++ [a.charged, a.late, a.jobs]

def MetersOf.zip {α β γ : Type} (f : α → β → γ) (a : MetersOf α) (b : MetersOf β) : MetersOf γ :=
  { usage := UsageOf.zip f a.usage b.usage, lost := f a.lost b.lost,
    jams := { late := f a.jams.late b.jams.late, stay := f a.jams.stay b.jams.stay,
              early := f a.jams.early b.jams.early, short := f a.jams.short b.jams.short,
              stray := f a.jams.stray b.jams.stray, door := f a.jams.door b.jams.door },
    charged := { purse := f a.charged.purse b.charged.purse, account := f a.charged.account b.charged.account,
                 offline := f a.charged.offline b.charged.offline },
    jobs := { purse := f a.jobs.purse b.jobs.purse, account := f a.jobs.account b.jobs.account,
              offline := f a.jobs.offline b.jobs.offline } }

def MetersOf.map {α β : Type} (f : α → β) (a : MetersOf α) : MetersOf β :=
  { usage := UsageOf.map f a.usage, lost := f a.lost,
    jams := { late := f a.jams.late, stay := f a.jams.stay, early := f a.jams.early, short := f a.jams.short,
              stray := f a.jams.stray, door := f a.jams.door },
    charged := { purse := f a.charged.purse, account := f a.charged.account, offline := f a.charged.offline },
    jobs := { purse := f a.jobs.purse, account := f a.jobs.account, offline := f a.jobs.offline } }

/-- The nineteen values in the order of the table of R162. -/
def MetersOf.toList {α : Type} (a : MetersOf α) : List α :=
  UsageOf.toList a.usage ++ [a.lost, a.jams.late, a.jams.stay, a.jams.early, a.jams.short, a.jams.stray,
    a.jams.door, a.charged.purse, a.charged.account, a.charged.offline, a.jobs.purse, a.jobs.account,
    a.jobs.offline]

/-- The meter unit writes its record: at most one write at a time, a change during a write in progress
submits a new one once that completes (R165). -/
def noteMeters (s : State) : State :=
  if (s.store.queue ++ s.store.waiting).any (fun w => w.what.isMeters) then s
  else if s.store.current.any (fun w => w.1.what.isMeters) then s.setStore { s.store with metersAgain := true }
  else submit .plain (.meters s.meter.record) s

/-- The counters after an addition (R163, R164). -/
def MeterRecord.plus (n : MetersOf Nat) (r : MeterRecord) : MeterRecord :=
  { r with counters := MetersOf.zip Counter.add n r.counters }

/-- The counters take an addition (R163), and the record is written where a counter changed: one whose values added to
are all saturated does not (R164, R165). -/
def addMeters (n : MetersOf Nat) (s : State) : State :=
  if s.meter.record.plus n = s.meter.record then s
  else noteMeters (s.setMeter { s.meter with record := s.meter.record.plus n })

/-- Nothing to add. -/
def MetersOf.zero : MetersOf Nat := MetersOf.all 0

/-- A delivery's usage: the faces in the sheet's class, one duplex sheet for two faces, one sheet (R16, R163). -/
def Sheet.usage (d : Sheet) : Usage :=
  { stdMono := if d.size = .std ∧ d.mode = .mono then d.faces else 0
    stdColour := if d.size = .std ∧ d.mode = .colour then d.faces else 0
    largeMono := if d.size = .large ∧ d.mode = .mono then d.faces else 0
    largeColour := if d.size = .large ∧ d.mode = .colour then d.faces else 0
    duplex := if d.faces = 2 then 1 else 0
    sheets := 1 }

/-- One value under its funding kind. -/
def FundsOf.only (k : Option FundingKind) (n : Nat) : FundsOf Nat :=
  { purse := if k = some .purse then n else 0, account := if k = some .account then n else 0,
    offline := if k = some .offline then n else 0 }

/-- One jam of a kind. -/
def JamsOf.only (k : JamKind) : JamsOf Nat :=
  { late := if k = .late then 1 else 0, stay := if k = .stay then 1 else 0, early := if k = .early then 1 else 0,
    short := if k = .short then 1 else 0, stray := if k = .stray then 1 else 0, door := if k = .door then 1 else 0 }

/-! ## Free values (log 10) -/

/-- A fresh free amount and rate, and the state with its counter advanced. -/
def freshAmount (s : State) : Nat := (Config.freeAmount s.free).toNat
def freshRate (s : State) : Nat := (Config.freeRate s.free).toNat
def advanceFree (s : State) : State := s.setFree (s.free + 1)

end Sys2Proof.Machine
end

