-- ==== Sys2Proof/Machine/Operands.lean ====
section
/-! DEFINITION. The parameters of the engine's commands: what each command's parameter bytes spell, in the
order and widths of R190. `none` is a parameter count (or a code) that does not fit the command (R173).
The codes of enumerated parameters are numbered from 0 in the order the spec names them, as the reason
codes are (DESIGN CHOICE, log 5): STD 0, LARGE 1; MONO 0, COLOUR 1; CARD 0, ACCOUNT 1; OPEN 0, SUSPENDED 1;
option off 0, on 1. -/

namespace Sys2Proof.Machine

/-- The funding of OPEN JOB: CARD, or ACCOUNT with an account number (1.2). -/
inductive FundingOperand where
  | card
  | account (number : Nat)
deriving DecidableEq, Repr

def FundingOperand.read (ps : List Byte) : Option FundingOperand :=
  if ps.length = 1 ∧ field ps 0 1 = 0 then some .card
  else if ps.length = 3 ∧ field ps 0 1 = 1 then some (.account (field ps 1 2))
  else none

/-- The parameters of FEED, before their range check (R9, 10.4). -/
structure FeedOperand where
  set : Nat
  page : Nat
  size : Nat
  mode : Nat
  faces : Nat
  front : Nat
  back : Nat
deriving DecidableEq, Repr

def FeedOperand.read (ps : List Byte) : Option FeedOperand :=
  if ps.length = 9 then
    some { set := field ps 0 2, page := field ps 2 2, size := field ps 4 1, mode := field ps 5 1,
           faces := field ps 6 1, front := field ps 7 1, back := field ps 8 1 }
  else none

/-- The tag and sheet of a FEED in range (R9): set and page 1..9,999, faces 1 or 2, each coverage class
0..3; the back coverage is read only for two-faced COLOUR sheets. Where it is not read the sheet holds 0 for it: R50
does not say what its record copies (DESIGN CHOICE, log 41). -/
def FeedOperand.sheet (f : FeedOperand) : Option (Tag × Sheet) :=
  let backRead := f.faces = 2 ∧ f.mode = 1
  if (1 ≤ f.set ∧ f.set ≤ 9999) ∧ (1 ≤ f.page ∧ f.page ≤ 9999) ∧ f.size ≤ 1 ∧ f.mode ≤ 1 ∧
      (f.faces = 1 ∨ f.faces = 2) ∧ f.front ≤ 3 ∧ (backRead → f.back ≤ 3) then
    some ({ set := f.set, page := f.page },
      { size := if f.size = 0 then .std else .large, mode := if f.mode = 0 then .mono else .colour,
        faces := f.faces, front := f.front, back := if backRead then f.back else 0 })
  else none

/-- The tariff LOAD TARIFF carries: the fields of R26 in its order. The base prices fill two bytes each
(R27 says that they fill their whole fields; log 6). -/
def Tariff.read (ps : List Byte) : Option Tariff :=
  if ps.length = 23 then
    some { stdMono := field ps 0 2, stdColour := field ps 2 2, largeMono := field ps 4 2, largeColour := field ps 6 2,
           light := field ps 8 1, normal := field ps 9 1, heavy := field ps 10 1, full := field ps 11 1,
           backFace := field ps 12 1, t1 := field ps 13 2, t2 := field ps 15 2, t3 := field ps 17 2,
           d0 := field ps 19 1, d1 := field ps 20 1, d2 := field ps 21 1, d3 := field ps 22 1 }
  else none

/-- The checks of R27. -/
def Tariff.inRange (t : Tariff) : Bool :=
  t.backFace ≤ 100 && (1 ≤ t.t1 && t.t3 ≤ 65534) && (t.t1 < t.t2 && t.t2 < t.t3)
    && t.d0 ≤ 90 && t.d1 ≤ 90 && t.d2 ≤ 90 && t.d3 ≤ 90

/-- The bytes a tariff is carried in (R27, R190). -/
def Tariff.bytes (t : Tariff) : List Byte :=
  spell 2 t.stdMono ++ spell 2 t.stdColour ++ spell 2 t.largeMono ++ spell 2 t.largeColour ++ spell 1 t.light
    ++ spell 1 t.normal ++ spell 1 t.heavy ++ spell 1 t.full ++ spell 1 t.backFace ++ spell 2 t.t1 ++ spell 2 t.t2
    ++ spell 2 t.t3 ++ spell 1 t.d0 ++ spell 1 t.d1 ++ spell 1 t.d2 ++ spell 1 t.d3

/-- The profile LOAD PROFILE carries: the fields of R45 in its order (R46). -/
def Profile.read (ps : List Byte) : Option Profile :=
  if ps.length = 22 then
    some { feedReg := field ps 0 2, regFuse := field ps 2 2, fuseExit := field ps 4 2, fuseDuplex := field ps 6 2,
           duplexReg := field ps 8 2, stayStd := field ps 10 2, stayLarge := field ps 12 2,
           tolerance := field ps 14 1, pick := field ps 15 2, thFeed := field ps 17 1, thReg := field ps 18 1,
           thFuse := field ps 19 1, thDuplex := field ps 20 1, thExit := field ps 21 1 }
  else none

def Profile.segments (p : Profile) : List Nat :=
  [p.feedReg, p.regFuse, p.fuseExit, p.fuseDuplex, p.duplexReg]

/-- The checks of R46. -/
def Profile.inRange (p : Profile) : Bool :=
  p.segments.all (fun x => 20 ≤ x && x ≤ 5000) && (50 ≤ p.stayStd && p.stayStd ≤ 5000)
    && (50 ≤ p.stayLarge && p.stayLarge ≤ 5000) && (5 ≤ p.tolerance && p.tolerance ≤ 50)
    && (50 ≤ p.pick && p.pick ≤ 5000)
    && [p.thFeed, p.thReg, p.thFuse, p.thDuplex, p.thExit].all (fun x => x ≤ 15)
    && p.segments.all (fun x => p.stayStd < x && p.stayLarge < x)

/-- The bytes a profile is carried in (R46, R190). -/
def Profile.bytes (p : Profile) : List Byte :=
  spell 2 p.feedReg ++ spell 2 p.regFuse ++ spell 2 p.fuseExit ++ spell 2 p.fuseDuplex ++ spell 2 p.duplexReg
    ++ spell 2 p.stayStd ++ spell 2 p.stayLarge ++ spell 1 p.tolerance ++ spell 2 p.pick ++ spell 1 p.thFeed
    ++ spell 1 p.thReg ++ spell 1 p.thFuse ++ spell 1 p.thDuplex ++ spell 1 p.thExit

/-- An option parameter, off or on (R166, R169). -/
def optionFlag (n : Nat) : Option Bool :=
  if n = 0 then some false else if n = 1 then some true else none

/-- ACCOUNT ADD: number, credit limit, discount rate, opening balance (R143). -/
structure AccountAddOperand where
  number : Nat
  limit : Nat
  discount : Nat
  balance : Int
deriving DecidableEq, Repr

def AccountAddOperand.read (ps : List Byte) : Option AccountAddOperand :=
  if ps.length = 10 then
    some { number := field ps 0 2, limit := field ps 2 3, discount := field ps 5 1,
           balance := signed32 (field ps 6 4) }
  else none

/-- The range check of ACCOUNT ADD (R143, check 1). -/
def AccountAddOperand.inRange (a : AccountAddOperand) : Bool :=
  a.number != 0 && a.limit ≤ 100000 && a.discount ≤ 50 && (-8388608 ≤ a.balance && a.balance ≤ 16777215)

/-- ACCOUNT CREDIT: number and signed amount (R144). -/
structure AccountCreditOperand where
  number : Nat
  amount : Int
deriving DecidableEq, Repr

def AccountCreditOperand.read (ps : List Byte) : Option AccountCreditOperand :=
  if ps.length = 6 then some { number := field ps 0 2, amount := signed32 (field ps 2 4) } else none

/-- ACCOUNT SET: number, credit limit, discount rate, status (R145). -/
structure AccountSetOperand where
  number : Nat
  limit : Nat
  discount : Nat
  status : Nat
deriving DecidableEq, Repr

def AccountSetOperand.read (ps : List Byte) : Option AccountSetOperand :=
  if ps.length = 7 then
    some { number := field ps 0 2, limit := field ps 2 3, discount := field ps 5 1, status := field ps 6 1 }
  else none

/-- The status a code names (R145). -/
def accountStatus (n : Nat) : Option AccountStatus :=
  if n = 0 then some .opened else if n = 1 then some .suspended else none

/-- A single account number (R146, R147). -/
def accountNumber (ps : List Byte) : Option Nat :=
  if ps.length = 2 then some (field ps 0 2) else none

/-- READ STATEMENT: account number and clear option code (R169). -/
def statementOperand (ps : List Byte) : Option (Nat × Nat) :=
  if ps.length = 3 then some (field ps 0 2, field ps 2 1) else none

/-- READ METERS: clear option (R166). -/
def metersOperand (ps : List Byte) : Option Bool :=
  if ps.length = 1 then optionFlag (field ps 0 1) else none

/-- DISCARD REFUND: card serial and escrow tag (R101). -/
def refundOperand (ps : List Byte) : Option (Nat × Nat) :=
  if ps.length = 6 then some (field ps 0 4, field ps 4 2) else none

/-- RELEASE ESCROW: amount kept (R102). -/
def amountOperand (ps : List Byte) : Option Nat :=
  if ps.length = 3 then some (field ps 0 3) else none

end Sys2Proof.Machine
end

