-- ==== Sys2Proof/Machine/Flags.lean ====
section
/-! DEFINITION. The conditions the part computes from its state and keeps in no field: the READY and NOTICE
outputs, path clear, the free amount, an account's available amount and its over-limit condition, home
resolution, shadowing, and the values of STATUS. -/

namespace Sys2Proof.Machine

/-- READY: a result waits (R172). -/
def State.ready (s : State) : Bool :=
  match s.port.state with
  | .result _ => true
  | _ => false

/-- NOTICE: the notice queue is not empty (R179). -/
def State.notice (s : State) : Bool := !s.port.notices.isEmpty

/-- The six filtered states. -/
def Filters.states (f : Filters) : FilterStates :=
  { feed := f.feed.on, reg := f.reg.on, fuse := f.fuse.on, duplex := f.duplex.on, exit := f.exit.on, door := f.door.on }

/-- Some path sensor is COVERED, as filtered. -/
def FilterStates.covered (f : FilterStates) : Bool := f.feed || f.reg || f.fuse || f.duplex || f.exit

/-- Path clear: all five sensors CLEAR and the door CLOSED, as filtered (R64). -/
def Filters.clear (f : Filters) : Bool := !f.states.covered && !f.states.door

/-- The free amount F − C − Rp (R1). -/
def JobContext.free (c : JobContext) : Nat := c.funded - c.charged - c.reserved

/-- The job is open: its state is other than NONE. -/
def State.jobOpen (s : State) : Bool := s.job.ctx.state != .none

/-- The own station number, or none (R114, R183). -/
def State.own (s : State) : Option Nat := s.options.station

/-- The station number written into and looked for in an escrow; a station with none takes 0 (R90). -/
def State.cardStation (s : State) : Nat := s.options.station.getD 0

/-- The unused part of a hold (R123). -/
def Hold.unused (h : Hold) : Nat := h.granted - h.posted

/-- The sum of the unused parts of the ACTIVE holds on an account (R123). -/
def heldOn (pool : List Hold) (account : Nat) : Nat :=
  ((pool.filter fun h => h.account == account && h.state == .active).map Hold.unused).sum

/-- An account's available amount (R123). -/
def AccountUnit.available (u : AccountUnit) (a : Account) : Int :=
  a.balance + a.limit - heldOn u.pool a.number

/-- The account is over its limit while its available amount is below 0 (R123). -/
def AccountUnit.overLimit (u : AccountUnit) (a : Account) : Bool := u.available a < 0

def AccountUnit.find (u : AccountUnit) (number : Nat) : Option Account :=
  u.table.find? fun a => a.number == number

def AccountUnit.findHold (u : AccountUnit) (id : HoldId) : Option Hold :=
  u.pool.find? fun h => h.hold == id

/-- A home range contains an account (R118). -/
def HomeRange.contains (h : HomeRange) (a : Nat) : Bool := h.first ≤ a && a ≤ h.last

/-- Two home ranges share an account number (R119). -/
def HomeRange.meets (h k : HomeRange) : Bool := h.first ≤ k.last && k.first ≤ h.last

/-- A roster entry claims an account. -/
def RosterEntry.claims (e : RosterEntry) (a : Nat) : Bool := e.home.any (fun h => h.contains a)

/-- Home resolution: the lowest-numbered roster entry whose range contains the account, PRESENT or ABSENT.
The roster is in station order (R117, R118). -/
def resolveHome (roster : List RosterEntry) (a : Nat) : Option RosterEntry :=
  roster.find? fun e => e.claims a

/-- The account resolves to this station (R118). -/
def State.keeps (s : State) (a : Nat) : Bool :=
  match resolveHome s.line.roster a, s.own with
  | some e, some n => e.station == n
  | _, _ => false

/-- A lower-numbered roster station claims the account (R124, R147). -/
def State.shadowed (s : State) (a : Nat) : Bool :=
  match s.own with
  | some n => s.line.roster.any fun e => e.station < n && e.claims a
  | none => false

/-- The outbound queue's entries and reserved places together (R154). -/
def SettlementUnit.occupied (u : SettlementUnit) : Nat :=
  u.queue.length + (if u.reservedJob then 1 else 0) + u.reservedCard

def SettlementUnit.reservedPlaces (u : SettlementUnit) : Nat :=
  (if u.reservedJob then 1 else 0) + u.reservedCard

/-- The refund list's entries and its reserved place together (R92). -/
def CardUnit.refundsOccupied (c : CardUnit) : Nat :=
  c.refunds.length + (if c.refundReserved then 1 else 0)

/-- The purse image's escrow belongs to this station (R90, R94). -/
def State.escrowIsOwn (s : State) (p : Purse) : Bool := p.escrow != 0 && p.station == some s.cardStation

/-- The escrow on the card is the open purse job's own (R94). -/
def State.escrowIsJobs (s : State) (i : PurseImage) : Bool :=
  s.jobOpen && s.job.ctx.funding == some .purse && s.escrowIsOwn i.purse
    && s.job.ctx.purse == some { card := i.serial, tag := some i.purse.tag }

/-- The values of STATUS at the moment it is taken (R178). -/
def State.statusReport (s : State) : StatusReport :=
  let c := s.job.ctx
  let ready := s.card.state == .ready
  { jobState := c.state, serial := c.serial, funding := c.funding, funded := c.funded, charged := c.charged,
    reserved := c.reserved, free := c.free, acked := c.account.map AccountPart.acked,
    topUp := if c.funding = some .account then some c.topUp else none,
    closeReason := c.closeReason, fed := c.fed, lost := c.lost, redone := c.redone,
    pathState := s.path.state, filters := s.path.filters.states, pathClear := s.path.filters.clear,
    sheets := s.path.queue.length, purgeCount := s.path.purgeCount, jam := s.path.jam,
    cardState := s.card.state, writing := s.card.writing.isSome, resolving := s.card.resolving,
    cardSerial := if ready then s.card.identity.map CardIdentity.serial else none,
    cardKind := if ready then s.card.identity.map CardIdentity.kind else none,
    cardAccount := if ready then
        s.card.identity.bind (fun i => if i.kind = .account then some i.account else none) else none,
    image := s.card.image, lineState := s.line.state, station := s.own,
    outbound := s.settle.queue.length, reservedPlaces := s.settle.reservedPlaces,
    notices := s.port.notices.length, overflow := s.port.overflow }

end Sys2Proof.Machine
end

