-- ==== Sys2Proof/Machine/Exchange.lean ====
section
/-! DEFINITION. What the blocks of the station ask of one another without waiting for the outcome: an
exchange of the shop line controller (R110), a request at the own account unit (R130), an entry of the
outbound queue (R155) or of the refund list (R93), a purse write (R88), a path monitor state (R42). -/

namespace Sys2Proof.Machine

/-! ## Exchanges and frames waiting to be sent -/

/-- The line state is MEMBER (R114). -/
def State.member (s : State) : Bool := s.line.state == .member

/-- A source's slot holds a pending exchange (R110). -/
def State.slotBusy (s : State) (src : Source) : Bool :=
  s.line.inProgress.any (fun e => e.source == src) || s.line.pending.any (fun e => e.source == src)

/-- A taken exchange is placed in the source's slot and waits its turn (R110). -/
def askExchange (src : Source) (dest : Nat) (body : Payload) (attempts : Nat) (s : State) : State :=
  s.setLine { s.line with pending := s.line.pending ++
    [{ source := src, dest := dest, body := body, attempts := attempts, number := 0, awaiting := none }] }

/-- A frame becomes ready in its place, with collision count 0 (R108). -/
def readyFrame (p : Place) (f : Frame) (s : State) : State :=
  s.setLine { s.line with waiting := s.line.waiting ++ [{ place := p, frame := f, k := 0 }] }

/-- A place is emptied. -/
def emptyPlace (p : Place) (s : State) : State :=
  s.setLine { s.line with
    waiting := s.line.waiting.filter fun f => f.place != p
    sending := if s.line.sending = some p then none else s.line.sending }

/-- A place holds a frame. -/
def State.placeTaken (s : State) (p : Place) : Bool := s.line.waiting.any fun f => f.place == p

/-- The frame of an exchange's request (R104, R110). -/
def State.requestFrame (s : State) (e : Exchange) : Frame :=
  { head := { dest := e.dest, source := s.own.getD 0, exch := e.number }, body := e.body }

/-- The exchanges of a source are dropped (R149). -/
def dropExchanges (src : Source) (s : State) : State :=
  let s1 := s.setLine { s.line with pending := s.line.pending.filter fun e => e.source != src }
  if s.line.inProgress.any (fun e => e.source == src) then
    emptyPlace .request (s1.setLine { s1.line with inProgress := none })
  else s1

/-- A roster entry is marked PRESENT or ABSENT; the station's own entry is always PRESENT (R107, R112, R117). -/
def markPresence (station : Nat) (present : Bool) (s : State) : State :=
  s.setLine { s.line with roster := s.line.roster.map fun e =>
    if e.station = station ∧ s.own ≠ some station then { e with present := present } else e }

/-- The roster marks a station PRESENT. -/
def State.marksPresent (s : State) (station : Nat) : Bool :=
  s.line.roster.any fun e => e.station == station && e.present

/-! ## The account unit's own place (R130) -/

/-- A request of this station's own blocks is handed to the account unit (R130, R156; log 16). -/
def handOwn (origin : Origin) (body : Payload) (s : State) : State :=
  s.setAccounts { s.accounts with arrivals := s.accounts.arrivals ++ [{ origin := origin, body := body }] }

/-- A request of this origin is waiting or in hand. -/
def State.ownBusy (s : State) (origin : Origin) : Bool :=
  s.accounts.arrivals.any (fun a => a.origin == origin)
    || s.accounts.inHand.any (fun h => h.arrival.origin == origin)

/-! ## The outbound settlement queue (R154, R155) -/

/-- The identity of an entry (R155). -/
def OutEntry.key : OutEntry → EntryKey
  | .finalPost _ hold _ _ _ _ _ => .finalPost hold
  | .escrowRelease dest serial tag => .escrowRelease dest serial tag

def OutEntry.dest : OutEntry → Nat
  | .finalPost dest _ _ _ _ _ _ => dest
  | .escrowRelease dest _ _ => dest

/-- The entry with an identity. -/
def SettlementUnit.find (u : SettlementUnit) (k : EntryKey) : Option OutEntry :=
  u.queue.find? fun e => e.key == k

/-- The queue changed: a write of the whole queue is submitted (R154). -/
def setOutbound (l : List OutEntry) (s : State) : State :=
  submit .plain (.outbound l) (s.setSettle { s.settle with queue := l })

/-- An entry is added at the end, or takes the place of the one with its identity (R155). -/
def addOutbound (e : OutEntry) (s : State) : State :=
  setOutbound
    (if s.settle.queue.any (fun x => x.key == e.key) then
      s.settle.queue.map fun x => if x.key = e.key then e else x
    else s.settle.queue ++ [e]) s

/-! ## The refund list (R92, R93) -/

/-- The list changed: a write of the whole list is submitted (R92). -/
def setRefunds (tag : WriteTag) (l : List RefundEntry) (s : State) : State :=
  submit tag (.refunds l) (s.setCard { s.card with refunds := l })

def RefundEntry.names (e : RefundEntry) (serial tag : Nat) : Bool := e.serial == serial && e.tag == tag

def CardUnit.findRefund (c : CardUnit) (serial tag : Nat) : Option RefundEntry :=
  c.refunds.find? fun e => e.names serial tag

/-- A settlement fills its reserved place, or the standing entry with its serial and tag (R93). -/
def fillRefund (serial tag charged : Nat) (s : State) : State :=
  let e : RefundEntry := { serial := serial, tag := tag, charged := charged, state := .held }
  setRefunds .plain
    (if s.card.refunds.any (fun x => x.names serial tag) then
      s.card.refunds.map fun x => if x.names serial tag then e else x
    else s.card.refunds ++ [e])
    (s.setCard { s.card with refundReserved := false })

/-- The entry with a serial and tag is removed, where one stands (R93). -/
def removeRefund (serial tag : Nat) (s : State) : State :=
  if s.card.refunds.any (fun x => x.names serial tag) then
    setRefunds .plain (s.card.refunds.filter fun x => !x.names serial tag) s
  else s

/-! ## Purse writes (R88 to R91) -/

/-- The end of the range of a purse figure and of an account balance (R83, R122). -/
def purseMax : Nat := 16777215

/-- The highest slot counter: a slot that carries it leaves no room for a further write (R85, R88). -/
def counterEnd : Nat := 4294967295

/-- The purse image, where a purse write can be taken: READY, not WRITING, not RESOLVING but for the write
of R97, and room in the counter (R88). -/
def State.writableImage (s : State) (resolving : Bool) : Option PurseImage :=
  match s.card.image with
  | some i =>
      if s.card.state = .ready ∧ s.card.writing = none ∧ s.card.resolving = resolving ∧ i.purse.counter < counterEnd
      then some i else none
  | none => none

/-- The figures of a move of `m` (R90). -/
def movedPurse (station : Nat) (p : Purse) (m : Nat) : Purse :=
  { balance := p.balance - m, escrow := p.escrow + m,
    station := if p.escrow = 0 then some station else p.station,
    tag := if p.escrow = 0 then (p.counter + 1) % 65536 else p.tag,
    counter := p.counter + 1 }

/-- The figures of a settlement write that charges `c` (R91). -/
def settledPurse (p : Purse) (c : Nat) : Purse :=
  { balance := min purseMax (p.balance + p.escrow - c), escrow := 0, station := none, tag := 0,
    counter := p.counter + 1 }

/-- The whole slot is sent to the spare slot, and the card is READY, WRITING (R88). -/
def startWrite (purpose : WritePurpose) (i : PurseImage) (p : Purse) (s : State) : State :=
  s.setCard { s.card with
    writing := some { purpose := purpose, purse := p }
    request := some (.write i.slot.spare.record p.bytes, s.timeBase) }

/-- The image on which a settlement write for the job can be made (R91): the card's serial, this station's
escrow with the job's tag, and C at most the escrow. -/
def State.settleableImage (s : State) (serial tag charged : Nat) : Option PurseImage :=
  match s.writableImage false with
  | some i =>
      if i.serial = serial ∧ s.escrowIsOwn i.purse = true ∧ i.purse.tag = tag ∧ charged ≤ i.purse.escrow
      then some i else none
  | none => none

/-! ## The path monitor's state (R42, R59) -/

/-- The sample period of a path state (R42). -/
def PathState.period : PathState → Nat
  | .idle => 20
  | _ => 1

/-- The path monitor enters a state. Where the period changes, the next sample is due one new period after
the last one, or at the next count where that time has already passed (R42). A sample that is due at the count of the
change and has not been taken yet is still taken at that count, as the last one of the old period, so that no more than
20 ms lie between the last IDLE sample and the first ACTIVE one (R60; DEDUCED, log 40). -/
def enterPath (st : PathState) (s : State) : State :=
  if st.period = s.path.state.period ∨ reached s.timeBase s.path.sampleDue = true then
    s.setPath { s.path with state := st }
  else
    let due := after s.path.lastSample st.period
    s.setPath { s.path with
      state := st
      sampleDue := if beyond s.timeBase due then after s.timeBase 1 else due }

end Sys2Proof.Machine
end

