-- ==== Sys2Proof/Machine/Pricing.lean ====
section
/-! DEFINITION. The pricing unit's arithmetic (chapter Sheet Pricing). Every division truncates. -/

namespace Sys2Proof.Machine

/-- The tariff's base price for a size and mode (R26, R29). -/
def Tariff.base (t : Tariff) (size : SheetSize) (mode : ColourMode) : Nat :=
  match size, mode with
  | .std, .mono => t.stdMono
  | .std, .colour => t.stdColour
  | .large, .mono => t.largeMono
  | .large, .colour => t.largeColour

/-- The percentage of a coverage class (R26). -/
def Tariff.coverage (t : Tariff) (c : Nat) : Nat :=
  if c = 0 then t.light else if c = 1 then t.normal else if c = 2 then t.heavy else t.full

/-- One face before the back-face percentage: the base, by its coverage for COLOUR (R29, stages 1 and 2a). -/
def Tariff.face (t : Tariff) (d : Sheet) (cover : Nat) : Nat :=
  match d.mode with
  | .mono => t.base d.size .mono
  | .colour => t.base d.size .colour * t.coverage cover / 100

/-- The gross price: front amount and, with two faces, the back amount (R29, R30). -/
def Tariff.gross (t : Tariff) (d : Sheet) : Nat :=
  t.face d d.front + (if d.faces = 2 then t.face d d.back * t.backFace / 100 else 0)

/-- The volume tier's discount for an ordinal (R30). -/
def Tariff.tier (t : Tariff) (n : Nat) : Nat :=
  if n ≤ t.t1 then t.d0 else if n ≤ t.t2 then t.d1 else if n ≤ t.t3 then t.d2 else t.d3

/-- The price in hmu at an ordinal with an account discount (R29 to R31). -/
def Tariff.price (t : Tariff) (d : Sheet) (ordinal discount : Nat) : Nat :=
  t.gross d * (100 - t.tier ordinal) / 100 * (100 - discount) / 100

/-- The reservation of a price: rounded up to a whole mu (R34). -/
def reservation (price : Nat) : Nat := (price + 99) / 100

/-- Half-up rounding of hmu to mu (R35). -/
def roundHalfUp (x : Nat) : Nat := (x + 50) / 100

/-- The charge of a delivered sheet: the growth of the rounded delivered sum (R35). -/
def charge (delivered price : Nat) : Nat := roundHalfUp (delivered + price) - roundHalfUp delivered

/-- The ordinal of the next feed: (fed − lost) + 1, saturating at 65,535 (R33). -/
def nextOrdinal (fed lost : Nat) : Nat := min 65535 (fed - lost + 1)

end Sys2Proof.Machine
end

