-- ==== Sys2Proof/Machine/Job.lean ====
section
/-! DEFINITION. The job unit (chapters Jobs and the Feed Gate, Remote Funding and Settlement): the job
context, the feed gate, funding, deliveries and losses, and the settlement of a job. -/

namespace Sys2Proof.Machine

/-! ## Context and checkpoint -/

/-- What the checkpoint of a job holds (R25). A job that is AUTHORISING has none (R8). -/
def JobContext.checkpoint (c : JobContext) : Option Checkpoint :=
  match c.serial, c.funding with
  | some n, some k =>
      if c.state = .authorising then none
      else some { serial := n, funding := k, openingCard := c.openingCard, purse := c.purse, account := c.account,
                  funded := c.funded, charged := c.charged, delivered := c.delivered, usage := c.usage }
  | _, _ => none

/-- A checkpoint write of the job as it stands (R25). -/
def writeCheckpoint (s : State) : State :=
  match s.job.ctx.checkpoint with
  | some k => submit .plain (.checkpoint (some k)) s
  | none => s

/-- The context of a job that ended: NONE, its optional parts and close reason absent, its amounts and
counts as they stood (R1, R24, 1.6; log 12). -/
def JobContext.ended (c : JobContext) : JobContext :=
  { c with serial := none, state := .none, funding := none, openingCard := none, purse := none, account := none,
           topUp := .none, closeReason := none }

/-- The serial after `n`, from 65,535 to 1 (R3). -/
def serialAfter (n : Nat) : Nat := if n = 65535 then 1 else n + 1

/-- A job takes its serial: the counter advances by one with a store write (R3). -/
def takeSerial (tag : WriteTag) (s : State) : State :=
  submit tag (.serial (serialAfter s.job.nextSerial))
    (s.setJob { s.job with nextSerial := serialAfter s.job.nextSerial })

/-- The job's home is this station: the home recorded at the opening is the station of its hold id
(R4, R187; log 15). -/
def AccountPart.isLocal (a : AccountPart) : Bool := a.home == a.hold.station

def State.jobIsLocal (s : State) : Bool := s.job.ctx.account.any AccountPart.isLocal

/-! ## The end of a job (R24) -/

/-- The job unit returns to NONE: reservations released, waiting requests and exchanges dropped
(R5, R24, R149). -/
def jobToNone (s : State) : State :=
  let s1 := s.setJob { s.job with ctx := s.job.ctx.ended, removed := false, feed := none, waiting := [],
                                  postDue := none, awaitsCard := false }
  let s2 := s1.setCard { s1.card with refundReserved := false }
  let s3 := s2.setSettle { s2.settle with reservedJob := false }
  dropExchanges .job s3

/-- The items of the JOB END notice (R24). -/
def JobContext.endItems (c : JobContext) (route : Route) : JobEndItems :=
  { serial := c.serial.getD 0, delivered := c.usage.sheets, lostNotRedone := c.lost - c.redone,
    charged := c.charged, funding := c.funding.getD .purse, route := route, closeReason := c.closeReason }

/-- The settlement route is finished (R24): the job is counted, JOB END raised, the checkpoint cleared, the
context NONE, and an ACTIVE path goes to IDLE (R61). -/
def endJob (route : Route) (s : State) : State :=
  let s1 := addMeters { MetersOf.zero with jobs := FundsOf.only s.job.ctx.funding 1 } s
  let s2 := raiseNotice (.jobEnd (s.job.ctx.endItems route)) s1
  let s3 := submit .plain (.checkpoint none) s2
  let s4 := jobToNone s3
  if s4.path.state = .active then enterPath .idle s4 else s4

/-! ## Settlement (R22, R23, R153) -/

/-- The end of a settlement route is one of a job that is SETTLING; in every other state, which no run meets here,
nothing happens (log 33). -/
def whenSettling (f : State → State) (s : State) : State := if s.job.ctx.state = .settling then f s else s

/-- A purse job falls back to its reserved refund-list entry (R22, R93). -/
def settleByRefund (s : State) : State :=
  whenSettling (fun s =>
    match s.job.ctx.purse with
    | some p => endJob .refundList (fillRefund p.card (p.tag.getD 0) s.job.ctx.charged s)
    | none => endJob .refundList s) s

/-- A final post that could not be delivered fills the job's reserved outbound place (R23, R153, R155). -/
def settleByQueue (s : State) : State :=
  whenSettling (fun s =>
    match s.job.ctx.account with
    | some a =>
        endJob .queued (addOutbound
          (.finalPost a.home a.hold a.number s.job.ctx.charged s.job.ctx.usage a.acked
            (s.job.ctx.funding == some .offline))
          (s.setSettle { s.settle with reservedJob := false }))
    | none => endJob .queued s) s

/-- The settlement of a purse job through the card controller (R22). -/
def settlePurse (s : State) : State :=
  if s.job.ctx.funded = 0 then endJob .card s
  else match s.job.ctx.purse with
    | some { card := card, tag := some tag } =>
        match s.settleableImage card tag s.job.ctx.charged with
        | some i => startWrite .jobSettlement i (settledPurse i.purse s.job.ctx.charged) s
        | none => settleByRefund s
    | _ => settleByRefund s

/-- The payload of a request of the job unit at the moment it is handed over (R13, R21, R23, R149). That a periodic post
to the own account unit, too, carries the C of that moment is the model's (DESIGN CHOICE, log 49). -/
def JobContext.body (c : JobContext) (r : JobRequest) : Payload :=
  let id := (c.account.map AccountPart.hold).getD { station := 0, serial := 0 }
  let number := (c.account.map AccountPart.number).getD 0
  match r with
  | .topUp amount minimum => .topUpRequest { hold := id, amount := amount, minimum := minimum }
  | .periodicPost =>
      .post { hold := id, account := number, charged := c.charged, usage := c.usage, final := false, offline := false }
  | .finalPost =>
      .post { hold := id, account := number, charged := c.charged, usage := c.usage, final := true,
              offline := c.funding == some .offline }

/-- A top-up ends refused now (R13, R15, R151). -/
def topUpRefused (s : State) : State :=
  s.setCtx { s.job.ctx with topUp := .refused s.timeBase false }

/-- A request that the line could not take: outcome NO_LINE (R23, R149 to R151). -/
def jobRequestNoLine (r : JobRequest) (s : State) : State :=
  match r with
  | .topUp _ _ => raiseNotice (.fundsRefused .noLine) (topUpRefused s)
  | .periodicPost => s
  | .finalPost => settleByQueue s

/-- The job unit's slot, or its request at the own account unit, is occupied (R130, R149). -/
def State.jobBusy (s : State) : Bool :=
  if s.jobIsLocal then s.ownBusy .job else s.slotBusy .job

/-- One attempt for an OFFLINE job's final post, three for every other exchange (R23, R110, R153). -/
def JobContext.attempts (c : JobContext) (r : JobRequest) : Nat :=
  if r = .finalPost ∧ c.funding = some .offline then 1 else 3

/-- Requests are handed over in the order they joined, one at a time (R149). -/
def handRequests : List JobRequest → State → State
  | [], s => s
  | r :: rest, s =>
    if s.jobBusy then s
    else
      let s1 := s.setJob { s.job with waiting := rest }
      if s1.jobIsLocal then handOwn .job (s1.job.ctx.body r) s1
      else if s1.member then
        askExchange .job ((s1.job.ctx.account.map AccountPart.home).getD 0) (s1.job.ctx.body r)
          (s1.job.ctx.attempts r) s1
      else handRequests rest (jobRequestNoLine r s1)

/-- The waiting list moves on (R149). -/
def pumpJob (s : State) : State := handRequests s.job.waiting s

/-- A request joins the waiting list (R149). -/
def askJob (r : JobRequest) (s : State) : State :=
  pumpJob (s.setJob { s.job with waiting := s.job.waiting ++ [r] })

/-- The settlement of an account or offline job: the final post joins the list (R23). For a home of another station
a periodic post still waiting is dropped; a job whose home is this station uses none of that, and its requests go in
the order they were asked (R149). -/
def settleAccount (s : State) : State :=
  if s.jobIsLocal then askJob .finalPost s
  else askJob .finalPost (s.setJob { s.job with waiting := s.job.waiting.filter fun r => r != .periodicPost })

/-- The job enters SETTLING and its settlement route begins (R22, R23). -/
def enterSettling (s : State) : State :=
  let s1 := s.setJob { s.job with ctx := { s.job.ctx with state := .settling }, postDue := none }
  if s1.job.ctx.funding = some .purse then settlePurse s1 else settleAccount s1

/-- The job stops taking feeds (R12, R19, R20): RUNNING goes to DRAINING, or to SETTLING with the path queue
empty; HALTED goes to SETTLING. -/
def stopFeeding (reason : CloseReason) (s : State) : State :=
  let s1 := s.setCtx { s.job.ctx with closeReason := some reason }
  match s.job.ctx.state with
  | .running =>
      if s.path.queue = [] then enterSettling s1 else s1.setCtx { s1.job.ctx with state := .draining }
  | .halted => enterSettling s1
  | _ => s

/-! ## Opening (R3 to R8) -/

/-- The job enters RUNNING (R7): lost list emptied, amounts and counts 0, checkpoint written, path ACTIVE. -/
def enterRunning (s : State) : State :=
  let s1 := s.setJob { s.job with
    ctx := { s.job.ctx with state := .running, charged := 0, delivered := 0, reserved := 0, fed := 0, lost := 0,
                            redone := 0, usage := UsageOf.all 0 }
    lostList := { owner := s.job.ctx.serial, tags := [], overflow := false } }
  enterPath .active (writeCheckpoint s1)

/-- The values of an OK OPEN JOB result (R3, R6). -/
def JobContext.opened (c : JobContext) : Values :=
  .jobOpened (c.serial.getD 0) (c.funding.getD .purse) c.funded ((c.account.map AccountPart.discount).getD 0)

/-- A purse job is opened on a READY purse card (R3). The result waits for the serial counter's write (R174). -/
def openPurse (i : PurseImage) (s : State) : State :=
  if i.purse.escrow ≠ 0 then complete .escrowOpen .none s
  else if s.card.refundsOccupied ≥ 24 then complete .listFull .none s
  else
    let n := s.job.nextSerial
    let stands := s.store.taken < 8
    let s1 := takeSerial .command s
    let s2 := s1.setCard { s1.card with refundReserved := true }
    let s3 := s2.setCtx { JobContext.blank with
      serial := some n, funding := some .purse, openingCard := some i.serial
      purse := some { card := i.serial, tag := none } }
    let s4 := enterRunning s3
    if stands then complete .ok s4.job.ctx.opened s4 else holdResult .ok s4.job.ctx.opened s4

/-- The job takes its funding (R6, R8, R150): F, the discount and the kind are filled. Where the opening card
was removed the job is not run: it goes to SETTLING with CARD_REMOVED and the result NO_CARD. -/
def takeFunding (kind : FundingKind) (amount discount : Nat) (s : State) : State :=
  let c := { s.job.ctx with
    funding := some kind, funded := amount, topUp := .none
    account := s.job.ctx.account.map fun a => { a with discount := discount, acked := 0 } }
  let s1 := s.setCtx c
  if s.job.removed then
    enterSettling (complete .noCard .none (writeCheckpoint
      (s1.setCtx { c with closeReason := some .cardRemoved, state := .settling })))
  else
    let s2 := s1.setJob { s1.job with postDue := if kind = .account then some (after s.timeBase 30000) else none }
    let s3 := enterRunning s2
    complete .ok s3.job.ctx.opened s3

/-- The first HOLD is refused (R6): the job returns to NONE and the result carries the reason. -/
def refuseOpening (reason : Reason) (s : State) : State := complete reason .none (jobToNone s)

/-- The home is unreachable (R6, R152): OFFLINE on the allowance, or HOME_ABSENT. -/
def homeUnreachable (s : State) : State :=
  if s.options.allowance > 0 then takeFunding .offline s.options.allowance 0 s
  else refuseOpening .homeAbsent s

/-- The refusals a HOLD may receive ("Answers at a glance"). -/
def holdRefusal (status : Nat) : Reason :=
  if status = Reason.noAccount.code then .noAccount
  else if status = Reason.suspended.code then .suspended
  else if status = Reason.noFunds.code then .noFunds
  else if status = Reason.poolFull.code then .poolFull
  else .notHome

/-- The outcome of an exchange as its source learns it (R112). -/
inductive ExchangeOutcome where
  | answer (p : Payload)
  | noAnswer
  | noLine
deriving DecidableEq, Repr

/-- The outcome of the first HOLD (R6, R150), that of a job which is AUTHORISING (log 33). -/
def firstHold (asked : Nat) (o : ExchangeOutcome) (s : State) : State :=
  if s.job.ctx.state ≠ .authorising then s
  else match o with
  | .answer (.holdAnswer a) =>
      if a.status = Reason.ok.code then
        if a.granted = 0 then refuseOpening .noFunds s
        else takeFunding .account (min a.granted (min asked 100000)) (min a.discount 50) s
      else refuseOpening (holdRefusal a.status) s
  | .answer _ => refuseOpening .notHome s
  | .noAnswer => homeUnreachable s
  | .noLine => refuseOpening .noLine s

/-- An account job on an account number, with its opening card if any (R4). -/
def openAccount (number : Nat) (card : Option Nat) (s : State) : State :=
  if s.line.state = .conflict then complete .noLine .none s
  else match resolveHome s.line.roster number, s.own with
    | some e, some own =>
        if e.station ≠ own ∧ s.member = false then complete .noLine .none s
        else if s.settle.occupied ≥ 16 then complete .listFull .none s
        else
          let n := s.job.nextSerial
          let id : HoldId := { station := own, serial := n }
          let s1 := takeSerial .plain s
          let s2 := s1.setSettle { s1.settle with reservedJob := true }
          let s3 := s2.setJob { s2.job with
            removed := false
            ctx := { JobContext.blank with
              serial := some n, funding := some .account, openingCard := card, state := .authorising
              account := some { number := number, home := e.station, hold := id, discount := 0, acked := 0 } } }
          let body : Payload := .holdRequest { account := number, hold := id, amount := s.options.accountBlock, minimum := 1 }
          if e.station = own then handOwn .job body s3
          else if e.present then askExchange .job e.station body 3 s3
          else homeUnreachable s3
    | _, _ => complete .noAccount .none s

/-! ## The feed gate (R9 to R15) -/

/-- The record of a granted sheet: it awaits LEAD at FEED in the pick window from its grant time (R50). -/
def newRecord (f : PendingFeed) (number pick : Nat) (now : TimePoint) : SheetRecord :=
  { number := number, tag := f.tag, sheet := f.sheet, price := f.price, reserve := f.reserve, position := 1,
    awaits := .lead, earliest := now, latest := after now pick, leadTime := none }

/-- A feed is granted (R10): the path monitor creates the record, Rp and the fed count rise, and a redo takes
the oldest entry of its tag off the lost list (R77). Redos that take the last entry off leave the overflow mark set: the
list is emptied, and the mark with it, when the next job enters RUNNING and at a start (R75; DESIGN CHOICE, log 42). A
path monitor out of ACTIVE makes no record, and the result is PATH_FAULT (R51). -/
def grantFeed (f : PendingFeed) (s : State) : State :=
  if s.path.state = .active ∧ s.path.queue.length < 6 then
    let c := s.job.ctx
    let redo := s.job.lostList.tags.contains f.tag
    let pick := (s.path.profile.map Profile.pick).getD 0
    let s1 := s.setPath { s.path with queue := s.path.queue ++ [newRecord f (c.fed + 1) pick s.timeBase] }
    let s2 := s1.setJob { s1.job with
      ctx := { c with reserved := c.reserved + f.reserve, fed := c.fed + 1,
                      redone := if redo then c.redone + 1 else c.redone }
      lostList := { s.job.lostList with tags := s.job.lostList.tags.erase f.tag }
      feed := none }
    complete .granted (.granted (c.fed + 1) f.price f.reserve s2.job.ctx.free) s2
  else complete .pathFault .none (s.setJob { s.job with feed := none })

/-- A FEED in hand taken afresh from step 5 of R10, with the P and R already computed (R12, R14). -/
def retakeFeed (s : State) : State :=
  match s.job.feed with
  | none => s
  | some f =>
    match s.job.ctx.state with
    | .running =>
        if f.reserve ≤ s.job.ctx.free then grantFeed f s
        else complete .noFunds .none (s.setJob { s.job with feed := none })
    | .halted => complete .pathFault .none (s.setJob { s.job with feed := none })
    | _ => complete .wrongState .none (s.setJob { s.job with feed := none })

/-- The FEED in hand ends with a refusal. -/
def refuseFeed (reason : Reason) (s : State) : State :=
  complete reason .none (s.setJob { s.job with feed := none })

/-- Funds are sought from the job's card (R11, R90): a move of min(balance, max(purse block, shortfall)). -/
def seekPurse (f : PendingFeed) (s : State) : State :=
  let short := f.reserve - s.job.ctx.free
  match s.writableImage false, s.job.ctx.purse with
  | some i, some part =>
      let m := min i.purse.balance (max s.options.purseBlock short)
      if i.serial ≠ part.card ∨ i.purse.balance < short then complete .noFunds .none s
      else if i.purse.escrow ≠ 0 ∧ ¬ (s.escrowIsOwn i.purse = true ∧ part.tag = some i.purse.tag) then
        complete .noFunds .none s
      else startWrite (.move m) i (movedPurse s.cardStation i.purse m) (s.setJob { s.job with feed := some f })
  | _, _ => complete .noFunds .none s

/-- A remote top-up may be asked (R13): none pending, no refusal under 5 s old, none permanent. -/
def TopUp.mayAsk (t : TopUp) (now : TimePoint) : Bool :=
  match t with
  | .none => true
  | .pending => false
  | .refused time aged => aged || 5000 ≤ elapsed now time
  | .permanent => false

/-- Funds are sought from the account's home (R13, R14). -/
def seekAccount (f : PendingFeed) (s : State) : State :=
  let short := f.reserve - s.job.ctx.free
  let amount := max s.options.accountBlock short
  match s.job.ctx.account with
  | none => complete .noFunds .none s
  | some a =>
    if a.isLocal then askJob (.topUp amount short) (s.setJob { s.job with feed := some f })
    else if s.job.ctx.topUp = .pending then complete .wait (.free s.job.ctx.free) s
    else if s.job.ctx.topUp.mayAsk s.timeBase = false then complete .noFunds .none s
    else if s.member = false ∨ s.marksPresent a.home = false then complete .noFunds .none (topUpRefused s)
    else
      complete .wait (.free s.job.ctx.free)
        (askJob (.topUp amount short) (s.setCtx { s.job.ctx with topUp := .pending }))

/-- The feed gate's steps for a FEED in range, the job RUNNING (R10). -/
def feedGate (tag : Tag) (d : Sheet) (s : State) : State :=
  let c := s.job.ctx
  if s.path.queue.length ≥ 6 then complete .pathFull .none s
  else if c.fed ≥ 65535 then complete .jobLimit .none s
  else match s.tariff with
    | none => complete .noTariff .none s
    | some t =>
      let price := t.price d (nextOrdinal c.fed c.lost) ((c.account.map AccountPart.discount).getD 0)
      let f : PendingFeed := { tag := tag, sheet := d, price := price, reserve := reservation price }
      if c.charged + c.reserved + f.reserve > 999999 then complete .jobLimit .none s
      else if f.reserve ≤ c.free then grantFeed f s
      else match c.funding with
        | some .purse => seekPurse f s
        | some .account => seekAccount f s
        | _ => complete .noFunds .none s

/-! ## Card moves (R12) -/

/-- A completed move: F rises, the tag is recorded where absent, the checkpoint written, the feed taken
afresh (R12). -/
def moveCompleted (m tag : Nat) (s : State) : State :=
  let c := s.job.ctx
  retakeFeed (writeCheckpoint (s.setCtx { c with
    funded := c.funded + m
    purse := c.purse.map fun p => { p with tag := some (p.tag.getD tag) } }))

/-- An uncertain move: F as it was, close reason CARD_LOST, result CARD_LOST (R12). -/
def moveUncertain (s : State) : State := stopFeeding .cardLost (refuseFeed .cardLost s)

/-! ## Top-ups (R14, R15, R151) -/

/-- F rises by a grant, the top-up state becomes NONE and the checkpoint is written (R14, R15). -/
def topUpGranted (g : Nat) (s : State) : State :=
  writeCheckpoint (s.setCtx { s.job.ctx with funded := s.job.ctx.funded + g, topUp := .none })

/-- The top-up state becomes REFUSED with the permanent mark. -/
def topUpLapsed (s : State) : State := s.setCtx { s.job.ctx with topUp := .permanent }

/-- The answer of the own account unit to a top-up (R14). -/
def localTopUp (a : HoldAnswerFields) (s : State) : State :=
  if a.status = Reason.ok.code then retakeFeed (topUpGranted a.granted s)
  else if a.status = Reason.lapsed.code then refuseFeed .noFunds (topUpLapsed s)
  else refuseFeed .noFunds (topUpRefused s)

/-- The refusals a TOP-UP may receive; any other status is taken as NOT_HOME (R15, R151). -/
def topUpRefusal (status : Nat) : Reason :=
  if status = Reason.noFunds.code then .noFunds
  else if status = Reason.suspended.code then .suspended
  else if status = Reason.unknownHold.code then .unknownHold
  else .notHome

/-- The outcome of a remote top-up (R15, R151). -/
def remoteTopUp (asked : Nat) (o : ExchangeOutcome) (s : State) : State :=
  match o with
  | .answer (.holdAnswer a) =>
      if a.status = Reason.ok.code then
        if a.granted = 0 then raiseNotice (.fundsRefused .noFunds) (topUpRefused s)
        else
          let g := min a.granted (min asked 100000)
          raiseNotice (.fundsGranted g) (topUpGranted g s)
      else if a.status = Reason.lapsed.code then raiseNotice .fundsLapsed (topUpLapsed s)
      else raiseNotice (.fundsRefused (topUpRefusal a.status)) (topUpRefused s)
  | .answer _ => raiseNotice (.fundsRefused .notHome) (topUpRefused s)
  | .noAnswer => raiseNotice (.fundsRefused .homeAbsent) (topUpRefused s)
  | .noLine => raiseNotice (.fundsRefused .noLine) (topUpRefused s)

/-! ## Posts (R21, R23, R148, R153) -/

/-- The acknowledged posted amount becomes a home's figure (R148). -/
def acknowledge (posted : Nat) (s : State) : State :=
  s.setCtx { s.job.ctx with account := s.job.ctx.account.map fun a => { a with acked := posted } }

/-- The outcome of a periodic post (R21). -/
def periodicOutcome (o : ExchangeOutcome) (s : State) : State :=
  match o with
  | .answer (.postAnswer a) =>
      if a.status = Reason.ok.code then writeCheckpoint (acknowledge a.posted s)
      else if a.status = Reason.late.code then
        writeCheckpoint (raiseNotice .fundsLapsed (topUpLapsed (acknowledge a.posted s)))
      else if a.status = Reason.notHome.code then s
      else raiseNotice .fundsLapsed (topUpLapsed s)
  | .answer _ => raiseNotice .fundsLapsed (topUpLapsed s)
  | .noAnswer => s
  | .noLine => s

/-- A final post that the home did not apply: a failed SETTLE notice with C less the acknowledged amount
(R23, R153). -/
def finalFailed (status : Nat) (s : State) : State :=
  match s.job.ctx.account with
  | some a =>
      endJob .posted (raiseNotice
        (.settle (.postFailed a.home a.hold a.number status ((s.job.ctx.charged : Int) - a.acked))) s)
  | none => endJob .posted s

/-- The acknowledged amount takes the answer's figure; a change is written to the checkpoint (R148). -/
def finalAcknowledged (posted : Nat) (s : State) : State :=
  if s.job.ctx.account.map AccountPart.acked = some posted then s else writeCheckpoint (acknowledge posted s)

/-- The outcome of a final post (R23, R153). -/
def finalOutcome (o : ExchangeOutcome) (s : State) : State :=
  whenSettling (fun s =>
    match o with
    | .answer (.postAnswer a) =>
        if a.status = Reason.ok.code ∨ a.status = Reason.late.code then endJob .posted (finalAcknowledged a.posted s)
        else finalFailed a.status s
    | .answer p => finalFailed p.kind s
    | .noAnswer => settleByQueue s
    | .noLine => settleByQueue s) s

/-- The outcome of a request of the job unit, by the request it answers; then the waiting list moves on. -/
def jobOutcome (body : Payload) (o : ExchangeOutcome) (s : State) : State :=
  let isLocal := s.jobIsLocal
  let s1 := match body with
    | .holdRequest r => firstHold r.amount o s
    | .topUpRequest r =>
        match isLocal, o with
        | true, .answer (.holdAnswer a) => localTopUp a s
        | _, _ => remoteTopUp r.amount o s
    | .post r => if r.final then finalOutcome o s else periodicOutcome o s
    | _ => s
  pumpJob s1

/-! ## Deliveries, losses and path faults (R16 to R18) -/

/-- A delivery report (R16): the charge is fixed, the amounts, the usage record and the meters follow, the
checkpoint is written, and a DRAINING job whose path is empty goes on to SETTLING. The checkpoint's write is submitted
before the meters' (DEDUCED from the worked sequence 11.4, log 46). -/
def deliver (r : SheetRecord) (s : State) : State :=
  let c := s.job.ctx
  let paid := charge c.delivered r.price
  let s1 := s.setCtx { c with
    charged := c.charged + paid, delivered := c.delivered + r.price, reserved := c.reserved - r.reserve
    usage := UsageOf.zip (· + ·) c.usage r.sheet.usage }
  let s2 := writeCheckpoint s1
  let s3 := addMeters { MetersOf.zero with usage := r.sheet.usage, charged := FundsOf.only c.funding paid } s2
  if c.state = .draining ∧ s3.path.queue = [] then enterSettling s3 else s3

/-- A tag joins the end of the lost list; a full list loses its oldest entry and is marked (R17, R75). -/
def LostList.join (l : LostList) (t : Tag) : LostList :=
  if l.tags.length < 12 then { l with tags := l.tags ++ [t] }
  else { l with tags := l.tags.tail ++ [t], overflow := true }

/-- A loss report (R17). -/
def loseSheet (s : State) (r : SheetRecord) : State :=
  let c := s.job.ctx
  addMeters { MetersOf.zero with lost := 1 }
    (s.setJob { s.job with
      ctx := { c with reserved := c.reserved - r.reserve, lost := c.lost + 1 }
      lostList := s.job.lostList.join r.tag })

/-- A path fault: RUNNING and DRAINING go to HALTED, the close reason kept (R18). -/
def faultJob (s : State) : State :=
  match s.job.ctx.state with
  | .running => s.setCtx { s.job.ctx with state := .halted }
  | .draining => s.setCtx { s.job.ctx with state := .halted }
  | _ => s

/-- The opening card is removed (R8, R20). -/
def openingCardRemoved (serial : Nat) (s : State) : State :=
  if s.job.ctx.openingCard = some serial then
    match s.job.ctx.state with
    | .authorising => s.setJob { s.job with removed := true }
    | .running => stopFeeding .cardRemoved s
    | .halted => stopFeeding .cardRemoved s
    | _ => s
  else s

/-- An interrupted purse job's wait ends without its settlement write (R187): the refund list. -/
def interruptedNoCard (s : State) : State :=
  if s.job.awaitsCard then settleByRefund s else s

/-- An interrupted purse job meets a card that reached READY (R187): its own receives the settlement write of
R91 where the conditions hold; every other outcome is the refund list. -/
def interruptedCard (s : State) : State :=
  if s.job.awaitsCard then
    match s.job.ctx.purse with
    | some { card := card, tag := some tag } =>
        match s.settleableImage card tag s.job.ctx.charged with
        | some i =>
            startWrite .jobSettlement i (settledPurse i.purse s.job.ctx.charged)
              (s.setJob { s.job with awaitsCard := false })
        | none => settleByRefund s
    | _ => settleByRefund s
  else s

/-- The job's settlement write completed (R22, R187): route CARD; an interrupted job's entry left in the refund
list is then removed. -/
def settlementWritten (s : State) : State :=
  whenSettling (fun s =>
    let s1 := match s.job.ctx.closeReason, s.job.ctx.purse with
      | some .interrupted, some p => removeRefund p.card (p.tag.getD 0) s
      | _, _ => s
    endJob .card s1) s

end Sys2Proof.Machine
end

