-- ==== Sys2Proof/Machine/Card.lean ====
section
/-! DEFINITION. The card controller (chapter Stored-Value Cards): readings, purse writes, the refund list and
the resolution of escrows. -/

namespace Sys2Proof.Machine

/-! ## Its exchange source (R96, R97) -/

def CardExchange.dest : CardExchange → Nat
  | .query station _ _ _ => station
  | .release station _ _ => station

def CardExchange.body : CardExchange → Payload
  | .query _ serial tag _ => .escrowQuery { serial := serial, tag := tag }
  | .release _ serial tag => .escrowRelease { serial := serial, tag := tag }

/-- The card of a query was removed: its answer will not be acted on (R87, R97). -/
def CardExchange.stale : CardExchange → CardExchange
  | .query station serial tag _ => .query station serial tag false
  | e => e

/-- A reserved outbound place of the card controller is released (R97). -/
def freeCardPlace (s : State) : State :=
  s.setSettle { s.settle with reservedCard := s.settle.reservedCard - 1 }

/-- The card leaves RESOLVING with its escrow standing (R97). -/
def endResolving (s : State) : State :=
  freeCardPlace (s.setCard { s.card with resolving := false })

/-- ESCROW UNRESOLVED on the card in the slot (R95 to R97). -/
def escrowUnresolved (reason : Reason) (s : State) : State :=
  match s.card.image with
  | some i => raiseNotice (.escrowUnresolved reason i.serial i.purse.escrow i.purse.station i.purse.tag) s
  | none => s

/-- A release that could not be delivered fills its reserved place with an ESCROW RELEASE entry (R97, R155). -/
def queueRelease (station serial tag : Nat) (s : State) : State :=
  addOutbound (.escrowRelease station serial tag) (freeCardPlace s)

/-- The outcome of an exchange of the card controller (R97). -/
def cardExchangeEnds (e : CardExchange) (o : ExchangeOutcome) (s : State) : State :=
  match e with
  | .release station serial tag =>
      match o with
      | .answer _ => freeCardPlace s
      | _ => queueRelease station serial tag s
  | .query _ _ _ false => freeCardPlace s
  | .query station serial tag true =>
      match o with
      | .answer (.escrowAnswer a) =>
          if a.status = Reason.ok.code then
            match s.writableImage true with
            | some i =>
                if i.serial = serial then
                  if a.charged ≤ i.purse.escrow then
                    startWrite (.peerAnswer station serial tag a.charged) i (settledPurse i.purse a.charged) s
                  else endResolving (escrowUnresolved .escrowShort s)
                else endResolving s
            | none => endResolving s
          else if a.status = Reason.jobOpen.code then endResolving (escrowUnresolved .jobOpen s)
          else endResolving (escrowUnresolved .noEntry s)
      | .answer _ => endResolving (escrowUnresolved .noEntry s)
      | .noAnswer => endResolving (escrowUnresolved .noAnswer s)
      | .noLine => endResolving (escrowUnresolved .noLine s)

/-- Requests of the card controller are handed to its slot in order; outside MEMBER each ends NO_LINE
(R96, R110). -/
def handCardExchanges : List CardExchange → State → State
  | [], s => s
  | e :: rest, s =>
    if s.card.slot.isSome then s
    else
      let s1 := s.setCard { s.card with waiting := rest }
      if s1.member then
        askExchange .card e.dest e.body 3 (s1.setCard { s1.card with slot := some e })
      else handCardExchanges rest (cardExchangeEnds e .noLine s1)

def pumpCard (s : State) : State := handCardExchanges s.card.waiting s

/-- The card controller asks its exchange source for a request (R96, R97). -/
def askCard (e : CardExchange) (s : State) : State :=
  pumpCard (s.setCard { s.card with waiting := s.card.waiting ++ [e] })

/-- The exchange in the card controller's slot ended (R97). -/
def cardOutcome (o : ExchangeOutcome) (s : State) : State :=
  match s.card.slot with
  | none => s
  | some e => pumpCard (cardExchangeEnds e o (s.setCard { s.card with slot := none }))

/-! ## Escrows met at a reading (R94 to R96) -/

/-- The entry matches the card's escrow (R94). -/
def State.entryMatches (s : State) (i : PurseImage) (e : RefundEntry) : Bool :=
  s.escrowIsOwn i.purse && e.tag == i.purse.tag

/-- Entries with the card's serial that do not match its escrow are removed (R94), with one write of the list however many
they are (R92; DESIGN CHOICE, log 54). -/
def removeStale (i : PurseImage) (s : State) : State :=
  if s.card.refunds.any (fun e => e.serial == i.serial && !s.entryMatches i e) then
    setRefunds .plain (s.card.refunds.filter fun e => !(e.serial == i.serial && !s.entryMatches i e)) s
  else s

/-- An escrow of this station and of no open job (R95). -/
def settleFromList (i : PurseImage) (s : State) : State :=
  match s.card.findRefund i.serial i.purse.tag with
  | none => escrowUnresolved .noEntry s
  | some e =>
    if e.charged > i.purse.escrow then escrowUnresolved .escrowShort s
    else match s.writableImage false with
      | some j => startWrite (.refundEntry e.serial e.tag e.charged) j (settledPurse j.purse e.charged) s
      | none => s

/-- An escrow of another station `k` (R96). Where several of its conditions fail, the first in the rule's order gives the
reason (DESIGN CHOICE, log 53). -/
def resolveEscrow (k : Nat) (i : PurseImage) (s : State) : State :=
  if s.member = false then escrowUnresolved .noLine s
  else if s.marksPresent k = false then escrowUnresolved .stationAbsent s
  else if s.settle.occupied ≥ 16 then escrowUnresolved .listFull s
  else
    let s1 := s.setSettle { s.settle with reservedCard := s.settle.reservedCard + 1 }
    askCard (.query k i.serial i.purse.tag true) (s1.setCard { s1.card with resolving := true })

/-- The card controller looks at the image's escrow (R94). -/
def lookAtEscrow (i : PurseImage) (s : State) : State :=
  if i.purse.escrow = 0 then s
  else if s.escrowIsOwn i.purse then settleFromList i s
  else match i.purse.station with
    | some k => resolveEscrow k i s
    | none => s

/-! ## Reading a card (R85, R89) -/

/-- A request is sent to the card; its deadline runs from here (R80). -/
def sendCard (r : CardRequest) (s : State) : State :=
  s.setCard { s.card with request := some (r, s.timeBase) }

/-- A reading begins at record 0 (R85, R89). -/
def beginReading (s : State) : State :=
  sendCard (.read 0) (s.setCard { s.card with
    state := .reading 0, identity := none, record1 := none, image := none, writing := none, resolving := false })

/-- The card is rejected with a reason (R85). -/
def rejectCard (reason : Reason) (s : State) : State :=
  interruptedNoCard (raiseNotice (.cardRejected reason (s.card.identity.map CardIdentity.serial))
    (s.setCard { s.card with state := .rejected reason, request := none, record1 := none, image := none }))

/-- An ACCOUNT card reaches READY (R85). -/
def readyAccountCard (id : CardIdentity) (s : State) : State :=
  interruptedNoCard (raiseNotice (.cardInsertedAccount id.serial id.account)
    (s.setCard { s.card with state := .ready, request := none }))

/-- A PURSE card reaches READY (R85, R94, R187). An escrow of the open job is the job's own. Where another card ends the
wait of an interrupted job, the job is settled before that card's escrow is looked at (DESIGN CHOICE, log 52). -/
def readyPurseCard (i : PurseImage) (s : State) : State :=
  let s1 := raiseNotice (.cardInsertedPurse i.serial i.purse)
    (s.setCard { s.card with state := .ready, request := none, record1 := none, image := some i })
  let s2 := removeStale i s1
  if s2.escrowIsJobs i then interruptedCard s2
  else lookAtEscrow i (interruptedCard s2)

/-- The kind a code names (R82, R189). -/
def cardKind (code : Nat) : Option CardKind :=
  if code = 1 then some .purse else if code = 2 then some .account else none

/-- The identity is judged (R85). -/
def judgeIdentity (bytes : List Byte) (s : State) : State :=
  match IdentityRecord.read bytes with
  | none => rejectCard .unreadable s
  | some r =>
    match cardKind r.kind with
    | none =>
        rejectCard .unknownKind (s.setCard { s.card with
          identity := some { serial := r.serial, kind := .account, account := r.account } })
    | some k =>
        let id : CardIdentity := { serial := r.serial, kind := k, account := r.account }
        let s1 := s.setCard { s.card with identity := some id }
        if k = .account ∧ r.account = 0 then rejectCard .unknownKind s1
        else if r.issuer ≠ s.options.issuer then rejectCard .isForeign s1
        else match k with
          | .account => readyAccountCard id s1
          | .purse => sendCard (.read 1) (s1.setCard { s1.card with state := .reading 1 })

/-- The slots are judged (R83 to R85). -/
def judgeSlots (a b : List Byte) (s : State) : State :=
  match s.card.identity, currentSlot (Purse.read a) (Purse.read b) with
  | some id, some (slot, p) =>
      if p.counter = counterEnd then rejectCard .worn s
      else readyPurseCard { serial := id.serial, slot := slot, purse := p } s
  | _, _ => rejectCard .badPurse s

/-- A read is answered (R80, R85). A malformed answer is taken as no answer; R80 does not say whether that ends the
reading when it arrives or when the 20 ms run out: it ends it when it arrives (DESIGN CHOICE, log 43). -/
def readAnswered (bytes : List Byte) (s : State) : State :=
  if bytes.length ≠ 16 then rejectCard .unreadable s
  else match s.card.state with
    | .reading 0 => judgeIdentity bytes s
    | .reading 1 =>
        sendCard (.read 2) (s.setCard { s.card with state := .reading 2, record1 := some bytes })
    | .reading _ => judgeSlots (s.card.record1.getD []) bytes s
    | _ => s

/-! ## The end of a purse write (R88, R89) -/

/-- The purse image takes the new figures and the new current slot, and the card returns to READY (R88). -/
def takeWrite (w : CardWrite) (s : State) : State :=
  s.setCard { s.card with
    writing := none, request := none
    image := s.card.image.map fun i => { i with slot := i.slot.spare, purse := w.purse } }

/-- The requester of a completed write is told (R12, R22, R95, R97, R102). -/
def writeCompleted (w : CardWrite) (s : State) : State :=
  match w.purpose with
  | .move m => moveCompleted m w.purse.tag s
  | .jobSettlement => settlementWritten s
  | .refundEntry serial tag charged =>
      raiseNotice (.cardSettled serial charged w.purse.balance) (removeRefund serial tag s)
  | .peerAnswer station serial tag charged =>
      askCard (.release station serial tag)
        (raiseNotice (.cardSettled serial charged w.purse.balance) (s.setCard { s.card with resolving := false }))
  | .release kept =>
      let s1 := complete .ok (.released kept w.purse.balance) s
      match s1.card.image with
      | some i => removeStale i s1
      | none => s1

/-- The requester of an uncertain write is told (R12, R22, R95, R97, R102). -/
def writeUncertain (w : CardWrite) (s : State) : State :=
  match w.purpose with
  | .move _ => moveUncertain s
  | .jobSettlement => settleByRefund s
  | .refundEntry _ _ _ => s
  | .peerAnswer _ _ _ _ => freeCardPlace s
  | .release _ => complete .cardLost .none s

/-- No answer within 20 ms (R80): a read ends the reading; a write ends uncertain, and the card still in the
slot is read again (R89). -/
def cardSilent (s : State) : State :=
  match s.card.writing with
  | some w => writeUncertain w (beginReading s)
  | none => rejectCard .unreadable s

/-- A removal (R87): EMPTY, the image absent, the notice; what was in flight ends; the job unit is told. R87 speaks of a
query in flight; one that still waits for the controller's slot is treated like it: it is sent in its turn, its answer is
not acted on, and its reserved place is kept until it ends (DESIGN CHOICE, log 47). -/
def removeCard (s : State) : State :=
  let c := s.card
  let serial := c.identity.map CardIdentity.serial
  let s1 := raiseNotice (.cardRemoved serial) (s.setCard { c with
    state := .empty, identity := none, record1 := none, image := none, writing := none, resolving := false,
    request := none, slot := c.slot.map CardExchange.stale, waiting := c.waiting.map CardExchange.stale })
  let s2 := match c.state with
    | .reading _ => interruptedNoCard s1
    | _ => match c.writing with
      | some w => writeUncertain w s1
      | none => s1
  match serial with
  | some n => openingCardRemoved n s2
  | none => s2

/-! ## Peers' queries and releases (R98, R99) -/

/-- The answer to an ESCROW QUERY; an entry it finds becomes CLAIMED (R98). NONE is sent as NO_ENTRY with
charged total 0, JOB_OPEN with charged total 0 (R188). -/
def answerQuery (q : EscrowFields) (s : State) : State × Payload :=
  if s.jobOpen ∧ s.job.ctx.funding = some .purse ∧ s.job.ctx.purse.map PursePart.card = some q.serial then
    (s, .escrowAnswer { status := Reason.jobOpen.code, charged := 0 })
  else match s.card.findRefund q.serial q.tag with
    | none => (s, .escrowAnswer { status := Reason.noEntry.code, charged := 0 })
    | some e =>
      let s1 := if e.state = .claimed then s else
        setRefunds .plain (s.card.refunds.map fun x =>
          if x.names q.serial q.tag then { x with state := .claimed } else x) s
      (s1, .escrowAnswer { status := Reason.ok.code, charged := e.charged })

/-- An ESCROW RELEASE removes the entry, where one stands, and is answered OK (R99). -/
def answerRelease (q : EscrowFields) (s : State) : State × Payload :=
  (removeRefund q.serial q.tag s, .releaseAnswer { status := Reason.ok.code })

end Sys2Proof.Machine
end

