-- ==== Sys2Proof/Machine/Settlement.lean ====
section
/-! DEFINITION. The settlement unit: rounds, triggered tries and their outcomes (R156 to R161). -/

namespace Sys2Proof.Machine

/-- A station's mark is set in a list of marked stations, kept in rising order without repeats (R158). -/
def setMark (station : Nat) (marks : List Nat) : List Nat := putSorted id station marks

def clearMark (station : Nat) (marks : List Nat) : List Nat := dropKey id station marks

/-- The request a try of an entry carries (R159). -/
def OutEntry.body : OutEntry → Payload
  | .finalPost _ hold account charged usage _ offline =>
      .post { hold := hold, account := account, charged := charged, usage := usage, final := true, offline := offline }
  | .escrowRelease _ serial tag => .escrowRelease { serial := serial, tag := tag }

/-- The SETTLE notice of an answered try (R160). -/
def OutEntry.notice (e : OutEntry) (p : Payload) : NoticeBody :=
  match e, p with
  | .finalPost dest hold account charged _ acked _, .postAnswer a =>
      if a.status = Reason.ok.code ∨ a.status = Reason.late.code then
        .settle (.postDone dest hold account a.status a.posted)
      else .settle (.postFailed dest hold account a.status ((charged : Int) - acked))
  | .finalPost dest hold account charged _ acked _, q =>
      .settle (.postFailed dest hold account q.kind ((charged : Int) - acked))
  | .escrowRelease dest serial tag, _ => .settle (.releaseDone dest serial tag)

/-- An answered entry is removed, with its notice and its store write (R160). -/
def entryAnswered (e : OutEntry) (p : Payload) (s : State) : State :=
  raiseNotice (e.notice p) (setOutbound (s.settle.queue.filter fun x => x.key != e.key) s)

/-- A try of an entry (R156, R157, R159). An entry addressed to this station's own number is handed over here: a
FINAL POST to the own account unit, an ESCROW RELEASE to the own card controller, which answers at once. A FINAL POST
so handed over occupies the settlement unit like an exchange until its answer (DESIGN CHOICE, log 50). -/
def tryEntry (e : OutEntry) (triggered : Bool) (s : State) : State :=
  let s1 := s.setSettle { s.settle with trying := some { key := e.key, triggered := triggered } }
  if s.own = some e.dest then
    match e with
    | .finalPost _ _ _ _ _ _ _ => handOwn .settlement e.body s1
    | .escrowRelease _ serial tag =>
        let r := answerRelease { serial := serial, tag := tag } s
        entryAnswered e r.2 r.1
  else askExchange .settlement e.dest e.body 3 s1

/-- The round goes on with the entries still to be tried; an entry removed before its turn is passed over, and
the round ends with the last (R157). -/
def roundStep : List EntryKey → State → State
  | [], s => s.setSettle { s.settle with round := none }
  | k :: rest, s =>
    match s.settle.find k with
    | none => roundStep rest s
    | some e =>
      let s1 := tryEntry e false (s.setSettle { s.settle with round := some rest })
      if s1.settle.trying.isSome then s1 else roundStep rest s1

/-- A round begins: every mark is cleared, every entry that stands is to be tried once, and the next round is
due 15 s from now (R157, R158). -/
def beginRound (s : State) : State :=
  roundStep (s.settle.queue.map OutEntry.key)
    (s.setSettle { s.settle with
      heard := [], waits := [], roundDue := some (after s.timeBase 15000)
      round := some (s.settle.queue.map OutEntry.key) })

/-- The oldest entry whose destination carries the heard mark. -/
def SettlementUnit.heardEntry (u : SettlementUnit) : Option OutEntry :=
  u.queue.find? fun e => u.heard.contains e.dest

/-- Triggered tries of entries whose destinations were heard; marks without entries are cleared (R158). -/
def heardStep : Nat → State → State
  | 0, s => s
  | fuel + 1, s =>
    match s.settle.heardEntry with
    | none => s.setSettle { s.settle with heard := [] }
    | some e =>
      let s1 := tryEntry e true (s.setSettle { s.settle with heard := clearMark e.dest s.settle.heard })
      if s1.settle.trying.isSome then s1 else heardStep fuel s1

/-- The slot is free (R157, R158): a round in progress goes on; else a round that is due begins; else the heard
marks are looked at. Outside MEMBER nothing is tried and a round ends (R157, R161). -/
def pumpSettlement (s : State) : State :=
  if s.member = false then s.setSettle { s.settle with round := none }
  else if s.settle.trying.isSome then s
  else
    let s1 := match s.settle.round with
      | some rest => roundStep rest s
      | none => s
    if s1.settle.trying.isSome then s1
    else if dueAt s1 s1.settle.roundDue then beginRound s1
    else heardStep (s1.settle.heard.length + 1) s1

/-- The outcome of the try in progress decides its entry (R158, R160). A FINAL POST that was handed to the own account
unit before a CONFLICT is answered there, and its entry removed, in CONFLICT too (DESIGN CHOICE, log 51). -/
def tryOutcome (o : ExchangeOutcome) (s : State) : State :=
  match s.settle.trying with
  | none => s
  | some t =>
    let s1 := s.setSettle { s.settle with trying := none }
    let s2 := match s1.settle.find t.key, o with
      | some e, .answer p => entryAnswered e p s1
      | some e, .noAnswer =>
          if t.triggered then s1.setSettle { s1.settle with waits := setMark e.dest s1.settle.waits } else s1
      | _, _ => s1
    pumpSettlement s2

/-- A good frame was heard from a station (R107, R158). -/
def settlementHears (station : Nat) (s : State) : State :=
  if s.settle.waits.contains station then s
  else match s.settle.queue.find? (fun e => e.dest == station) with
    | none => s
    | some e =>
      if s.member ∧ s.settle.round = none ∧ s.settle.trying = none then tryEntry e true s
      else s.setSettle { s.settle with heard := setMark station s.settle.heard }

end Sys2Proof.Machine
end

