-- ==== Sys2Proof/Machine/Line.lean ====
section
/-! DEFINITION. The shop line controller (chapter The Shop Line): the frames it hears and the frames it sends,
exchanges and their attempts, the roster, roll call and CONFLICT. -/

namespace Sys2Proof.Machine

/-! ## The end of an exchange (R111, R112) -/

/-- A source learns the outcome of its exchange (R112). -/
def exchangeEnds (o : ExchangeOutcome) (s : State) (e : Exchange) : State :=
  match e.source with
  | .job => jobOutcome e.body o s
  | .card => cardOutcome o s
  | .settlement => tryOutcome o s

/-- The exchange in progress ends: the request place and the slot are freed, the source told (R111, R112). -/
def endExchange (o : ExchangeOutcome) (s : State) : State :=
  match s.line.inProgress with
  | none => s
  | some e => exchangeEnds o (emptyPlace .request (s.setLine { s.line with inProgress := none })) e

/-- The request of the exchange in progress is made ready for an attempt, with k back at 0 (R112). -/
def readyRequest (e : Exchange) (s : State) : State :=
  readyFrame .request (s.requestFrame e)
    (emptyPlace .request (s.setLine { s.line with inProgress := some { e with awaiting := none } }))

/-- An attempt fails (R112): the next one follows, or the last ends the exchange NO_ANSWER and the destination
is marked ABSENT. -/
def attemptFails (s : State) : State :=
  match s.line.inProgress with
  | none => s
  | some e =>
    if e.attempts > 1 then readyRequest { e with attempts := e.attempts - 1 } s
    else endExchange .noAnswer (markPresence e.dest false s)

/-- The oldest pending exchange starts with the next exchange number (R110). -/
def startExchange (s : State) : State :=
  match s.line.inProgress, s.line.pending with
  | none, e :: rest =>
      let n := s.line.counter
      readyRequest { e with number := n }
        (s.setLine { s.line with pending := rest, counter := (n + 1) % 256 })
  | _, _ => s

/-- The kind of an answer is the answer kind of the request (R111). -/
def Payload.answeredBy (request answer : Payload) : Bool :=
  match request, answer with
  | .holdRequest _, .holdAnswer _ => true
  | .topUpRequest _, .holdAnswer _ => true
  | .post _, .postAnswer _ => true
  | .escrowQuery _, .escrowAnswer _ => true
  | .escrowRelease _, .releaseAnswer _ => true
  | _, _ => false

/-- An answer frame matches an exchange (R111). -/
def Exchange.matchedBy (e : Exchange) (f : Frame) : Bool :=
  f.head.source == e.dest && f.head.exch == e.number && Payload.answeredBy e.body f.body

/-- An answer addressed to this station: the first match ends the exchange, any other is discarded (R111). -/
def takeAnswer (f : Frame) (s : State) : State :=
  match s.line.inProgress with
  | some e => if e.matchedBy f then endExchange (.answer f.body) s else s
  | none => s

/-! ## Requests from peers (R113) -/

def Origin.isPeer : Origin → Bool
  | .peer _ _ => true
  | _ => false

/-- A request joins the account input queue, or is discarded where 8 stand in it (R113, R130). -/
def queueRequest (f : Frame) (s : State) : State :=
  if (s.accounts.arrivals.filter fun a => a.origin.isPeer).length < 8 then
    s.setAccounts { s.accounts with arrivals := s.accounts.arrivals ++
      [{ origin := .peer f.head.source f.head.exch, body := f.body }] }
  else s

/-- An answer frame to a request: addressed to its source with its exchange number (R106). -/
def State.answerFrame (s : State) (station exch : Nat) (body : Payload) : Frame :=
  { head := { dest := station, source := s.own.getD 0, exch := exch }, body := body }

/-- The card controller answers a query or a release at once, unless the card answer place is occupied
(R113). -/
def answerAsCard (answer : State → State × Payload) (f : Frame) (s : State) : State :=
  if s.placeTaken .cardAnswer then s
  else
    let r := answer s
    readyFrame .cardAnswer (r.1.answerFrame f.head.source f.head.exch r.2) r.1

/-! ## The roster (R115 to R119) -/

/-- The home range a ROLL declares; first 0 or first above last is none (R116). -/
def rollHome (p : RollFields) : Option HomeRange :=
  if p.first = 0 ∨ p.first > p.last then none else some { first := p.first, last := p.last }

/-- Every overlap mark judged again (R119). -/
def judgeOverlaps (roster : List RosterEntry) : List RosterEntry :=
  roster.map fun e => { e with
    overlap := e.home.any fun h => roster.any fun x => x.station < e.station && x.home.any (HomeRange.meets h) }

/-- The own entry's overlap mark. -/
def State.ownOverlap (s : State) : Bool :=
  s.line.roster.any fun e => s.own == some e.station && e.overlap

/-- The lowest-numbered other station whose range overlaps the own range (R119; log 28). -/
def State.overlapping (s : State) : Option Nat :=
  match s.options.home with
  | some h =>
      (s.line.roster.find? fun e => s.own != some e.station && e.home.any (HomeRange.meets h)).map
        RosterEntry.station
  | none => none

/-- A ROLL makes or updates its sender's entry; a change of the own overlap mark raises ROSTER (R116, R119). -/
def updateRoster (station : Nat) (home : Option HomeRange) (s : State) : State :=
  let entry : RosterEntry := { station := station, present := true, home := home, overlap := false }
  let s1 := s.setLine { s.line with roster := judgeOverlaps (putSorted RosterEntry.station entry s.line.roster) }
  if s1.ownOverlap = s.ownOverlap then s1
  else raiseNotice (.roster s1.ownOverlap s1.overlapping) s1

/-- A ROLL of this station: its home range or none, broadcast with exchange number 0 (R106, R115, R116). -/
def State.rollFrame (s : State) (joining : Bool) : Frame :=
  { head := { dest := 63, source := s.own.getD 0, exch := 0 }
    body := .roll { first := (s.options.home.map HomeRange.first).getD 0
                    last := (s.options.home.map HomeRange.last).getD 0, joining := joining } }

/-- The delay of this station's roll-call answer (R116). -/
def rollDelay (own : Nat) : Nat := (own + 1) * 2

/-- A ROLL that calls for an answer: the answer's delay begins, unless a ROLL of this station already waits to be
sent (R116; log 21). -/
def callAnswerRoll (s : State) : State :=
  if s.placeTaken .roll then s
  else s.setLine { s.line with
    rollDelays := s.line.rollDelays ++ [after s.timeBase (rollDelay (s.own.getD 0))] }

/-- A ROLL heard (R116). `known`: the sender was PRESENT in the roster before it. -/
def takeRoll (known : Bool) (f : Frame) (p : RollFields) (s : State) : State :=
  let s1 := updateRoster f.head.source (rollHome p) s
  if p.joining ∨ known = false then callAnswerRoll s1 else s1

/-! ## CONFLICT (R120) -/

/-- A good frame from the own station number (R120). A try handed to the own account unit is no exchange and stays
(DESIGN CHOICE, log 51). -/
def enterConflict (f : Frame) (s : State) : State :=
  let ended := s.line.inProgress.toList ++ s.line.pending
  let s1 := (s.setLine { s.line with
    state := .conflict, share := .nothing, inProgress := none, pending := [], waiting := [], sending := none, joinEnd := none,
    rollDelays := [] }).setSettle { s.settle with round := none }
  let s2 := ended.foldl (exchangeEnds .noLine) s1
  let s3 := s2.setAccounts { s2.accounts with
    arrivals := s2.accounts.arrivals.filter fun a => !a.origin.isPeer }
  raiseNotice (.lineConflict f.body.kind f.head.dest) s3

/-! ## Frames heard (R104, R106, R107, R114) -/

/-- The line state in which frames are heard, answers and ROLLs sent (R114). -/
def State.onLine (s : State) : Bool := s.line.state == .joining || s.line.state == .member

/-- A run of bytes that ended leaves the line idle (R103), and nothing has been sent in the next one yet; the receiver
is not used in OFF (R114). -/
def lineGoesIdle (s : State) : State :=
  if s.line.state = .off then s else s.setLine { s.line with busy := false, share := .nothing }

/-- The run that ends is one in which this station has sent, so that it is not received (R104, R121): it has sent bytes
of a frame that collided, or the frame is the one it has sent whole. The bytes of a frame sent whole were read back as
sent (R109), so no other good frame can end its run; one of another source is of a later run (log 45). -/
def State.ownRun (s : State) (source : Nat) : Bool :=
  match s.line.share with
  | .nothing => false
  | .part => true
  | .whole => s.own == some source

/-- The roster and the settlement unit hear of a source (R107). -/
def noteHeard (station : Nat) (s : State) : State :=
  settlementHears station (markPresence station true s)

/-- A frame ends on the line. While this station is sending nothing ends; a run in which it has sent is not received
(R104, R121). Else a good frame in JOINING or MEMBER is heard: from the own number it is the case of R120; else R107
applies, and where it is addressed to this station or broadcast its kind's `act` follows (R106). -/
def hearFrame (f : Frame) (act : State → State) (s : State) : State :=
  if s.line.sending.isSome then s
  else
    let s1 := lineGoesIdle s
    if f.good = false ∨ s1.onLine = false ∨ s.ownRun f.head.source = true then s1
    else if s1.own = some f.head.source then enterConflict f s1
    else
      let s2 := noteHeard f.head.source s1
      if s1.own = some f.head.dest ∨ f.head.dest = 63 then act s2 else s2

/-! ## Taking the line (R108, R109) -/

/-- The back-off of a frame in slots (R109). -/
def backOff (station k : Nat) : Nat := (station * 7 + k * 13) % 32 + 1

/-- A place for answers. -/
def Place.isAnswer : Place → Bool
  | .accountAnswer => true
  | .cardAnswer => true
  | _ => false

/-- The microseconds the line must have been idle before a frame starts (R108). -/
def OutFrame.startTime (own : Nat) (f : OutFrame) : Nat :=
  if f.place.isAnswer then 160 else if f.k = 0 then 210 else 210 + 50 * backOff own f.k

/-- Of the waiting frames the one whose start time comes first, of equal times the one ready first (R108). -/
def firstToSend (own : Nat) : List OutFrame → Option OutFrame
  | [] => none
  | f :: rest =>
    match firstToSend own rest with
    | none => some f
    | some g => if g.startTime own < f.startTime own then some g else some f

/-- The line has been idle for `idle` microseconds: where that reaches the first start time, that frame begins to
be sent (R108). The idle gap of 160 microseconds makes the line idle (R103). -/
def sendStarts (idle : Nat) (s : State) : State :=
  if s.onLine = false ∨ s.line.sending.isSome ∨ idle < 160 then s
  else
    let s1 := s.setLine { s.line with busy := false, share := .nothing }
    match firstToSend (s.own.getD 0) s.line.waiting with
    | some f =>
        if f.startTime (s.own.getD 0) ≤ idle then
          s.setLine { s.line with busy := true, share := .part, sending := some f.place }
        else s1
    | none => s1

/-- The frame is the joining ROLL (R115). -/
def OutFrame.isJoining (f : OutFrame) : Bool :=
  match f.frame.body with
  | .roll p => p.joining
  | _ => false

/-- The frame in the place being sent. -/
def State.sendingFrame (s : State) : Option OutFrame :=
  match s.line.sending with
  | some p => s.line.waiting.find? fun f => f.place == p
  | none => none

/-- A frame has been sent whole (R112, R113, R115): its place frees; a request's answer deadline or the joining
window begins. The run it was sent in is not received when it ends (R104). -/
def frameSentWhole (s : State) : State :=
  match s.sendingFrame with
  | none => s
  | some f =>
    let s1 := emptyPlace f.place (s.setLine { s.line with share := .whole })
    match f.place with
    | .request =>
        s1.setLine { s1.line with
          inProgress := s1.line.inProgress.map fun e => { e with awaiting := some s.timeBase } }
    | .roll =>
        if f.isJoining then s1.setLine { s1.line with joinEnd := some (after s.timeBase 200) } else s1
    | _ => s1

/-- A byte came back wrong (R109): k rises by one and the frame waits again; the eighth collision ends its
sending: a request's attempt fails, an answer or a ROLL is dropped, the joining ROLL is made ready afresh (R115). R116
says nothing of an answer ROLL that is dropped: it is not made again (DESIGN CHOICE, log 44). The run on the line stays
one in which this station has sent (R104). -/
def collide (s : State) : State :=
  match s.sendingFrame with
  | none => s
  | some f =>
    if f.k < 7 then
      s.setLine { s.line with
        sending := none
        waiting := s.line.waiting.map fun g => if g.place = f.place then { g with k := g.k + 1 } else g }
    else
      let s1 := emptyPlace f.place s
      match f.place with
      | .request => attemptFails s1
      | .roll => if f.isJoining then readyFrame .roll f.frame s1 else s1
      | _ => s1

/-! ## Timed events of the line (R112, R115, R116) -/

/-- The answer deadline of the exchange in progress has run out (R112). -/
def State.answerLate (s : State) : Bool :=
  s.line.inProgress.any fun e => e.awaiting.any fun t => 20 ≤ elapsed s.timeBase t

/-- The joining window has run out (R115). -/
def State.joinOver (s : State) : Bool := s.line.state == .joining && dueAt s s.line.joinEnd

/-- The line state becomes MEMBER, and the first round begins (R115, R157). -/
def becomeMember (s : State) : State :=
  let s1 := s.setLine { s.line with state := .member, joinEnd := none }
  pumpSettlement (s1.setSettle { s1.settle with roundDue := some s.timeBase })

/-- A roll-call answer delay has run out. -/
def State.rollDelayOver (s : State) : Bool := s.line.rollDelays.any fun t => reached s.timeBase t

/-- An answer ROLL is made ready, unless one waits already (R116). -/
def answerRoll (s : State) : State :=
  let s1 := s.setLine { s.line with rollDelays := s.line.rollDelays.eraseP fun t => reached s.timeBase t }
  if s1.placeTaken .roll then s1 else readyFrame .roll (s1.rollFrame false) s1

/-! ## The commands of the line -/

/-- ROLL (R116). -/
def execRoll (head : FrameHead) (p : RollFields) (s : State) : Answer :=
  whenPowered s fun s =>
    hearFrame { head := head, body := .roll p }
      (takeRoll (s.marksPresent head.source) { head := head, body := .roll p } p) s

/-- HOLD REQUEST (R113). -/
def execHoldRequest (head : FrameHead) (p : HoldRequestFields) (s : State) : Answer :=
  whenPowered s fun s =>
    hearFrame { head := head, body := .holdRequest p } (queueRequest { head := head, body := .holdRequest p }) s

/-- TOP-UP REQUEST (R113). -/
def execTopUpRequest (head : FrameHead) (p : TopUpRequestFields) (s : State) : Answer :=
  whenPowered s fun s =>
    hearFrame { head := head, body := .topUpRequest p } (queueRequest { head := head, body := .topUpRequest p }) s

/-- POST (R113). -/
def execPost (head : FrameHead) (p : PostFields) (s : State) : Answer :=
  whenPowered s fun s =>
    hearFrame { head := head, body := .post p } (queueRequest { head := head, body := .post p }) s

/-- HOLD ANSWER (R111). -/
def execHoldAnswer (head : FrameHead) (p : HoldAnswerFields) (s : State) : Answer :=
  whenPowered s fun s =>
    hearFrame { head := head, body := .holdAnswer p } (takeAnswer { head := head, body := .holdAnswer p }) s

/-- POST ANSWER (R111). -/
def execPostAnswer (head : FrameHead) (p : PostAnswerFields) (s : State) : Answer :=
  whenPowered s fun s =>
    hearFrame { head := head, body := .postAnswer p } (takeAnswer { head := head, body := .postAnswer p }) s

/-- ESCROW QUERY (R98, R113). -/
def execEscrowQuery (head : FrameHead) (p : EscrowFields) (s : State) : Answer :=
  whenPowered s fun s =>
    hearFrame { head := head, body := .escrowQuery p }
      (answerAsCard (answerQuery p) { head := head, body := .escrowQuery p }) s

/-- ESCROW ANSWER (R111). -/
def execEscrowAnswer (head : FrameHead) (p : EscrowAnswerFields) (s : State) : Answer :=
  whenPowered s fun s =>
    hearFrame { head := head, body := .escrowAnswer p } (takeAnswer { head := head, body := .escrowAnswer p }) s

/-- ESCROW RELEASE (R99, R113). -/
def execEscrowRelease (head : FrameHead) (p : EscrowFields) (s : State) : Answer :=
  whenPowered s fun s =>
    hearFrame { head := head, body := .escrowRelease p }
      (answerAsCard (answerRelease p) { head := head, body := .escrowRelease p }) s

/-- RELEASE ANSWER (R111). -/
def execReleaseAnswer (head : FrameHead) (p : ReleaseAnswerFields) (s : State) : Answer :=
  whenPowered s fun s =>
    hearFrame { head := head, body := .releaseAnswer p } (takeAnswer { head := head, body := .releaseAnswer p }) s

/-- A good frame heard, by its kind (R106). -/
def hearByKind (f : Frame) (s : State) : State :=
  match f.body with
  | .roll p => hearFrame f (takeRoll (s.marksPresent f.head.source) f p) s
  | .holdRequest _ => hearFrame f (queueRequest f) s
  | .topUpRequest _ => hearFrame f (queueRequest f) s
  | .post _ => hearFrame f (queueRequest f) s
  | .holdAnswer _ => hearFrame f (takeAnswer f) s
  | .postAnswer _ => hearFrame f (takeAnswer f) s
  | .escrowQuery p => hearFrame f (answerAsCard (answerQuery p) f) s
  | .escrowAnswer _ => hearFrame f (takeAnswer f) s
  | .escrowRelease p => hearFrame f (answerAsCard (answerRelease p) f) s
  | .releaseAnswer _ => hearFrame f (takeAnswer f) s

/-- A run of bytes ends on the line, and the receiver judges it (R104): what fails a check is discarded, and the
line is idle again; bytes that pass every check are a good frame and are heard as one (log 34). -/
def execFrameDiscarded (bytes : List Byte) (s : State) : Answer :=
  whenPowered s fun s =>
    match Frame.read bytes with
    | some f => hearByKind f s
    | none => if s.line.sending.isSome then s else lineGoesIdle s

/-- FRAME_SEND_START (R108). -/
def execFrameSendStart (idle : Nat) (s : State) : Answer := whenPowered s (sendStarts idle)

/-- FRAME_SENT (R112). -/
def execFrameSent (s : State) : Answer := whenPowered s frameSentWhole

/-- COLLISION (R109). -/
def execCollision (s : State) : Answer := whenPowered s collide

/-- EXCHANGE_ANSWER_DEADLINE (R112). -/
def execExchangeAnswerDeadline (s : State) : Answer := whenDue State.answerLate s attemptFails

/-- EXCHANGE_START (R110). -/
def execExchangeStart (s : State) : Answer := whenPowered s startExchange

/-- JOINING_WINDOW_END (R115). -/
def execJoiningWindowEnd (s : State) : Answer := whenDue State.joinOver s becomeMember

/-- ROLL_ANSWER_DELAY_END (R116). -/
def execRollAnswerDelayEnd (s : State) : Answer := whenDue State.rollDelayOver s answerRoll

/-- The first transition after an idle gap (R103): the line is busy with a new run, in which this station has sent
nothing unless it is the one that sends (R104). Frames whose wait has not run out wait again from the next idle line
with the same k. -/
def lineGoesBusy (s : State) : State :=
  if s.line.state = .off then s
  else s.setLine { s.line with busy := true, share := if s.line.sending.isSome then s.line.share else .nothing }

/-- LINE_BUSY (R103). -/
def execLineBusy (s : State) : Answer := whenPowered s lineGoesBusy

/-- The settlement unit may begin the round that is due (R157). -/
def State.roundReady (s : State) : Bool :=
  s.member && s.settle.trying.isNone && s.settle.round.isNone && dueAt s s.settle.roundDue

/-- OUTBOUND_ROUND (R157). -/
def execOutboundRound (s : State) : Answer := whenDue State.roundReady s beginRound

end Sys2Proof.Machine
end

