-- ==== Sys2Proof/Machine/Path.lean ====
section
/-! DEFINITION. The path monitor (chapters Paper Path Supervision and Jam Recovery): samples and filters, edges,
windows, deliveries, jams, purges and path clear. -/

namespace Sys2Proof.Machine

/-! ## Samples and filters (R41 to R43) -/

/-- A sample into a filter (R43): agreement sets the count to 0, the third differing sample in a row makes an edge,
which changes the filtered state when it is taken (R44; log 8). -/
def Filter.sample (reading : Bool) (t : TimePoint) (f : Filter) : Filter :=
  if reading = f.on then { f with count := 0 }
  else if f.count < 2 then { f with count := f.count + 1 }
  else { f with count := 0, edge := some t }

/-- An edge is taken: the filtered state changes (R43, R44). -/
def Filter.flip (f : Filter) : Filter := { f with on := !f.on, edge := none }

/-- The threshold code of a sensor; 8 while no profile is present (R41). -/
def PathMonitor.threshold (p : PathMonitor) (s : PathSensor) : Nat :=
  match p.profile, s with
  | none, _ => 8
  | some q, .feed => q.thFeed
  | some q, .reg => q.thReg
  | some q, .fuse => q.thFuse
  | some q, .duplex => q.thDuplex
  | some q, .exit => q.thExit

/-- A level above the threshold code reads COVERED (R41). -/
def reads (level threshold : Nat) : Bool := threshold < level

def Filters.get (f : Filters) : PathSensor → Filter
  | .feed => f.feed
  | .reg => f.reg
  | .fuse => f.fuse
  | .duplex => f.duplex
  | .exit => f.exit

def Filters.set (f : Filters) (s : PathSensor) (x : Filter) : Filters :=
  match s with
  | .feed => { f with feed := x }
  | .reg => { f with reg := x }
  | .fuse => { f with fuse := x }
  | .duplex => { f with duplex := x }
  | .exit => { f with exit := x }

/-- Some filter holds an edge that has not been taken. -/
def Filters.waiting (f : Filters) : Bool :=
  f.feed.edge.isSome || f.reg.edge.isSome || f.fuse.edge.isSome || f.duplex.edge.isSome || f.exit.edge.isSome
    || f.door.edge.isSome

/-- All six inputs sampled together (R42). -/
def PathMonitor.sample (p : PathMonitor) (l : Levels) (door : DoorReading) (t : TimePoint) : Filters :=
  { feed := p.filters.feed.sample (reads l.feed (p.threshold .feed)) t
    reg := p.filters.reg.sample (reads l.reg (p.threshold .reg)) t
    fuse := p.filters.fuse.sample (reads l.fuse (p.threshold .fuse)) t
    duplex := p.filters.duplex.sample (reads l.duplex (p.threshold .duplex)) t
    exit := p.filters.exit.sample (reads l.exit (p.threshold .exit)) t
    door := p.filters.door.sample (door == .opened) t }

/-- A sample is due: its time has come, every edge of the last one was taken, and no purge waits for its judgement
(R42, R70; log 8). -/
def State.samplePathDue (s : State) : Bool :=
  reached s.timeBase s.path.sampleDue && !s.path.filters.waiting && s.path.settling != some 0

/-- A sample of the path inputs (R42); a settling wait counts it (R70). -/
def samplePath (l : Levels) (door : DoorReading) (s : State) : State :=
  s.setPath { s.path with
    filters := s.path.sample l door s.timeBase
    settling := s.path.settling.map fun n => n - 1
    lastSample := s.timeBase
    sampleDue := after s.timeBase s.path.state.period }

/-! ## Windows and routes (R48 to R50) -/

/-- The sensors of a sheet's route, in order (R49). -/
def route (faces : Nat) : List PathSensor :=
  if faces = 2 then [.feed, .reg, .fuse, .duplex, .reg, .fuse, .exit] else [.feed, .reg, .fuse, .exit]

/-- The sensor of a record's route position. -/
def SheetRecord.sensor (r : SheetRecord) : Option PathSensor := (route r.sheet.faces)[r.position - 1]?

/-- The segment time that governs the step between two sensors (R49). -/
def Profile.segment (p : Profile) (a b : PathSensor) : Nat :=
  match a, b with
  | .feed, .reg => p.feedReg
  | .reg, .fuse => p.regFuse
  | .fuse, .exit => p.fuseExit
  | .fuse, .duplex => p.fuseDuplex
  | .duplex, .reg => p.duplexReg
  | _, _ => 0

/-- The stay time of a size class (R49). -/
def Profile.stay (p : Profile) (size : SheetSize) : Nat :=
  match size with
  | .std => p.stayStd
  | .large => p.stayLarge

/-- The ends of the window of a nominal time from a reference time (R48). -/
def windowEarliest (r : TimePoint) (nominal tolerance : Nat) : TimePoint :=
  after r (nominal * (100 - tolerance) / 100)

def windowLatest (r : TimePoint) (nominal tolerance : Nat) : TimePoint :=
  after r (nominal * (100 + tolerance) / 100)

/-- The record awaits this event at this sensor (R50). -/
def SheetRecord.awaitsAt (a : Awaited) (s : PathSensor) (r : SheetRecord) : Bool :=
  r.awaits == a && r.sensor == some s

/-- The window holds a time (R48). -/
def SheetRecord.holds (t : TimePoint) (r : SheetRecord) : Bool := reached t r.earliest && !beyond t r.latest

/-- The record is overdue at a time (3.5). -/
def SheetRecord.overdue (t : TimePoint) (r : SheetRecord) : Bool := beyond t r.latest

/-- A record of the queue takes new tracking fields. -/
def setRecord (r : SheetRecord) (q : List SheetRecord) : List SheetRecord :=
  q.map fun x => if x.number = r.number then r else x

/-! ## Path clear and jams (R57, R58, R64) -/

/-- Path clear checked on entry to FAULT (R64). -/
def clearOnEntry (s : State) : State :=
  if s.path.filters.clear then raiseNotice (.pathClear s.timeBase) s else s

/-- The jam a record names. -/
def SheetRecord.named (r : SheetRecord) : Nat × Tag := (r.number, r.tag)

/-- A jam is declared (R58). -/
def declareJam (kind : JamKind) (place : JamPlace) (named : Option SheetRecord) (s : State) : State :=
  let lost := s.path.queue
  let s1 := enterPath .fault s
  let s2 := lost.foldl loseSheet (s1.setPath { s1.path with queue := [] })
  let record : JamRecord :=
    { kind := kind, place := place, sheet := named.map SheetRecord.named, time := s.timeBase, lost := lost.length }
  let s3 := s2.setPath { s2.path with jam := some record }
  let s4 := addMeters { MetersOf.zero with jams := JamsOf.only kind } s3
  let s5 := raiseNotice (.jam record) s4
  clearOnEntry (faultJob s5)

/-! ## Edges (R44, R52 to R56) -/

/-- The stay time of a sheet under the profile held. -/
def PathMonitor.stay (p : PathMonitor) (d : Sheet) : Nat := (p.profile.map fun q => q.stay d.size).getD 0

/-- The segment time of a step under the profile held. -/
def PathMonitor.segment (p : PathMonitor) (a b : PathSensor) : Nat := (p.profile.map fun q => q.segment a b).getD 0

/-- The tolerance under the profile held. -/
def PathMonitor.tolerance (p : PathMonitor) : Nat := (p.profile.map Profile.tolerance).getD 0

/-- A record whose leading edge was taken at `t`: it awaits TRAIL in the stay window of its size class (R52). -/
def SheetRecord.led (p : PathMonitor) (t : TimePoint) (r : SheetRecord) : SheetRecord :=
  { r with
    leadTime := some t, awaits := .trail
    earliest := windowEarliest t (p.stay r.sheet) p.tolerance
    latest := windowLatest t (p.stay r.sheet) p.tolerance }

/-- A record that moves from sensor `x` to its next position at sensor `next`: it awaits LEAD there in the segment
window from the lead time it holds (R54). -/
def SheetRecord.advanced (p : PathMonitor) (x next : PathSensor) (r : SheetRecord) : SheetRecord :=
  let lead := r.leadTime.getD r.earliest
  { r with
    position := r.position + 1, awaits := .lead
    earliest := windowEarliest lead (p.segment x next) p.tolerance
    latest := windowLatest lead (p.segment x next) p.tolerance }

/-- A leading edge matched to the path queue (R52). -/
def matchLeading (x : PathSensor) (t : TimePoint) (s : State) : State :=
  let waiting := s.path.queue.filter (SheetRecord.awaitsAt .lead x)
  match waiting.find? (SheetRecord.holds t) with
  | some r => s.setPath { s.path with queue := setRecord (r.led s.path t) s.path.queue }
  | none =>
    match waiting.find? (SheetRecord.overdue t) with
    | some r => declareJam .late (.sensor x) (some r) s
    | none =>
      match waiting with
      | r :: _ => declareJam .early (.sensor x) (some r) s
      | [] => declareJam .stray (.sensor x) none s

/-- A record whose trailing edge fell in its stay window: at the last position of its route, EXIT, it is
delivered, else it moves to its next position (R54). -/
def moveOn (x : PathSensor) (r : SheetRecord) (s : State) : State :=
  match (route r.sheet.faces)[r.position]? with
  | some next => s.setPath { s.path with queue := setRecord (r.advanced s.path x next) s.path.queue }
  | none => deliver r (s.setPath { s.path with queue := s.path.queue.filter fun y => y.number != r.number })

/-- A trailing edge matched to the path queue (R53). -/
def matchTrailing (x : PathSensor) (t : TimePoint) (s : State) : State :=
  match s.path.queue.find? (SheetRecord.awaitsAt .trail x) with
  | none => declareJam .stray (.sensor x) none s
  | some r =>
    if reached t r.earliest = false then declareJam .short (.sensor x) (some r) s
    else if r.overdue t then declareJam .stay (.sensor x) (some r) s
    else moveOn x r s

/-- Path clear judged after an edge in FAULT (R64). -/
def clearAfterEdge (before : Bool) (t : TimePoint) (s : State) : State :=
  if s.path.state = .fault ∧ before = false ∧ s.path.filters.clear = true then raiseNotice (.pathClear t) s
  else s

/-- The edge that a sensor's filter holds, if its filtered state is `on`. -/
def State.sensorEdge (s : State) (x : PathSensor) (on : Bool) : Option TimePoint :=
  if (s.path.filters.get x).on = on then (s.path.filters.get x).edge else none

/-- An edge of a path sensor is taken (R44): it changes the filtered state, is matched in ACTIVE, and in FAULT
path clear is judged. -/
def takeSensorEdge (x : PathSensor) (t : TimePoint) (matched : PathSensor → TimePoint → State → State)
    (s : State) : State :=
  let before := s.path.filters.clear
  let s1 := s.setPath { s.path with filters := s.path.filters.set x (s.path.filters.get x).flip }
  if s1.path.state = .active then matched x t s1 else clearAfterEdge before t s1

/-- An edge of the door is taken (R44, R56): an opening in ACTIVE declares a DOOR jam. -/
def takeDoorEdge (opening : Bool) (t : TimePoint) (s : State) : State :=
  let before := s.path.filters.clear
  let s1 := s.setPath { s.path with filters := { s.path.filters with door := s.path.filters.door.flip } }
  if s1.path.state = .active then (if opening then declareJam .door .door none s1 else s1)
  else clearAfterEdge before t s1

/-- The edge that the door's filter holds, if its filtered state is `on` (OPEN). -/
def State.doorEdge (s : State) (on : Bool) : Option TimePoint :=
  if s.path.filters.door.on = on then s.path.filters.door.edge else none

/-- The record whose deadline has passed (R55). -/
def State.lateRecord (s : State) (sheet : Nat) : Option SheetRecord :=
  if s.path.state = .active then
    s.path.queue.find? fun r => r.number == sheet && beyond s.timeBase r.latest
  else none

/-- A deadline declares LATE for an awaited leading edge, STAY for an awaited trailing edge (R55). -/
def deadlineJam (r : SheetRecord) (s : State) : State :=
  match r.sensor with
  | some x => declareJam (match r.awaits with | .lead => .late | .trail => .stay) (.sensor x) (some r) s
  | none => s

/-! ## Purges (R70, R71) -/

/-- Every edge a sample made and that has not been taken changes its filtered state (R69, R70). -/
def Filter.settled (f : Filter) : Filter := if f.edge.isSome then f.flip else f

def Filters.settled (f : Filters) : Filters :=
  { feed := f.feed.settled, reg := f.reg.settled, fuse := f.fuse.settled, duplex := f.duplex.settled,
    exit := f.exit.settled, door := f.door.settled }

/-- The judgement of a purge, on the filtered states as the third sample leaves them, any edge it made included
(R70, R71, R72). -/
def judgePurge (s : State) : State :=
  let s1 := s.setPath { s.path with filters := s.path.filters.settled, settling := none }
  let states := s1.path.filters.states
  let count := s1.path.purgeCount
  if s1.path.filters.clear then
    complete .ok (.purged .clear count states) (clearOnEntry (enterPath .fault s1))
  else
    let s2 := s1.setPath { s1.path with purgeCount := count + 1 }
    if count < 2 then complete .ok (.purged .notClear (count + 1) states) (enterPath .fault s2)
    else
      complete .ok (.purged .service (count + 1) states)
        (raiseNotice (.service (count + 1) states) (enterPath .service s2))

/-- The settling wait of a PURGE END has ended (R70). -/
def State.purgeOver (s : State) : Bool := s.path.settling == some 0

/-! ## The events of the path -/

/-- SENSOR_SAMPLE (R42). -/
def execSensorSample (l : Levels) (door : DoorReading) (s : State) : Answer :=
  whenDue State.samplePathDue s (samplePath l door)

/-- LEADING_EDGE (R52). -/
def execLeadingEdge (x : PathSensor) (s : State) : Answer :=
  whenPowered s fun s =>
    match s.sensorEdge x false with
    | some t => takeSensorEdge x t matchLeading s
    | none => s

/-- TRAILING_EDGE (R53). -/
def execTrailingEdge (x : PathSensor) (s : State) : Answer :=
  whenPowered s fun s =>
    match s.sensorEdge x true with
    | some t => takeSensorEdge x t matchTrailing s
    | none => s

/-- DOOR_OPEN_EDGE (R56). -/
def execDoorOpenEdge (s : State) : Answer :=
  whenPowered s fun s =>
    match s.doorEdge false with
    | some t => takeDoorEdge true t s
    | none => s

/-- DOOR_CLOSED_EDGE (R44). -/
def execDoorClosedEdge (s : State) : Answer :=
  whenPowered s fun s =>
    match s.doorEdge true with
    | some t => takeDoorEdge false t s
    | none => s

/-- WINDOW_DEADLINE (R55). -/
def execWindowDeadline (sheet : Nat) (s : State) : Answer :=
  whenPowered s fun s =>
    match s.lateRecord sheet with
    | some r => deadlineJam r s
    | none => s

/-- PURGE_SETTLING_WAIT_END (R71). -/
def execPurgeSettlingWaitEnd (s : State) : Answer := whenDue State.purgeOver s judgePurge

end Sys2Proof.Machine
end

