-- ==== Sys2Proof/Machine/Account.lean ====
section
/-! DEFINITION. The account unit (chapter Accounts and Holds at the Home Station): the requests it takes, their
decisions, the hold pool, the release of answers, and the lapse of holds. -/

namespace Sys2Proof.Machine

/-! ## Figures of the home (R122, R125, R127) -/

/-- The lower end of a balance (R122). -/
def balanceMin : Int := -8388608

/-- A balance after an addition, saturating at both ends (R122, R144). -/
def saturate (b : Int) : Int := max balanceMin (min 16777215 b)

/-- The lifetime of a hold in ms (R128). -/
def holdLifetime : Nat := 120000

/-- A hold as its store record keeps it: without its expiry (R125). -/
def Hold.stored (h : Hold) : Hold := { h with expiry := none }

def writeHold (h : Hold) : RecordWrite := .hold h.place (some h.stored)

def writeAccount (a : Account) : RecordWrite := .account a.number (some a)

/-- The ACTIVE holds of a pool. -/
def activeCount (pool : List Hold) : Nat := (pool.filter fun h => h.state == .active).length

/-- A hold keeps its place in the change order and takes new figures. -/
def replaceHold (h : Hold) (pool : List Hold) : List Hold :=
  pool.map fun x => if x.hold = h.hold then h else x

/-- A hold goes to the end of the change order (R127). -/
def moveHold (h : Hold) (pool : List Hold) : List Hold :=
  (pool.filter fun x => x.hold != h.hold) ++ [h]

/-- The lowest place that no record holds. -/
def freePlace (pool : List Hold) : Option Nat :=
  (List.range 48).find? fun p => pool.all fun h => h.place != p

/-- The record that makes room in a full pool: the earliest SETTLED one, else the earliest LAPSED one (R127). -/
def discardable (pool : List Hold) : Option Hold :=
  match pool.find? fun h => h.state == .settled with
  | some h => some h
  | none => pool.find? fun h => h.state == .lapsed

/-- The pool with room for a record, and the place the record takes: a place freed just now, else the lowest free
one, else that of the record R127 discards (R127; log 18). -/
def makeRoom (freed : Option Nat) (pool : List Hold) : List Hold × Nat :=
  match freed with
  | some p => (pool, p)
  | none =>
    match freePlace pool with
    | some p => (pool, p)
    | none =>
      match discardable pool with
      | some h => (pool.filter fun x => x.hold != h.hold, h.place)
      | none => (pool, 0)

/-- A new record at the end of the change order (R127). -/
def addHold (freed : Option Nat) (h : Hold) (u : AccountUnit) : AccountUnit × Hold :=
  let r := makeRoom freed u.pool
  let made := { h with place := r.2, stamp := u.nextStamp }
  ({ u with pool := r.1 ++ [made], nextStamp := u.nextStamp + 1 }, made)

/-- A record whose state changes: it takes the next stamp and goes to the end of the change order (R127). -/
def changeHold (h : Hold) (u : AccountUnit) : AccountUnit × Hold :=
  let changed := { h with stamp := u.nextStamp }
  ({ u with pool := moveHold changed u.pool, nextStamp := u.nextStamp + 1 }, changed)

/-- The account table with a record at its place in number order (R124). -/
def AccountUnit.putTable (u : AccountUnit) (a : Account) : AccountUnit :=
  { u with table := putSorted Account.number a u.table }

/-! ## Decisions (R131 to R141) -/

/-- What the unit decides: its new table and pool, the store writes in their order, and the answer (R131). -/
structure Decision where
  unit : AccountUnit
  writes : List RecordWrite
  answer : Payload
  /-- the answer carries a free value -/
  fresh : Bool
deriving DecidableEq, Repr

/-- A refused HOLD or TOP-UP: NO_FUNDS carries granted 0; what else the spec gives no value for is free (R134,
R135; log 10). -/
def holdRefused (s : State) (u : AccountUnit) (writes : List RecordWrite) (r : Reason) : Decision :=
  { unit := u, writes := writes, fresh := true
    answer := .holdAnswer { status := r.code, granted := if r = .noFunds then 0 else freshAmount s,
                            discount := freshRate s } }

/-- A refused POST; its posted figure is free (R132, R138, R141; log 10). -/
def postRefused (s : State) (r : Reason) : Decision :=
  { unit := s.accounts, writes := [], fresh := true
    answer := .postAnswer { status := r.code, posted := freshAmount s } }

def holdGranted (u : AccountUnit) (writes : List RecordWrite) (granted discount : Nat) : Decision :=
  { unit := u, writes := writes, fresh := false
    answer := .holdAnswer { status := Reason.ok.code, granted := granted, discount := discount } }

def postTaken (u : AccountUnit) (writes : List RecordWrite) (late : Bool) (posted : Nat) : Decision :=
  { unit := u, writes := writes, fresh := false
    answer := .postAnswer { status := if late then Reason.late.code else Reason.ok.code, posted := posted } }

/-- The minimum and the amount as R132 leaves them. -/
def leastOf (minimum : Nat) : Nat := max 1 minimum
def askedOf (amount minimum : Nat) : Nat := max amount (leastOf minimum)

/-- A peer's request is checked against home resolution, the own job unit's is not (R132, check 3). -/
def homeFails (origin : Origin) (account : Nat) (s : State) : Bool := origin.isPeer && !s.keeps account

/-- A HOLD for a new hold id (R134). `u` is the unit, `freed` and `writes` what R133 did before. -/
def grantHold (r : HoldRequestFields) (a : Account) (u : AccountUnit) (freed : Option Nat)
    (writes : List RecordWrite) (s : State) : Decision :=
  let m := leastOf r.minimum
  let available := u.available a
  if a.status = .suspended then holdRefused s u writes .suspended
  else if activeCount u.pool ≥ 47 then holdRefused s u writes .poolFull
  else if available < (m : Int) ∨ m > 100000 then holdRefused s u writes .noFunds
  else
    let g := min (askedOf r.amount r.minimum) (min available.toNat 100000)
    let made := addHold freed
      { hold := r.hold, account := r.account, state := .active, granted := g, posted := 0, postedUsage := UsageOf.all 0,
        expiry := some (after s.timeBase holdLifetime), place := 0, stamp := 0 } u
    holdGranted made.1 [writeHold made.2] g a.discount

/-- A HOLD REQUEST (R132 to R134). The old record of a LAPSED or SETTLED id is discarded; where no new record takes
its place it is written as free (log 17). -/
def decideHold (origin : Origin) (r : HoldRequestFields) (s : State) : Decision :=
  let u := s.accounts
  if r.amount > 16777215 ∨ r.minimum > 16777215 then holdRefused s u [] .noFunds
  else if homeFails origin r.account s then holdRefused s u [] .notHome
  else match u.find r.account with
    | none => holdRefused s u [] .noAccount
    | some a =>
      match u.findHold r.hold with
      | none => grantHold r a u none [] s
      | some h =>
        if h.state = .active then holdGranted u [] h.granted a.discount
        else
          grantHold r a { u with pool := u.pool.filter fun x => x.hold != h.hold } (some h.place)
            [.hold h.place none] s

/-- An expiry is renewed to the present time plus the lifetime (R128). -/
def Hold.renewed (now : TimePoint) (h : Hold) : Hold := { h with expiry := some (after now holdLifetime) }

/-- A TOP-UP on an ACTIVE hold: its expiry is renewed whatever the answer (R135). -/
def grantTopUp (r : TopUpRequestFields) (h : Hold) (s : State) : Decision :=
  let h1 := h.renewed s.timeBase
  let u := { s.accounts with pool := replaceHold h1 s.accounts.pool }
  match u.find h.account with
  | none => holdRefused s u [] .suspended
  | some a =>
    let m := leastOf r.minimum
    let available := u.available a
    if a.status = .suspended then holdRefused s u [] .suspended
    else if available < (m : Int) ∨ m > 100000 then holdRefused s u [] .noFunds
    else
      let g := min (min (askedOf r.amount r.minimum) (min available.toNat 100000)) (16777215 - h.granted)
      if g < m then holdRefused s u [] .noFunds
      else
        let h2 := { h1 with granted := h.granted + g }
        holdGranted { u with pool := replaceHold h2 u.pool } [writeHold h2] g a.discount

/-- A TOP-UP REQUEST (R132, R135). -/
def decideTopUp (origin : Origin) (r : TopUpRequestFields) (s : State) : Decision :=
  let u := s.accounts
  if r.amount > 16777215 ∨ r.minimum > 16777215 then holdRefused s u [] .noFunds
  else match u.findHold r.hold with
    | none => holdRefused s u [] .unknownHold
    | some h =>
      if homeFails origin h.account s then holdRefused s u [] .notHome
      else match h.state with
        | .settled => holdRefused s u [] .unknownHold
        | .lapsed => holdRefused s u [] .lapsed
        | .active => grantTopUp r h s

/-- What a post adds to an account's figures (R137 to R139, R141). -/
def postFigures (usage : Usage) (money : Nat) (late final : Bool) : FiguresOf Nat :=
  { usage := usage, charged := money, late := if late then money else 0, jobs := if final then 1 else 0 }

/-- An account takes an applied post: the balance falls, the period and lifetime figures rise (R137). -/
def Account.charge (a : Account) (money : Nat) (figures : FiguresOf Nat) : Account :=
  { a with
    balance := saturate (a.balance - money)
    figures := FiguresOf.zip Counter.add figures a.figures }

/-- The usage of a post beyond the hold's posted counts (R137). -/
def usageBeyond (post posted : Usage) : Usage := UsageOf.zip (fun x y => x - y) post posted

/-- The post carries something beyond the hold's posted figures (R137). -/
def postAdds (r : PostFields) (h : Hold) : Bool :=
  h.posted < r.charged || (UsageOf.toList (usageBeyond r.usage h.postedUsage)).any fun n => 0 < n

/-- A hold takes a post's figures where they are the larger (R137). -/
def Hold.take (r : PostFields) (h : Hold) : Hold :=
  { h with posted := max h.posted r.charged, postedUsage := UsageOf.zip max h.postedUsage r.usage }

/-- A POST to an ACTIVE or LAPSED hold (R137 to R139). -/
def applyPost (r : PostFields) (h : Hold) (s : State) : Decision :=
  let late := h.state == .lapsed
  let money := r.charged - h.posted
  let h1 := h.take r
  let held : AccountUnit × Hold :=
    if r.final then changeHold { h1 with state := .settled, expiry := none } s.accounts
    else
      let h2 := if late then h1 else h1.renewed s.timeBase
      ({ s.accounts with pool := replaceHold h2 s.accounts.pool }, h2)
  if r.final ∨ postAdds r h = true then
    match s.accounts.find h.account with
    | some a =>
        let a1 := a.charge money (postFigures (usageBeyond r.usage h.postedUsage) money late r.final)
        postTaken (held.1.putTable a1) [writeHold held.2, writeAccount a1] late h1.posted
    | none => postTaken held.1 [writeHold held.2] late h1.posted
  else postTaken held.1 [] late h1.posted

/-- An offline POST to an unknown hold makes a SETTLED record and charges C as late (R141). -/
def recordOffline (r : PostFields) (a : Account) (s : State) : Decision :=
  let made := addHold none
    { hold := r.hold, account := r.account, state := .settled, granted := 0, posted := r.charged,
      postedUsage := r.usage, expiry := none, place := 0, stamp := 0 } s.accounts
  let a1 := a.charge r.charged (postFigures r.usage r.charged true r.final)
  postTaken (made.1.putTable a1) [writeHold made.2, writeAccount a1] false r.charged

/-- A POST REQUEST (R132, R137 to R141; log 30). -/
def decidePost (origin : Origin) (r : PostFields) (s : State) : Decision :=
  let u := s.accounts
  if r.charged > 999999 then postRefused s .unknownHold
  else if homeFails origin r.account s then postRefused s .notHome
  else match u.findHold r.hold with
    | some h =>
      if homeFails origin h.account s then postRefused s .notHome
      else if h.account ≠ r.account then postRefused s .unknownHold
      else if h.state = .settled then postTaken u [] false h.posted
      else applyPost r h s
    | none =>
      match r.offline, u.find r.account with
      | true, some a => recordOffline r a s
      | _, _ => postRefused s .unknownHold

/-- The decision of a request; none where R106 discards it unanswered: a hold station above 31 or account 0
(R106, R188; log 26). A hold serial of 0, for which no rule names a discard or an answer, is an id like any other (DESIGN
CHOICE, log 48). -/
def decideRequest (a : Arrival) (s : State) : Option Decision :=
  match a.body with
  | .holdRequest r => if r.hold.station > 31 ∨ r.account = 0 then none else some (decideHold a.origin r s)
  | .topUpRequest r => if r.hold.station > 31 then none else some (decideTopUp a.origin r s)
  | .post r => if r.hold.station > 31 ∨ r.account = 0 then none else some (decidePost a.origin r s)
  | _ => none

/-! ## Taking a request and releasing its answer (R130, R131) -/

/-- The answer leaves: a peer's to the account answer place, the own units' directly (R131, R156; log 35). -/
def releaseAnswer (h : InHand) (s : State) : State :=
  match h.arrival.origin with
  | .peer station exch =>
      if s.onLine then readyFrame .accountAnswer (s.answerFrame station exch h.answer) s else s
  | .job => jobOutcome h.arrival.body (.answer h.answer) s
  | .settlement => tryOutcome (.answer h.answer) s

/-- The decided records are changed, their writes submitted, and the answer is held until all of them have
completed, or leaves at once where there are none (R131). -/
def carryOut (a : Arrival) (d : Decision) (s : State) : State :=
  let s1 := s.setAccounts d.unit
  let s2 := if d.fresh then advanceFree s1 else s1
  let h : InHand := { arrival := a, answer := d.answer, outstanding := d.writes.length }
  if d.writes = [] then releaseAnswer h s2
  else d.writes.foldl (fun x w => submit .request w x) (s2.setAccounts { s2.accounts with inHand := some h })

/-- The request that the unit may take next: none while one is in hand; a peer's only with the account answer
place free; of those the one that arrived first (R130). -/
def State.nextRequest (s : State) : Option Arrival :=
  if s.accounts.inHand.isSome then none
  else s.accounts.arrivals.find? fun a => !(a.origin.isPeer && s.placeTaken .accountAnswer)

/-- The unit takes the next request and decides it whole (R131). -/
def takeRequest (a : Arrival) (s : State) : State :=
  let s1 := s.setAccounts { s.accounts with arrivals := s.accounts.arrivals.erase a }
  match decideRequest a s1 with
  | some d => carryOut a d s1
  | none => s1

/-- A store write of the request in hand has completed (R131). -/
def requestWritten (s : State) : State :=
  match s.accounts.inHand with
  | none => s
  | some h =>
    if h.outstanding ≤ 1 then releaseAnswer h (s.setAccounts { s.accounts with inHand := none })
    else s.setAccounts { s.accounts with inHand := some { h with outstanding := h.outstanding - 1 } }

/-! ## Lapse (R128) -/

/-- The ACTIVE hold whose expiry the time base has counted beyond. -/
def State.expiredHold (s : State) (id : HoldId) : Option Hold :=
  s.accounts.pool.find? fun h =>
    h.hold == id && h.state == .active && h.expiry.any fun e => beyond s.timeBase e

/-- A hold lapses (R128). -/
def lapseHold (h : Hold) (s : State) : State :=
  let r := changeHold { h with state := .lapsed, expiry := none } s.accounts
  submit .plain (writeHold r.2) (s.setAccounts r.1)

/-! ## Its events -/

/-- ACCOUNT_REQUEST_TAKEN (R131). -/
def execAccountRequestTaken (s : State) : Answer :=
  whenPowered s fun s =>
    match s.nextRequest with
    | some a => takeRequest a s
    | none => s

/-- HOLD_LAPSE (R128). -/
def execHoldLapse (id : HoldId) (s : State) : Answer :=
  whenPowered s fun s =>
    match s.expiredHold id with
    | some h => lapseHold h s
    | none => s

end Sys2Proof.Machine
end

