-- ==== Sys2Proof/Machine/Start.lean ====
section
/-! DEFINITION. The start of the part (chapter Store, Options and Start): what every block takes back from the
store, the settlement of an interrupted job, power loss, and the store's work at a RESTART. -/

namespace Sys2Proof.Machine

/-! ## The blocks' own records (R183 to R185) -/

/-- The running options of a start, and whether they came from the stored record (R183, R189). -/
def StoreRecords.startOptions (r : StoreRecords) : Options × Bool :=
  match r.options.bind Options.readRecord with
  | some o => (o, true)
  | none => (Options.defaults, false)

/-- The refund list of a start: CLAIMED entries become HELD (R92). -/
def StoreRecords.startRefunds (r : StoreRecords) : List RefundEntry :=
  r.refunds.map fun e => { e with state := .held }

/-- A hold in its place of the change order. -/
def orderHold (h : Hold) : List Hold → List Hold
  | [] => [h]
  | x :: rest => if h.stamp < x.stamp then h :: x :: rest else x :: orderHold h rest

/-- The hold pool of a start, in the change order it had: each ACTIVE hold has the expiry start + 120 s (R129). -/
def StoreRecords.startPool (r : StoreRecords) : List Hold :=
  (r.holds.foldl (fun l h => orderHold h l) []).map fun h =>
    { h with expiry := if h.state = .active then some (after 0 holdLifetime) else none }

/-- The next change stamp of a start: above every stamp kept. -/
def StoreRecords.nextStamp (r : StoreRecords) : Nat := r.holds.foldl (fun n h => max n (h.stamp + 1)) 0

/-- The line of a start (R114, R115): OFF without a station number; JOINING with one, the own entry in the roster
and the joining ROLL made ready. -/
def startLine (s : State) : State :=
  match s.own with
  | none => s
  | some n =>
    readyFrame .roll (s.rollFrame true) (s.setLine { LineUnit.off with
      state := .joining
      roster := [{ station := n, present := true, home := s.options.home, overlap := false }] })

/-! ## The interrupted job (R187) -/

/-- The job context of an interrupted job (R187). -/
def Checkpoint.interrupted (k : Checkpoint) : JobContext :=
  { JobContext.blank with
    serial := some k.serial, state := .settling, funding := some k.funding, openingCard := k.openingCard
    purse := k.purse, account := k.account, funded := k.funded, charged := k.charged, delivered := k.delivered
    usage := k.usage, closeReason := some .interrupted }

/-- The settlement place of an interrupted job is reserved (R5, R185). -/
def reservePlace (kind : FundingKind) (s : State) : State :=
  if kind = .purse then s.setCard { s.card with refundReserved := true }
  else s.setSettle { s.settle with reservedJob := true }

/-- The settlement of an interrupted job by its funding (R187). -/
def settleInterrupted (s : State) : State :=
  if s.job.ctx.funding = some .purse then
    if s.job.ctx.purse.any (fun p => p.tag.isSome) then s.setJob { s.job with awaitsCard := true }
    else endJob .card s
  else if s.job.ctx.funding = some .account ∧ s.jobIsLocal = true then askJob .finalPost s
  else settleByQueue s

/-- A checkpoint found valid is taken and its job settled (R187). -/
def takeCheckpoint (s : State) : State :=
  match s.store.records.checkpoint with
  | none => s
  | some k => settleInterrupted (reservePlace k.funding (s.setCtx k.interrupted))

/-! ## The start (R177, R185) -/

/-- Every block as a start leaves it, from the records of the store. -/
def startBlocks (cause : StartCause) (s : State) : State :=
  let r := s.store.records
  let o := r.startOptions
  { powered := true, timeBase := 0, options := o.1
    port := Port.start { time := 0, body := .start cause o.1.station o.2 }
    job := JobUnit.start r.serial, tariff := r.tariff, path := PathMonitor.start r.profile
    card := CardUnit.start r.startRefunds, line := LineUnit.off
    accounts := AccountUnit.start r.accounts r.startPool r.nextStamp
    settle := SettlementUnit.start r.outbound, meter := { record := r.meters, snapshot := none }
    store := Store.quiet r, free := s.free, pending := s.pending }

/-- A start (R185): the blocks take their records, the line its state, and an interrupted job is settled. -/
def start (cause : StartCause) (s : State) : State := takeCheckpoint (startLine (startBlocks cause s))

/-! ## Power (R182) -/

/-- A part without power: the records of the store stand as the last completed writes left them; all else is gone
(R182; log 4). -/
def losePower (s : State) : State :=
  let r := s.store.records
  { powered := false, timeBase := 0, options := Options.defaults
    port := { state := .idle, refused := 0, notices := [], overflow := false, held := none, shifted := .nothing }
    job := JobUnit.start r.serial, tariff := none, path := PathMonitor.start none, card := CardUnit.start []
    line := LineUnit.off, accounts := AccountUnit.start [] [] 0, settle := SettlementUnit.start []
    meter := { record := r.meters, snapshot := none }, store := Store.quiet r, free := s.free, pending := s.pending }

/-- The store completes the write in progress and every write that stands in its queue; submitters that wait for a
place are abandoned (R182; log 19). -/
def finishWrites (s : State) : State :=
  let queued := s.store.queue.map fun w => w.what.begun s.meter.record
  let all := (s.store.current.map fun w => w.1.what).toList ++ queued
  s.setStore (Store.quiet (all.foldl (fun r w => w.apply r) s.store.records))

/-- A RESTART taken by the port (R177, R182). -/
def restart (s : State) : State := start .restart (finishWrites s)

/-- POWER_ON (R185): a part with power loses it first (log 4). -/
def execPowerOn (s : State) : Answer := .next (start .powerOn (losePower s))

/-- POWER_LOSS (R182). -/
def execPowerLoss (s : State) : Answer := whenPowered s losePower

end Sys2Proof.Machine
end

