-- ==== Sys2Proof/Machine/AccountCommands.lean ====
section
/-! DEFINITION. Account administration and statements at the home's engine (R143 to R147, R169). -/

namespace Sys2Proof.Machine

/-- A changed account record is put in the table and written; the result waits for the write's place (7.8). -/
def writeTable (a : Account) (values : Values) (s : State) : State :=
  submitAndAnswer (writeAccount a) values (s.setAccounts (s.accounts.putTable a))

/-! ## ACCOUNT ADD (R143) -/

/-- The record ACCOUNT ADD makes: OPEN, every figure and the statement serial 0 (R122, R143). -/
def AccountAddOperand.record (a : AccountAddOperand) : Account :=
  { number := a.number, status := .opened, balance := a.balance, limit := a.limit, discount := a.discount,
    figures := FiguresOf.all { life := 0, period := 0 }, statementSerial := 0 }

/-- The running options keep an account: a station number, and a home range that contains it (R143). -/
def State.admits (s : State) (number : Nat) : Bool :=
  s.own.isSome && s.options.home.any fun h => h.contains number

def accountAdd (ps : List Byte) (s : State) : State :=
  match AccountAddOperand.read ps with
  | none => complete .badParam .none s
  | some a =>
    if a.inRange = false then complete .badParam .none s
    else if s.admits a.number = false then complete .notHome .none s
    else if (s.accounts.find a.number).isSome then complete .jobOpen .none s
    else if s.accounts.table.length ≥ 512 then complete .tableFull .none s
    else writeTable a.record .none s

def accountAddCommand (ps : List Byte) (s : State) : State := takeCommand .accountAdd ps (accountAdd ps) s

/-- ACCOUNT ADD (R143). -/
def execAccountAdd (ps : List Byte) (s : State) : Answer := whenPowered s (accountAddCommand ps)

/-! ## ACCOUNT CREDIT (R144) -/

def accountCredit (ps : List Byte) (s : State) : State :=
  match AccountCreditOperand.read ps with
  | none => complete .badParam .none s
  | some c =>
    if c.amount < -100000 ∨ 100000 < c.amount then complete .badParam .none s
    else match s.accounts.find c.number with
      | none => complete .noAccount .none s
      | some a =>
        let a1 := { a with balance := saturate (a.balance + c.amount) }
        writeTable a1 (.credited a1.balance (s.accounts.available a1)) s

def accountCreditCommand (ps : List Byte) (s : State) : State := takeCommand .accountCredit ps (accountCredit ps) s

/-- ACCOUNT CREDIT (R144). -/
def execAccountCredit (ps : List Byte) (s : State) : Answer := whenPowered s (accountCreditCommand ps)

/-! ## ACCOUNT SET (R145) -/

def accountSet (ps : List Byte) (s : State) : State :=
  match AccountSetOperand.read ps with
  | none => complete .badParam .none s
  | some o =>
    match accountStatus o.status with
    | none => complete .badParam .none s
    | some status =>
      if o.limit > 100000 ∨ o.discount > 50 then complete .badParam .none s
      else match s.accounts.find o.number with
        | none => complete .noAccount .none s
        | some a => writeTable { a with limit := o.limit, discount := o.discount, status := status } .none s

def accountSetCommand (ps : List Byte) (s : State) : State := takeCommand .accountSet ps (accountSet ps) s

/-- ACCOUNT SET (R145). -/
def execAccountSet (ps : List Byte) (s : State) : Answer := whenPowered s (accountSetCommand ps)

/-! ## ACCOUNT REMOVE (R146) -/

/-- The holds of a state that name an account. -/
def holdCount (pool : List Hold) (account : Nat) (state : HoldState) : Nat :=
  (pool.filter fun h => h.account == account && h.state == state).length

/-- A period figure is not 0 (R146). -/
def Account.statementDue (a : Account) : Bool := (FiguresOf.toList a.figures).any fun c => c.period != 0

def accountRemove (ps : List Byte) (s : State) : State :=
  match accountNumber ps with
  | none => complete .badParam .none s
  | some n =>
    match s.accounts.find n with
    | none => complete .noAccount .none s
    | some a =>
      if holdCount s.accounts.pool n .active + holdCount s.accounts.pool n .lapsed > 0 then complete .holdsOpen .none s
      else if a.statementDue then complete .statementDue .none s
      else
        submitAndAnswer (.account n none) (.removed a.balance (FiguresOf.map Counter.life a.figures))
          (s.setAccounts { s.accounts with table := dropKey Account.number n s.accounts.table })

def accountRemoveCommand (ps : List Byte) (s : State) : State := takeCommand .accountRemove ps (accountRemove ps) s

/-- ACCOUNT REMOVE (R146). -/
def execAccountRemove (ps : List Byte) (s : State) : Answer := whenPowered s (accountRemoveCommand ps)

/-! ## READ ACCOUNT, LIST ACCOUNTS (R147) -/

def readAccount (ps : List Byte) (s : State) : State :=
  match accountNumber ps with
  | none => complete .badParam .none s
  | some n =>
    match s.accounts.find n with
    | none => complete .noAccount .none s
    | some a =>
      complete .ok (.account a (s.accounts.available a) (s.accounts.overLimit a)
        (holdCount s.accounts.pool n .active) (holdCount s.accounts.pool n .lapsed)) s

def readAccountCommand (ps : List Byte) (s : State) : State := takeCommand .readAccount ps (readAccount ps) s

/-- READ ACCOUNT (R147). -/
def execReadAccount (ps : List Byte) (s : State) : Answer := whenPowered s (readAccountCommand ps)

/-- One account as LIST ACCOUNTS gives it. -/
def State.accountLine (s : State) (a : Account) : AccountLine :=
  { number := a.number, status := a.status, balance := a.balance, available := s.accounts.available a,
    shadowed := s.shadowed a.number }

/-- A page of the table from a starting number (R147); from 0 it is the first page (DESIGN CHOICE, log 55). -/
def listAccounts (ps : List Byte) (s : State) : State :=
  match accountNumber ps with
  | none => complete .badParam .none s
  | some n =>
    let from_ := s.accounts.table.filter fun a => n ≤ a.number
    complete .ok (.accounts ((from_.take 16).map s.accountLine) (16 < from_.length)) s

def listAccountsCommand (ps : List Byte) (s : State) : State := takeCommand .listAccounts ps (listAccounts ps) s

/-- LIST ACCOUNTS (R147). -/
def execListAccounts (ps : List Byte) (s : State) : Answer := whenPowered s (listAccountsCommand ps)

/-! ## READ STATEMENT (R169) -/

/-- The checks in the order R169 names them: the account, then the clear option. -/
def readStatement (ps : List Byte) (s : State) : State :=
  match statementOperand ps with
  | none => complete .badParam .none s
  | some (n, option) =>
    match s.accounts.find n with
    | none => complete .noAccount .none s
    | some a =>
      match optionFlag option with
      | none => complete .badParam .none s
      | some clear =>
        let s1 := if clear then
            s.setAccounts { s.accounts with
              snapshot := some { number := n, figures := FiguresOf.map Counter.period a.figures } }
          else s
        complete .ok (.statement a clear) s1

def readStatementCommand (ps : List Byte) (s : State) : State := takeCommand .readStatement ps (readStatement ps) s

/-- READ STATEMENT (R169). -/
def execReadStatement (ps : List Byte) (s : State) : Answer := whenPowered s (readStatementCommand ps)

end Sys2Proof.Machine
end

