-- ==== Sys2Proof/Machine/CardCommands.lean ====
section
/-! DEFINITION. The commands and events of the card port and the refund list (chapter Stored-Value Cards). -/

namespace Sys2Proof.Machine

/-! ## READ REFUNDS, DISCARD REFUND (R100, R101) -/

def readRefunds (s : State) : State :=
  complete .ok (.refunds (if s.card.refundReserved then 1 else 0) s.card.refunds) s

def readRefundsCommand (ps : List Byte) (s : State) : State := takeBare .readRefunds ps readRefunds s

/-- READ REFUNDS (R100). -/
def execReadRefunds (ps : List Byte) (s : State) : Answer := whenPowered s (readRefundsCommand ps)

def discardRefund (ps : List Byte) (s : State) : State :=
  match refundOperand ps with
  | none => complete .badParam .none s
  | some (serial, tag) =>
    if s.card.refunds.any (fun e => e.names serial tag) then
      let left := s.card.refunds.filter fun e => !e.names serial tag
      submitAndAnswer (.refunds left) .none (s.setCard { s.card with refunds := left })
    else complete .noEntry .none s

def discardRefundCommand (ps : List Byte) (s : State) : State := takeCommand .discardRefund ps (discardRefund ps) s

/-- DISCARD REFUND (R101). -/
def execDiscardRefund (ps : List Byte) (s : State) : Answer := whenPowered s (discardRefundCommand ps)

/-! ## RELEASE ESCROW (R102) -/

/-- The checks of R102 on a READY card, and its settlement write. A write that R88 refuses as not possible is
refused WRONG_STATE (log 27). -/
def releaseOnImage (i : PurseImage) (ps : List Byte) (s : State) : State :=
  if i.purse.escrow = 0 then complete .noEscrow .none s
  else if s.card.writing.isSome ∨ s.card.resolving = true then complete .wrongState .none s
  else if s.escrowIsJobs i then complete .jobOpen .none s
  else match amountOperand ps with
    | none => complete .badParam .none s
    | some kept =>
      if kept > i.purse.escrow then complete .badParam .none s
      else match s.writableImage false with
        | some j => startWrite (.release kept) j (settledPurse j.purse kept) s
        | none => complete .wrongState .none s

def releaseEscrow (ps : List Byte) (s : State) : State :=
  match s.card.state with
  | .empty => complete .noCard .none s
  | .reading _ => complete .noCard .none s
  | .rejected _ => complete .cardRejected .none s
  | .ready =>
    match s.card.image with
    | none => complete .noEscrow .none s
    | some i => releaseOnImage i ps s

def releaseEscrowCommand (ps : List Byte) (s : State) : State := takeCommand .releaseEscrow ps (releaseEscrow ps) s

/-- RELEASE ESCROW (R102). -/
def execReleaseEscrow (ps : List Byte) (s : State) : Answer := whenPowered s (releaseEscrowCommand ps)

/-! ## The presence switch (R81, R85, R87, R187) -/

/-- A presence sample is due and the edge of the last one was taken. -/
def State.samplePresenceDue (s : State) : Bool :=
  reached s.timeBase s.card.presenceDue && s.card.presence.edge.isNone

def samplePresence (p : Presence) (s : State) : State :=
  s.setCard { s.card with
    presence := s.card.presence.sample (p == .present) s.timeBase
    presenceDue := after s.timeBase 5
    startSamples := min 3 (s.card.startSamples + 1) }

/-- CARD_PRESENCE_SAMPLE (R81). -/
def execCardPresenceSample (p : Presence) (s : State) : Answer := whenDue State.samplePresenceDue s (samplePresence p)

/-- An insertion was made by a sample. -/
def State.insertionDue (s : State) : Bool := !s.card.presence.on && s.card.presence.edge.isSome

/-- An insertion in EMPTY starts a reading (R85). -/
def insertCard (s : State) : State :=
  let s1 := s.setCard { s.card with presence := s.card.presence.flip }
  if s1.card.state = .empty then beginReading s1 else s1

/-- CARD_INSERTION (R85). -/
def execCardInsertion (s : State) : Answer := whenDue State.insertionDue s insertCard

/-- A removal was made by a sample. -/
def State.removalDue (s : State) : Bool := s.card.presence.on && s.card.presence.edge.isSome

/-- A removal in any state but EMPTY (R87). -/
def takeRemoval (s : State) : State :=
  let s1 := s.setCard { s.card with presence := s.card.presence.flip }
  if s1.card.state = .empty then s1 else removeCard s1

/-- CARD_REMOVAL (R87). -/
def execCardRemoval (s : State) : Answer := whenDue State.removalDue s takeRemoval

/-- The wait of an interrupted purse job ends with no card: the sample taken at 15 ms has been filtered and the
switch still reads ABSENT (R187). -/
def State.cardWaitOver (s : State) : Bool :=
  s.job.awaitsCard && s.card.startSamples == 3 && !s.card.presence.on && s.card.presence.edge.isNone
    && s.card.state == .empty

/-- INTERRUPTED_CARD_WAIT_END (R187). -/
def execInterruptedCardWaitEnd (s : State) : Answer := whenDue State.cardWaitOver s interruptedNoCard

/-! ## Answers of the card (R80, R85, R88) -/

/-- A read is in flight and its 20 ms have not passed. -/
def State.awaitsRead (s : State) : Bool :=
  match s.card.request with
  | some (.read _, t) => elapsed s.timeBase t ≤ 20
  | _ => false

/-- CARD_READ_ANSWER (R85). -/
def execCardReadAnswer (bytes : List Byte) (s : State) : Answer := whenDue State.awaitsRead s (readAnswered bytes)

/-- A write is in flight and its 20 ms have not passed. -/
def State.awaitsAck (s : State) : Bool :=
  match s.card.request with
  | some (.write _ _, t) => elapsed s.timeBase t ≤ 20
  | _ => false

/-- A write is acknowledged: the image takes its figures, and its requester is told (R88). -/
def writeAcknowledged (s : State) : State :=
  match s.card.writing with
  | some w => writeCompleted w (takeWrite w s)
  | none => s

/-- CARD_WRITE_ACK (R88). -/
def execCardWriteAck (s : State) : Answer := whenDue State.awaitsAck s writeAcknowledged

/-- The deadline of a card answer has come (R80; log 9). -/
def State.cardLate (s : State) : Bool :=
  match s.card.request with
  | some (_, t) => 20 ≤ elapsed s.timeBase t
  | none => false

/-- CARD_ANSWER_DEADLINE (R80). -/
def execCardAnswerDeadline (s : State) : Answer := whenDue State.cardLate s cardSilent

end Sys2Proof.Machine
end

