-- ==== Sys2Proof/Machine/JobCommands.lean ====
section
/-! DEFINITION. The engine's commands of the job, the tariff and the path (chapters Jobs and the Feed Gate, Sheet
Pricing, Paper Path Supervision, Jam Recovery), and the periodic post. A command's meaning is its message taken by
the port (R173, R174) and handed to the block that owns it. -/

namespace Sys2Proof.Machine

/-! ## OPEN JOB (R2 to R8) -/

/-- The checks of R2 against the station as a whole, in their order. -/
def openRefusal (s : State) : Option Reason :=
  if s.jobOpen then some .jobOpen
  else if s.path.profile = none then some .noProfile
  else if s.tariff = none then some .noTariff
  else if s.path.state = .fault ∨ s.path.state = .purging ∨ s.path.state = .service then some .pathFault
  else if s.path.filters.door.on then some .doorOpen
  else if s.path.filters.states.covered then some .pathNotClear
  else none

/-- CARD funding (R2). -/
def openOnCard (s : State) : State :=
  match s.card.state with
  | .empty => complete .noCard .none s
  | .reading _ => complete .noCard .none s
  | .rejected _ => complete .cardRejected .none s
  | .ready =>
    match s.card.identity, s.card.image with
    | some id, some i => if id.kind = .purse then openPurse i s else openAccount id.account (some id.serial) s
    | some id, none => if id.kind = .account then openAccount id.account (some id.serial) s else complete .noCard .none s
    | none, _ => complete .noCard .none s

/-- OPEN JOB at the job unit (R2). A funding that does not fit is refused with the sixth check (log 7). -/
def openJob (ps : List Byte) (s : State) : State :=
  match openRefusal s with
  | some r => complete r .none s
  | none =>
    match FundingOperand.read ps with
    | none => complete .badParam .none s
    | some .card => openOnCard s
    | some (.account n) => if n = 0 then complete .badParam .none s else openAccount n none s

def openJobCommand (ps : List Byte) (s : State) : State := takeCommand .openJob ps (openJob ps) s

/-- OPEN JOB (R2). -/
def execOpenJob (ps : List Byte) (s : State) : Answer := whenPowered s (openJobCommand ps)

/-! ## FEED (R9, R10) -/

/-- FEED at the job unit: the state first, then the range (R9), then the gate (R10). -/
def feed (ps : List Byte) (s : State) : State :=
  match s.job.ctx.state with
  | .none => complete .noJob .none s
  | .halted => complete .pathFault .none s
  | .running =>
    match (FeedOperand.read ps).bind FeedOperand.sheet with
    | some x => feedGate x.1 x.2 s
    | none => complete .badParam .none s
  | _ => complete .wrongState .none s

def feedCommand (ps : List Byte) (s : State) : State := takeCommand .feed ps (feed ps) s

/-- FEED (R10). -/
def execFeed (ps : List Byte) (s : State) : Answer := whenPowered s (feedCommand ps)

/-! ## CLOSE JOB, READ LOST (R19, R76) -/

/-- The job stops taking feeds; the result carries the job state after the command (R19; log 13). -/
def closeJob (s : State) : State :=
  match s.job.ctx.state with
  | .none => complete .noJob .none s
  | .authorising => complete .wrongState .none s
  | _ =>
    let s1 := stopFeeding .closed s
    complete .ok (.jobState s1.job.ctx.state) s1

def closeJobCommand (ps : List Byte) (s : State) : State := takeBare .closeJob ps closeJob s

/-- CLOSE JOB (R19). -/
def execCloseJob (ps : List Byte) (s : State) : Answer := whenPowered s (closeJobCommand ps)

def readLost (s : State) : State :=
  complete .ok (.lost s.job.lostList.owner s.job.lostList.tags s.job.lostList.overflow) s

def readLostCommand (ps : List Byte) (s : State) : State := takeBare .readLost ps readLost s

/-- READ LOST (R76). -/
def execReadLost (ps : List Byte) (s : State) : Answer := whenPowered s (readLostCommand ps)

/-! ## LOAD TARIFF, LOAD PROFILE (R27, R28, R46, R47) -/

def loadTariff (ps : List Byte) (s : State) : State :=
  if s.jobOpen then complete .jobOpen .none s
  else match Tariff.read ps with
    | none => complete .badParam .none s
    | some t =>
      if t.inRange then submitAndAnswer (.tariff t) .none (s.setTariff (some t)) else complete .badParam .none s

def loadTariffCommand (ps : List Byte) (s : State) : State := takeCommand .loadTariff ps (loadTariff ps) s

/-- LOAD TARIFF (R27, R28). -/
def execLoadTariff (ps : List Byte) (s : State) : Answer := whenPowered s (loadTariffCommand ps)

def loadProfile (ps : List Byte) (s : State) : State :=
  if s.jobOpen then complete .jobOpen .none s
  else if s.path.state ≠ .idle then complete .wrongState .none s
  else match Profile.read ps with
    | none => complete .badParam .none s
    | some p =>
      if p.inRange then submitAndAnswer (.profile p) .none (s.setPath { s.path with profile := some p })
      else complete .badParam .none s

def loadProfileCommand (ps : List Byte) (s : State) : State := takeCommand .loadProfile ps (loadProfile ps) s

/-- LOAD PROFILE (R46, R47). -/
def execLoadProfile (ps : List Byte) (s : State) : Answer := whenPowered s (loadProfileCommand ps)

/-! ## RESUME (R66, R67) -/

/-- The job's answer to a RESUME decides where the path goes (R66, R67). -/
def resumeJob (s : State) : State :=
  match s.job.ctx.state, s.job.ctx.closeReason with
  | .halted, none => enterPath .active (s.setCtx { s.job.ctx with state := .running })
  | .halted, some _ => enterSettling (enterPath .idle s)
  | _, _ => enterPath .idle s

def resume (s : State) : State :=
  if s.path.state ≠ .fault then complete .wrongState .none s
  else if s.path.filters.clear = false then complete .pathNotClear .none s
  else
    let s1 := resumeJob (s.setPath { s.path with purgeCount := 0 })
    complete .ok (.resumed s1.path.state s1.job.ctx.state) s1

def resumeCommand (ps : List Byte) (s : State) : State := takeBare .resume ps resume s

/-- RESUME (R66). -/
def execResume (ps : List Byte) (s : State) : Answer := whenPowered s (resumeCommand ps)

/-! ## Purges and SERVICE (R68, R70, R73) -/

def purgeStart (s : State) : State :=
  if s.path.state ≠ .fault then complete .wrongState .none s
  else if s.path.filters.door.on then complete .doorOpen .none s
  else complete .ok (.purgeCount s.path.purgeCount) (enterPath .purging s)

def purgeStartCommand (ps : List Byte) (s : State) : State := takeBare .purgeStart ps purgeStart s

/-- PURGE START (R68). -/
def execPurgeStart (ps : List Byte) (s : State) : Answer := whenPowered s (purgeStartCommand ps)

/-- The settling wait begins: three samples (R70). The port stays EXECUTING until the judgement. -/
def purgeEnd (s : State) : State :=
  if s.path.state = .purging then s.setPath { s.path with settling := some 3 } else complete .wrongState .none s

def purgeEndCommand (ps : List Byte) (s : State) : State := takeBare .purgeEnd ps purgeEnd s

/-- PURGE END (R70). -/
def execPurgeEnd (ps : List Byte) (s : State) : Answer := whenPowered s (purgeEndCommand ps)

def serviceClear (s : State) : State :=
  if s.path.state ≠ .service then complete .wrongState .none s
  else if s.path.filters.clear = false then complete .pathNotClear .none s
  else
    complete .ok .none (clearOnEntry (enterPath .fault (s.setPath { s.path with purgeCount := 0 })))

def serviceClearCommand (ps : List Byte) (s : State) : State := takeBare .serviceClear ps serviceClear s

/-- SERVICE CLEAR (R73). -/
def execServiceClear (ps : List Byte) (s : State) : Answer := whenPowered s (serviceClearCommand ps)

/-! ## The periodic post (R21, R149) -/

def JobState.posts (st : JobState) : Bool := st == .running || st == .halted || st == .draining

/-- The post of an open ACCOUNT job has fallen due (R21). -/
def State.postReady (s : State) : Bool :=
  s.job.ctx.funding == some .account && s.job.ctx.state.posts && dueAt s s.job.postDue

/-- An exchange that carries a periodic post of the job unit. -/
def Exchange.isPeriodic (e : Exchange) : Bool :=
  match e.source, e.body with
  | .job, .post r => !r.final
  | _, _ => false

/-- A periodic post is still on the waiting list or in the slot (R149). -/
def State.postPending (s : State) : Bool :=
  s.job.waiting.contains .periodicPost || s.line.inProgress.any Exchange.isPeriodic
    || s.line.pending.any Exchange.isPeriodic

/-- A periodic post falls due: the next one is due 30 s after this one was; the post is asked for, but to a remote
home it is skipped outside MEMBER and not added a second time (R21, R149). -/
def postPeriodically (s : State) : State :=
  let s1 := s.setJob { s.job with postDue := s.job.postDue.map fun t => after t 30000 }
  if s1.jobIsLocal = false ∧ (s1.member = false ∨ s1.postPending = true) then s1 else askJob .periodicPost s1

/-- PERIODIC_POST_DUE (R21). -/
def execPeriodicPostDue (s : State) : Answer := whenDue State.postReady s postPeriodically

end Sys2Proof.Machine
end

