-- ==== Sys2Proof/Machine/Replies.lean ====
section
/-! DEFINITION. What a read transaction shifts out (R175): the value bytes of every result in the order its rule
lists them, with the widths of R190, and the reply messages. Where R190 names no width or code the model chooses
(DESIGN CHOICE, log 5 and log 25): counts and indexes take one byte, the counts of a job two, enumerated values the
position in which the spec names them, an absent value bytes 0xFF of its width. -/

namespace Sys2Proof.Machine

/-- A value that may be absent: 0xFF in every byte of its width (log 25; a station of R190 reads 0xFF for none). -/
def spellOpt (width : Nat) (n : Option Nat) : List Byte :=
  match n with
  | some x => spell width x
  | none => List.replicate width 0xFF#8

/-- A mark. -/
def spellMark (b : Bool) : List Byte := spell 1 (if b then 1 else 0)

def PathSensor.code (s : PathSensor) : Nat := s.ctorIdx

/-- The code of the sensor a jam names: FEED, REG, FUSE, DUPLEX, EXIT, DOOR. -/
def JamPlace.code : JamPlace → Nat
  | .sensor s => PathSensor.code s
  | .door => 5

/-- The six filtered states, FEED, REG, FUSE, DUPLEX, EXIT and DOOR. -/
def FilterStates.bytes (f : FilterStates) : List Byte :=
  spellMark f.feed ++ spellMark f.reg ++ spellMark f.fuse ++ spellMark f.duplex ++ spellMark f.exit ++ spellMark f.door

/-- The jam record (R57): kind, sensor, sheet number, tag, time, number lost. -/
def jamBytes (j : Option JamRecord) : List Byte :=
  spellOpt 1 (j.map fun r => r.kind.ctorIdx) ++ spellOpt 1 (j.map fun r => r.place.code)
    ++ spellOpt 2 (j.bind fun r => r.sheet.map fun x => x.1) ++ spellOpt 2 (j.bind fun r => r.sheet.map fun x => x.2.set)
    ++ spellOpt 2 (j.bind fun r => r.sheet.map fun x => x.2.page) ++ spellOpt 4 (j.map fun r => r.time.toNat)
    ++ spellOpt 1 (j.map fun r => r.lost)

/-- The figures of a purse: balance, escrow, escrow station, escrow tag. -/
def purseBytes (p : Option Purse) : List Byte :=
  spellOpt 4 (p.map Purse.balance) ++ spellOpt 3 (p.map Purse.escrow) ++ spellOpt 1 (p.bind Purse.station)
    ++ spellOpt 2 (p.map Purse.tag)

def Tag.bytes (t : Tag) : List Byte := spell 2 t.set ++ spell 2 t.page

/-- The top-up state: NONE, PENDING, REFUSED with its time, REFUSED with the permanent mark. -/
def topUpBytes (t : Option TopUp) : List Byte :=
  spellOpt 1 (t.map fun x => x.ctorIdx) ++ spellOpt 4 (t.bind fun x => match x with
    | .refused time _ => some time.toNat
    | _ => none)

/-- A card state: EMPTY, READING, READY, REJECTED. -/
def CardState.code : CardState → Nat
  | .empty => 0
  | .reading _ => 1
  | .ready => 2
  | .rejected _ => 3

/-- The reason of a REJECTED card. -/
def CardState.reason : CardState → Option Nat
  | .rejected r => some r.code
  | _ => none

/-- The values of STATUS, in the order of the table of R178. -/
def StatusReport.bytes (r : StatusReport) : List Byte :=
  spell 1 r.jobState.ctorIdx ++ spellOpt 2 r.serial ++ spellOpt 1 (r.funding.map FundingKind.ctorIdx)
    ++ spell 3 r.funded ++ spell 3 r.charged ++ spell 3 r.reserved ++ spell 3 r.free ++ spellOpt 3 r.acked
    ++ topUpBytes r.topUp ++ spellOpt 1 (r.closeReason.map CloseReason.ctorIdx) ++ spell 2 r.fed ++ spell 2 r.lost
    ++ spell 2 r.redone ++ spell 1 r.pathState.ctorIdx ++ r.filters.bytes ++ spellMark r.pathClear ++ spell 1 r.sheets
    ++ spell 1 r.purgeCount ++ jamBytes r.jam ++ spell 1 r.cardState.code ++ spellMark r.writing
    ++ spellMark r.resolving ++ spellOpt 1 r.cardState.reason ++ spellOpt 4 r.cardSerial
    ++ spellOpt 1 (r.cardKind.map CardKind.ctorIdx) ++ spellOpt 2 r.cardAccount
    ++ spellOpt 1 (r.image.map fun i => i.slot.ctorIdx) ++ purseBytes (r.image.map PurseImage.purse)
    ++ spellOpt 4 (r.image.map fun i => i.purse.counter) ++ spell 1 r.lineState.ctorIdx ++ spellOpt 1 r.station
    ++ spell 1 r.outbound ++ spell 1 r.reservedPlaces ++ spell 1 r.notices ++ spellMark r.overflow

/-- The items a notice carries (R179). A CARD notice begins them with inserted, removed, rejected or settled, a FUNDS
notice with granted, refused or lapsed, each by its position; the card kind has the codes of STATUS, PURSE 0 and
ACCOUNT 1; the options mark of START is 1 for the stored record and 0 for the defaults (DESIGN CHOICE on the codes,
log 5). -/
def NoticeBody.items : NoticeBody → List Byte
  | .start cause station stored => spell 1 cause.ctorIdx ++ spellOpt 1 station ++ spellMark stored
  | .cardInsertedAccount serial account =>
      spell 1 0 ++ spell 4 serial ++ spell 1 CardKind.account.ctorIdx ++ spell 2 account
  | .cardInsertedPurse serial p => spell 1 0 ++ spell 4 serial ++ spell 1 CardKind.purse.ctorIdx ++ purseBytes (some p)
  | .cardRemoved serial => spell 1 1 ++ spellOpt 4 serial
  | .cardRejected reason serial => spell 1 2 ++ spell 1 reason.code ++ spellOpt 4 serial
  | .cardSettled serial amount balance => spell 1 3 ++ spell 4 serial ++ spell 3 amount ++ spell 4 balance
  | .fundsGranted amount => spell 1 0 ++ spell 3 amount
  | .fundsRefused reason => spell 1 1 ++ spell 1 reason.code
  | .fundsLapsed => spell 1 2
  | .jam r => jamBytes (some r)
  | .pathClear t => spell 4 t.toNat
  | .service count states => spell 1 count ++ states.bytes
  | .jobEnd i =>
      spell 2 i.serial ++ spell 2 i.delivered ++ spell 2 i.lostNotRedone ++ spell 3 i.charged
        ++ spell 1 i.funding.ctorIdx ++ spell 1 i.route.ctorIdx ++ spellOpt 1 (i.closeReason.map CloseReason.ctorIdx)
  | .settle (.postDone dest hold account status posted) =>
      spell 1 0 ++ spell 1 dest ++ spell 1 hold.station ++ spell 2 hold.serial ++ spell 2 account ++ spell 1 0
        ++ spell 1 status ++ spell 3 posted
  | .settle (.postFailed dest hold account status amount) =>
      spell 1 0 ++ spell 1 dest ++ spell 1 hold.station ++ spell 2 hold.serial ++ spell 2 account ++ spell 1 1
        ++ spell 1 status ++ spell 4 (unsigned32 amount)
  | .settle (.releaseDone dest serial tag) => spell 1 1 ++ spell 1 dest ++ spell 4 serial ++ spell 2 tag
  | .escrowUnresolved reason serial escrow station tag =>
      spell 1 reason.code ++ spell 4 serial ++ spell 3 escrow ++ spellOpt 1 station ++ spell 2 tag
  | .roster overlap station => spellMark overlap ++ spellOpt 1 station
  | .lineConflict kind dest => spell 1 kind ++ spell 1 dest

/-- The kind of a notice: its position in the table of R179 (DESIGN CHOICE on the codes, log 5). -/
def NoticeBody.kind : NoticeBody → Nat
  | .start _ _ _ => 0
  | .cardInsertedAccount _ _ => 1
  | .cardInsertedPurse _ _ => 1
  | .cardRemoved _ => 1
  | .cardRejected _ _ => 1
  | .cardSettled _ _ _ => 1
  | .fundsGranted _ => 2
  | .fundsRefused _ => 2
  | .fundsLapsed => 2
  | .jam _ => 3
  | .pathClear _ => 4
  | .service _ _ => 5
  | .jobEnd _ => 6
  | .settle _ => 7
  | .escrowUnresolved _ _ _ _ _ => 8
  | .roster _ _ => 9
  | .lineConflict _ _ => 10

/-- A notice: kind, time base count, items (R179). -/
def Notice.bytes (n : Notice) : List Byte := spell 1 n.body.kind ++ spell 4 n.time.toNat ++ n.body.items

/-- A roster entry of READ ROSTER (R117): station, presence (PRESENT 0, ABSENT 1, log 5), home range, overlap mark. A
home range of none is sent as first 0 and last 0, as a ROLL and the option record carry it (DESIGN CHOICE, log 25). -/
def RosterEntry.bytes (e : RosterEntry) : List Byte :=
  spell 1 e.station ++ spell 1 (if e.present then 0 else 1) ++ spell 2 ((e.home.map HomeRange.first).getD 0)
    ++ spell 2 ((e.home.map HomeRange.last).getD 0) ++ spellMark e.overlap

/-- Nine figures of an account, the usage counts, charged, late and jobs, each in the four bytes of a meter value: the
three bytes of an amount in mu do not hold them (DESIGN CHOICE, log 25). -/
def figureBytes (f : FiguresOf Nat) : List Byte := (FiguresOf.toList f).flatMap (spell 4)

/-- An account record (R122): number, status, balance, limit, discount, period and lifetime figures, serial. -/
def Account.bytes (a : Account) : List Byte :=
  spell 2 a.number ++ spell 1 a.status.ctorIdx ++ spell 4 (unsigned32 a.balance) ++ spell 3 a.limit
    ++ spell 1 a.discount ++ figureBytes (FiguresOf.map Counter.period a.figures)
    ++ figureBytes (FiguresOf.map Counter.life a.figures) ++ spell 2 a.statementSerial

/-- The value bytes of a result (10.4, R190). The meter clear serial takes two bytes, as a job serial does (DESIGN
CHOICE, log 25). -/
def Values.bytes : Values → List Byte
  | .none => []
  | .status r => r.bytes
  | .notice count overflow oldest =>
      spell 1 count ++ spellMark overflow ++ (oldest.map Notice.bytes).getD []
  | .jobOpened serial funding funded discount =>
      spell 2 serial ++ spell 1 funding.ctorIdx ++ spell 3 funded ++ spell 1 discount
  | .granted number price reserve left => spell 2 number ++ spell 3 price ++ spell 3 reserve ++ spell 3 left
  | .free amount => spell 3 amount
  | .jobState st => spell 1 st.ctorIdx
  | .lost owner tags overflow =>
      spellOpt 2 owner ++ spell 1 tags.length ++ tags.flatMap Tag.bytes ++ spellMark overflow
  | .resumed path job => spell 1 path.ctorIdx ++ spell 1 job.ctorIdx
  | .purgeCount n => spell 1 n
  | .purged outcome count states => spell 1 outcome.ctorIdx ++ spell 1 count ++ states.bytes
  | .meters serial clear counters =>
      spell 2 serial ++ spellMark clear
        ++ (MetersOf.toList counters).flatMap fun c => spell 4 c.life ++ spell 4 c.period
  | .roster st station entries => spell 1 st.ctorIdx ++ spellOpt 1 station ++ entries.flatMap RosterEntry.bytes
  | .credited balance available => spell 4 (unsigned32 balance) ++ spell 4 (unsigned32 available)
  | .removed balance lifetime => spell 4 (unsigned32 balance) ++ figureBytes lifetime
  | .account a available overLimit active lapsed =>
      a.bytes ++ spell 4 (unsigned32 available) ++ spellMark overLimit ++ spell 1 active ++ spell 1 lapsed
  | .accounts lines more =>
      (lines.flatMap fun l => spell 2 l.number ++ spell 1 l.status.ctorIdx ++ spell 4 (unsigned32 l.balance)
        ++ spell 4 (unsigned32 l.available) ++ spellMark l.shadowed) ++ spellMark more
  | .statement a clear =>
      spell 2 a.number ++ spell 1 a.status.ctorIdx ++ spell 4 (unsigned32 a.balance) ++ spell 3 a.limit
        ++ spell 1 a.discount ++ spell 2 a.statementSerial ++ spellMark clear
        ++ figureBytes (FiguresOf.map Counter.period a.figures) ++ figureBytes (FiguresOf.map Counter.life a.figures)
  | .refunds reserved entries =>
      spell 1 entries.length ++ spell 1 reserved
        ++ entries.flatMap fun e => spell 4 e.serial ++ spell 2 e.tag ++ spell 3 e.charged ++ spell 1 e.state.ctorIdx
  | .released kept balance => spell 3 kept ++ spell 4 balance

/-- The result message (R171, R190). -/
def Result.message (r : Result) : List Byte := resultMessage r.reason.code r.values.bytes

/-- The bytes a reply shifts out (R175, R190): the busy reply carries the opcode in hand and the refused count, the
empty reply no values. -/
def Reply.message : Reply → List Byte
  | .nothing => []
  | .empty => resultMessage Reason.noResult.code []
  | .busy c refused => resultMessage Reason.busy.code (spell 1 c.code ++ spell 1 refused)
  | .result r => r.message

end Sys2Proof.Machine
end

