-- ==== Sys2Proof/Machine/Port.lean ====
section
/-! DEFINITION. The engine port's own commands, the readouts of the meters and the roster, read transactions with
their commits, messages outside the catalogue (chapters Engine Port, Meters and Statements, Store, Options and
Start), and the store's progress. -/

namespace Sys2Proof.Machine

/-! ## STATUS, READ NOTICE, READ ROSTER, READ METERS -/

/-- The state of the part at the moment the command is taken (R178). -/
def status (s : State) : State := complete .ok (.status s.statusReport) s

def statusCommand (ps : List Byte) (s : State) : State := takeBare .status ps status s

/-- STATUS (R178). -/
def execStatus (ps : List Byte) (s : State) : Answer := whenPowered s (statusCommand ps)

/-- The count, the overflow mark and the oldest notice whole (R180). -/
def readNotice (s : State) : State :=
  complete .ok (.notice s.port.notices.length s.port.overflow s.port.notices.head?) s

def readNoticeCommand (ps : List Byte) (s : State) : State := takeBare .readNotice ps readNotice s

/-- READ NOTICE (R180). -/
def execReadNotice (ps : List Byte) (s : State) : Answer := whenPowered s (readNoticeCommand ps)

/-- The line state, the own number and the entries; none in OFF (R117). -/
def readRoster (s : State) : State :=
  complete .ok (.roster s.line.state s.own (if s.line.state = .off then [] else s.line.roster)) s

def readRosterCommand (ps : List Byte) (s : State) : State := takeBare .readRoster ps readRoster s

/-- READ ROSTER (R117). -/
def execReadRoster (ps : List Byte) (s : State) : Answer := whenPowered s (readRosterCommand ps)

/-- The meters; with the clear option on, the snapshot of the period values reported (R166). -/
def readMeters (ps : List Byte) (s : State) : State :=
  match metersOperand ps with
  | none => complete .badParam .none s
  | some clear =>
    let c := s.meter.record.counters
    let s1 := if clear then s.setMeter { s.meter with snapshot := some (MetersOf.map Counter.period c) } else s
    complete .ok (.meters s.meter.record.clearSerial clear c) s1

def readMetersCommand (ps : List Byte) (s : State) : State := takeCommand .readMeters ps (readMeters ps) s

/-- READ METERS (R166). -/
def execReadMeters (ps : List Byte) (s : State) : Answer := whenPowered s (readMetersCommand ps)

/-! ## SET OPTIONS (R184) -/

/-- Every account of the table would still be kept by a station with these options (R184). -/
def optionsKeep (o : Options) (table : List Account) : Bool :=
  table.all fun a => o.station.isSome && o.home.any fun h => h.contains a.number

def setOptions (ps : List Byte) (s : State) : State :=
  match Options.readFields ps with
  | none => complete .badParam .none s
  | some o =>
    if optionsKeep o s.accounts.table then submitAndAnswer (.options (optionRecord ps)) .none s
    else complete .isProtected .none s

def setOptionsCommand (ps : List Byte) (s : State) : State := takeCommand .setOptions ps (setOptions ps) s

/-- SET OPTIONS (R184). -/
def execSetOptions (ps : List Byte) (s : State) : Answer := whenPowered s (setOptionsCommand ps)

/-! ## RESTART (R177) -/

def restartCommand (ps : List Byte) (s : State) : State := takeBare .restart ps restart s

/-- RESTART (R177, R182, R185). -/
def execRestart (ps : List Byte) (s : State) : Answer := whenPowered s (restartCommand ps)

/-! ## Messages as bytes (R171, R173) -/

/-- A command of the catalogue, by its name. -/
def runCommand (o : Opcode) (ps : List Byte) (s : State) : State :=
  match o with
  | .status => statusCommand ps s
  | .readNotice => readNoticeCommand ps s
  | .setOptions => setOptionsCommand ps s
  | .loadTariff => loadTariffCommand ps s
  | .loadProfile => loadProfileCommand ps s
  | .openJob => openJobCommand ps s
  | .feed => feedCommand ps s
  | .closeJob => closeJobCommand ps s
  | .readLost => readLostCommand ps s
  | .resume => resumeCommand ps s
  | .purgeStart => purgeStartCommand ps s
  | .purgeEnd => purgeEndCommand ps s
  | .serviceClear => serviceClearCommand ps s
  | .readMeters => readMetersCommand ps s
  | .readRoster => readRosterCommand ps s
  | .accountAdd => accountAddCommand ps s
  | .accountCredit => accountCreditCommand ps s
  | .accountSet => accountSetCommand ps s
  | .accountRemove => accountRemoveCommand ps s
  | .readAccount => readAccountCommand ps s
  | .listAccounts => listAccountsCommand ps s
  | .readStatement => readStatementCommand ps s
  | .readRefunds => readRefundsCommand ps s
  | .discardRefund => discardRefundCommand ps s
  | .releaseEscrow => releaseEscrowCommand ps s
  | .restart => restartCommand ps s

/-- A message that names no command is refused BUSY in EXECUTING, else answered at once with BAD_FRAME or INVALID
after an unread result was discarded (R173, R176). -/
def answerAtOnce (reason : Reason) (s : State) : State :=
  match s.port.state with
  | .executing _ => s.setPort { s.port with refused := min 255 (s.port.refused + 1) }
  | _ => placeResult { command := none, reason := reason, values := .none } (discardResult s)

/-- The bytes of a transaction: no byte, or the read code first, is no command message and changes nothing here; a
message of the catalogue is that command (R171, R173; log 34). -/
def takeMessage (bytes : List Byte) (s : State) : State :=
  match Message.read bytes with
  | .notCommand => s
  | .malformed => answerAtOnce .badFrame s
  | .unknownOpcode => answerAtOnce .invalid s
  | .command o ps => runCommand o ps s

/-- UNKNOWN_COMMAND_MESSAGE (R173). -/
def execUnknownCommandMessage (bytes : List Byte) (s : State) : Answer := whenPowered s (takeMessage bytes)

/-! ## Read transactions (R175, R167, R170, R180) -/

/-- The meter clear is committed: each period value falls by what was reported (R167). -/
def commitMeters (s : State) : State :=
  match s.meter.snapshot with
  | none => s
  | some n =>
    noteMeters (s.setMeter
      { record := { counters := MetersOf.zip Counter.clear n s.meter.record.counters
                    clearSerial := (s.meter.record.clearSerial + 1) % 65536 }
        snapshot := none })

/-- An account whose statement is cleared (R170). -/
def Account.clearStatement (n : FiguresOf Nat) (a : Account) : Account :=
  { a with figures := FiguresOf.zip Counter.clear n a.figures, statementSerial := (a.statementSerial + 1) % 65536 }

/-- The statement clear is committed (R170). -/
def commitStatement (s : State) : State :=
  match s.accounts.snapshot with
  | none => s
  | some n =>
    let s1 := s.setAccounts { s.accounts with snapshot := none }
    match s.accounts.find n.number with
    | some a =>
        let a1 := a.clearStatement n.figures
        submit .plain (writeAccount a1) (s1.setAccounts (s1.accounts.putTable a1))
    | none => s1

/-- A READ NOTICE result is committed: the notice it carried is removed, the mark it reported is cleared (R180). -/
def commitNotice (overflow : Bool) (oldest : Option Notice) (s : State) : State :=
  s.setPort { s.port with
    notices := if oldest.isSome then s.port.notices.tail else s.port.notices
    overflow := if overflow then false else s.port.overflow }

/-- A result has been read through its last byte: the place is emptied and the owning block commits (R175). -/
def commitResult (r : Result) (s : State) : State :=
  let s1 := s.setPort { s.port with state := .idle }
  match r.values with
  | .meters _ _ _ => commitMeters s1
  | .statement _ _ => commitStatement s1
  | .notice _ overflow oldest => commitNotice overflow oldest s1
  | _ => s1

/-- The reply that a read transaction shifts out (R175). -/
def State.reply (s : State) : Reply :=
  match s.port.state with
  | .idle => .empty
  | .executing c => .busy c s.port.refused
  | .result r => .result r

/-- A read transaction that clocks out `clocked` bytes of its reply (R175). -/
def readReply (clocked : Nat) (s : State) : State :=
  let s1 := s.setPort { s.port with shifted := s.reply }
  match s.port.state with
  | .result r => if r.message.length ≤ clocked then commitResult r s1 else s1
  | _ => s1

/-- READ_TRANSACTION (R175). -/
def execReadTransaction (clocked : Nat) (s : State) : Answer := whenPowered s (readReply clocked)

/-! ## The store's progress (R181, R165, R131, R174) -/

/-- The write in progress has lasted 3 ms (R181; log 9). -/
def State.writeOver (s : State) : Bool := s.store.current.any fun w => 3 ≤ elapsed s.timeBase w.2

/-- The store takes up work: the submitter that waited longest receives a freed place, and the oldest write begins.
A command whose write so comes to stand in the queue has its result placed (R174, R181). -/
def passOn (s : State) : State :=
  match s.store.waiting with
  | [] => beginWrite s
  | w :: rest =>
    let s1 := beginWrite (s.setStore { s.store with queue := s.store.queue ++ [w], waiting := rest })
    if w.tag = .command then releaseHeld s1 else s1

/-- A meter write has completed: a change made while it was in progress submits a new one (R165). -/
def remeter (s : State) : State :=
  if s.store.metersAgain then noteMeters (s.setStore { s.store with metersAgain := false }) else s

/-- The write in progress completes (R181). -/
def completeWrite (w : QueuedWrite) (s : State) : State :=
  let s1 := passOn (s.setStore { s.store with records := w.what.apply s.store.records, current := none })
  let s2 := if w.what.isMeters then remeter s1 else s1
  if w.tag = .request then requestWritten s2 else s2

def storeCompletes (s : State) : State :=
  match s.store.current with
  | some w => completeWrite w.1 s
  | none => s

/-- STORE_WRITE_COMPLETE (R181). -/
def execStoreWriteComplete (s : State) : Answer := whenDue State.writeOver s storeCompletes

end Sys2Proof.Machine
end

