-- ==== Sys2Proof/Machine/Clock.lean ====
section
/-! DEFINITION. The part's own time (R186): the events that are due at the present count, in the order the model
gives them, and one count of the time base. Both happen on an empty queue of commands (DESIGN CHOICE, log 2). -/

namespace Sys2Proof.Machine

/-- An event, where it is due. -/
def dueIf (b : Bool) (i : Instr) : List Instr := if b then [i] else []

/-- The edge that a sensor's filter holds, as the event that takes it. -/
def State.edgeEvent (s : State) (x : PathSensor) : List Instr :=
  dueIf (s.sensorEdge x false).isSome (.leadingEdge x) ++ dueIf (s.sensorEdge x true).isSome (.trailingEdge x)

/-- Edges and insertions or removals that a sample has made. -/
def State.edgeEvents (s : State) : List Instr :=
  s.edgeEvent .feed ++ s.edgeEvent .reg ++ s.edgeEvent .fuse ++ s.edgeEvent .duplex ++ s.edgeEvent .exit
    ++ dueIf (s.doorEdge false).isSome .doorOpenEdge ++ dueIf (s.doorEdge true).isSome .doorClosedEdge
    ++ dueIf s.insertionDue .cardInsertion ++ dueIf s.removalDue .cardRemoval

/-- The deadlines of the path queue (R55). -/
def State.windowEvents (s : State) : List Instr :=
  (s.path.queue.filter fun r => (s.lateRecord r.number).isSome).map fun r => .windowDeadline r.number

/-- The expiries of the hold pool (R128). -/
def State.lapseEvents (s : State) : List Instr :=
  (s.accounts.pool.filter fun h => (s.expiredHold h.hold).isSome).map fun h => .holdLapse h.hold

/-- An exchange waits and none is in progress (R110). -/
def State.exchangeWaits (s : State) : Bool := s.line.inProgress.isNone && !s.line.pending.isEmpty

/-- The events that are due now and that the part itself brings about; samples, answers and the line's bytes come
from outside. -/
def State.dueEvents (s : State) : List Instr :=
  s.edgeEvents ++ dueIf s.purgeOver .purgeSettlingWaitEnd ++ s.windowEvents ++ dueIf s.postReady .periodicPostDue
    ++ dueIf s.cardWaitOver .interruptedCardWaitEnd ++ dueIf s.cardLate .cardAnswerDeadline
    ++ dueIf s.writeOver .storeWriteComplete ++ dueIf s.answerLate .exchangeAnswerDeadline
    ++ dueIf s.exchangeWaits .exchangeStart ++ dueIf s.joinOver .joiningWindowEnd
    ++ dueIf s.rollDelayOver .rollAnswerDelayEnd ++ dueIf s.nextRequest.isSome .accountRequestTaken
    ++ s.lapseEvents ++ dueIf s.roundReady .outboundRound

/-- A refusal is 5 s old from the first moment 5 s have passed since it (R186). -/
def TopUp.age (now : TimePoint) : TopUp → TopUp
  | .refused time aged => .refused time (aged || 5000 ≤ elapsed now time)
  | t => t

/-- One count of the time base (R186). -/
def tick (s : State) : State :=
  let now := s.timeBase + 1#32
  let s1 := { s with timeBase := now }
  s1.setCtx { s1.job.ctx with topUp := s1.job.ctx.topUp.age now }

/-- The part on an empty queue: without power nothing happens; events that are due join the queue; otherwise the time
base counts (log 2). -/
def idle (s : State) : State :=
  if s.powered then
    if s.dueEvents = [] then tick s else s.setPending (s.pending ++ s.dueEvents)
  else s

end Sys2Proof.Machine
end

