-- ==== Sys2Proof/Machine/Dispatch.lean ====
section
/-! DEFINITION. One arm for each command: its meaning. -/

namespace Sys2Proof.Machine

/-- What a command does to everything but the queue. -/
def exec (i : Instr) (s : State) : Host.Outcome State Fault Refusal :=
  match i with
  | .powerOn => Sys2Proof.Machine.execPowerOn s
  | .powerLoss => Sys2Proof.Machine.execPowerLoss s
  | .interruptedCardWaitEnd => Sys2Proof.Machine.execInterruptedCardWaitEnd s
  | .status params => Sys2Proof.Machine.execStatus params s
  | .readNotice params => Sys2Proof.Machine.execReadNotice params s
  | .setOptions params => Sys2Proof.Machine.execSetOptions params s
  | .loadTariff params => Sys2Proof.Machine.execLoadTariff params s
  | .loadProfile params => Sys2Proof.Machine.execLoadProfile params s
  | .openJob params => Sys2Proof.Machine.execOpenJob params s
  | .feed params => Sys2Proof.Machine.execFeed params s
  | .closeJob params => Sys2Proof.Machine.execCloseJob params s
  | .readLost params => Sys2Proof.Machine.execReadLost params s
  | .resume params => Sys2Proof.Machine.execResume params s
  | .purgeStart params => Sys2Proof.Machine.execPurgeStart params s
  | .purgeEnd params => Sys2Proof.Machine.execPurgeEnd params s
  | .serviceClear params => Sys2Proof.Machine.execServiceClear params s
  | .readMeters params => Sys2Proof.Machine.execReadMeters params s
  | .readRoster params => Sys2Proof.Machine.execReadRoster params s
  | .accountAdd params => Sys2Proof.Machine.execAccountAdd params s
  | .accountCredit params => Sys2Proof.Machine.execAccountCredit params s
  | .accountSet params => Sys2Proof.Machine.execAccountSet params s
  | .accountRemove params => Sys2Proof.Machine.execAccountRemove params s
  | .readAccount params => Sys2Proof.Machine.execReadAccount params s
  | .listAccounts params => Sys2Proof.Machine.execListAccounts params s
  | .readStatement params => Sys2Proof.Machine.execReadStatement params s
  | .readRefunds params => Sys2Proof.Machine.execReadRefunds params s
  | .discardRefund params => Sys2Proof.Machine.execDiscardRefund params s
  | .releaseEscrow params => Sys2Proof.Machine.execReleaseEscrow params s
  | .restart params => Sys2Proof.Machine.execRestart params s
  | .unknownCommandMessage bytes => Sys2Proof.Machine.execUnknownCommandMessage bytes s
  | .readTransaction clocked => Sys2Proof.Machine.execReadTransaction clocked s
  | .storeWriteComplete => Sys2Proof.Machine.execStoreWriteComplete s
  | .leadingEdge sensor => Sys2Proof.Machine.execLeadingEdge sensor s
  | .trailingEdge sensor => Sys2Proof.Machine.execTrailingEdge sensor s
  | .doorOpenEdge => Sys2Proof.Machine.execDoorOpenEdge s
  | .doorClosedEdge => Sys2Proof.Machine.execDoorClosedEdge s
  | .windowDeadline sheet => Sys2Proof.Machine.execWindowDeadline sheet s
  | .purgeSettlingWaitEnd => Sys2Proof.Machine.execPurgeSettlingWaitEnd s
  | .periodicPostDue => Sys2Proof.Machine.execPeriodicPostDue s
  | .cardInsertion => Sys2Proof.Machine.execCardInsertion s
  | .cardRemoval => Sys2Proof.Machine.execCardRemoval s
  | .cardReadAnswer bytes => Sys2Proof.Machine.execCardReadAnswer bytes s
  | .cardWriteAck => Sys2Proof.Machine.execCardWriteAck s
  | .cardAnswerDeadline => Sys2Proof.Machine.execCardAnswerDeadline s
  | .roll head fields => Sys2Proof.Machine.execRoll head fields s
  | .holdRequest head fields => Sys2Proof.Machine.execHoldRequest head fields s
  | .topUpRequest head fields => Sys2Proof.Machine.execTopUpRequest head fields s
  | .post head fields => Sys2Proof.Machine.execPost head fields s
  | .holdAnswer head fields => Sys2Proof.Machine.execHoldAnswer head fields s
  | .postAnswer head fields => Sys2Proof.Machine.execPostAnswer head fields s
  | .escrowQuery head fields => Sys2Proof.Machine.execEscrowQuery head fields s
  | .escrowAnswer head fields => Sys2Proof.Machine.execEscrowAnswer head fields s
  | .escrowRelease head fields => Sys2Proof.Machine.execEscrowRelease head fields s
  | .releaseAnswer head fields => Sys2Proof.Machine.execReleaseAnswer head fields s
  | .frameDiscarded bytes => Sys2Proof.Machine.execFrameDiscarded bytes s
  | .frameSendStart t => Sys2Proof.Machine.execFrameSendStart t s
  | .frameSent => Sys2Proof.Machine.execFrameSent s
  | .collision => Sys2Proof.Machine.execCollision s
  | .exchangeAnswerDeadline => Sys2Proof.Machine.execExchangeAnswerDeadline s
  | .exchangeStart => Sys2Proof.Machine.execExchangeStart s
  | .joiningWindowEnd => Sys2Proof.Machine.execJoiningWindowEnd s
  | .rollAnswerDelayEnd => Sys2Proof.Machine.execRollAnswerDelayEnd s
  | .accountRequestTaken => Sys2Proof.Machine.execAccountRequestTaken s
  | .holdLapse hold => Sys2Proof.Machine.execHoldLapse hold s
  | .outboundRound => Sys2Proof.Machine.execOutboundRound s
  | .sensorSample levels door => Sys2Proof.Machine.execSensorSample levels door s
  | .cardPresenceSample presence => Sys2Proof.Machine.execCardPresenceSample presence s
  | .lineBusy => Sys2Proof.Machine.execLineBusy s

end Sys2Proof.Machine
end

