-- ==== Sys2Proof/Safety.lean ====
section
/-! DEFINITION. What counts as a safe run: the laws that every step keeps, and the words in which the statements
speak of a command that the port takes. -/

namespace Sys2Proof.Machine

/-! ## A command at the port -/

/-- The part has power and no command is in hand: a command message is judged (R173). -/
def State.accepts (s : State) : Prop := s.powered = true ∧ ∀ c, s.port.state ≠ .executing c

/-- The state of a command answered at once: an unread result is discarded and the new one placed (R174, R176). -/
def answered (o : Opcode) (r : Reason) (v : Values) (s : State) : State :=
  placeResult { command := some o, reason := r, values := v } (discardResult s)

/-- The port holds this result and no refused message is counted (R174). -/
def State.holdsResult (s : State) (o : Opcode) (r : Reason) (v : Values) : Prop :=
  s.port.state = .result { command := some o, reason := r, values := v } ∧ s.port.refused = 0

/-- The store write queue has a place (R181). -/
def State.storeRoom (s : State) : Prop := s.store.taken < 8

/-- The writes the store has in hand, in their order: in progress, queued, waiting for a place (R181). -/
def Store.writes (t : Store) : List RecordWrite :=
  (t.current.map fun w => w.1.what).toList ++ (t.queue ++ t.waiting).map QueuedWrite.what

/-! ## What a command leaves unchanged -/

/-- The parts of State that a frame names. -/
inductive Block where
  | powered | timeBase | options | port | job | tariff | path | card | line | accounts | settle | meter | store
  | free | pending
deriving DecidableEq, Repr

/-- Every part of the state but those listed is the same in `t` as in `s`. -/
def State.unchangedBut (s : State) (changed : List Block) (t : State) : Prop :=
  (.powered ∉ changed → t.powered = s.powered) ∧ (.timeBase ∉ changed → t.timeBase = s.timeBase) ∧
  (.options ∉ changed → t.options = s.options) ∧ (.port ∉ changed → t.port = s.port) ∧
  (.job ∉ changed → t.job = s.job) ∧ (.tariff ∉ changed → t.tariff = s.tariff) ∧
  (.path ∉ changed → t.path = s.path) ∧ (.card ∉ changed → t.card = s.card) ∧
  (.line ∉ changed → t.line = s.line) ∧ (.accounts ∉ changed → t.accounts = s.accounts) ∧
  (.settle ∉ changed → t.settle = s.settle) ∧ (.meter ∉ changed → t.meter = s.meter) ∧
  (.store ∉ changed → t.store = s.store) ∧ (.free ∉ changed → t.free = s.free) ∧
  (.pending ∉ changed → t.pending = s.pending)

/-- The write of a command joins the writes in hand, and its result is placed where the write stands in the queue;
where the queue is full the command stays EXECUTING with its result kept (R174, R181). -/
def State.writesAndAnswers (s : State) (o : Opcode) (w : RecordWrite) (v : Values) (t : State) : Prop :=
  t.store.writes = s.store.writes ++ [w] ∧ t.store.records = s.store.records ∧
  (s.store.taken < 8 → t.holdsResult o .ok v) ∧
  (8 ≤ s.store.taken → t.port.state = .executing o ∧
    t.port.held = some { command := some o, reason := .ok, values := v })

/-- The station hears this frame as one for it (R104, R106, R114): with power, JOINING or MEMBER, not sending, no
bytes of its own in the run that the frame ends, the frame good, not from its own number, and addressed to it or
broadcast. -/
def State.hears (s : State) (head : FrameHead) (body : Payload) : Prop :=
  s.powered = true ∧ (s.line.state = .joining ∨ s.line.state = .member) ∧ s.line.sending = none ∧
  s.line.share ≠ .part ∧
  Frame.good { head := head, body := body } = true ∧ s.own ≠ some head.source ∧
  (s.own = some head.dest ∨ head.dest = 63)

/-- The roster once a station was heard (R107): its entry PRESENT. -/
def markHeard (station : Nat) (roster : List RosterEntry) : List RosterEntry :=
  roster.map fun e => if e.station = station then { e with present := true } else e

/-- The line once a run of bytes ended on it and the roster is this (R103, R104): idle, with nothing sent yet. -/
def LineUnit.heard (l : LineUnit) (roster : List RosterEntry) : LineUnit :=
  { l with busy := false, share := .nothing, roster := roster }

/-- The line once the answer of the exchange in progress was heard (R107, R111): the exchange ended, its request place
empty. -/
def LineUnit.ended (l : LineUnit) (roster : List RosterEntry) : LineUnit :=
  { l.heard roster with inProgress := none, waiting := l.waiting.filter fun f => f.place != .request }

/-- The store's queue is in order: the store is idle only with an empty queue, at most 8 places are taken, and
submitters wait only while all 8 are (R181). -/
def Store.orderly (t : Store) : Prop :=
  (t.current = none → t.queue = []) ∧ t.taken ≤ 8 ∧ (t.waiting ≠ [] → t.taken = 8)

/-- A jam was declared in `s` with these filters, leading to `t` (R17, R18, R58, R64): FAULT, the path queue lost
in feed order, the jam record, the losses and the path fault at the job unit, the meters, and the JAM notice, followed
by PATH CLEAR where the path is clear on entry. The notices are those of a queue with room for both. -/
def State.jammed (s : State) (f : Filters) (kind : JamKind) (place : JamPlace) (sheet : Option (Nat × Tag))
    (t : State) : Prop :=
  let q := s.path.queue
  let record : JamRecord := { kind := kind, place := place, sheet := sheet, time := s.timeBase, lost := q.length }
  let counters := MetersOf.zip Counter.add
    { MetersOf.zero with lost := q.length, jams := JamsOf.only kind } s.meter.record.counters
  t.path = { s.path with state := .fault, queue := [], filters := f, jam := some record } ∧
  t.job = { s.job with
    ctx := { s.job.ctx with
      state := if s.job.ctx.state = .running ∨ s.job.ctx.state = .draining then .halted else s.job.ctx.state
      reserved := s.job.ctx.reserved - (q.map SheetRecord.reserve).sum
      lost := s.job.ctx.lost + q.length }
    lostList := { s.job.lostList with
      tags := (s.job.lostList.tags ++ q.map SheetRecord.tag).drop (s.job.lostList.tags.length + q.length - 12)
      overflow := s.job.lostList.overflow || decide (12 < s.job.lostList.tags.length + q.length) } } ∧
  t.meter = { s.meter with record := { s.meter.record with counters := counters } } ∧
  (s.port.notices.length ≤ 14 →
    t.port = { s.port with notices := s.port.notices ++ { time := s.timeBase, body := .jam record } ::
      (if f.clear then [{ time := s.timeBase, body := .pathClear s.timeBase }] else []) }) ∧
  t.store.records = s.store.records ∧
  s.unchangedBut [.path, .job, .meter, .port, .store] t

/-- The job of `s`, of this serial and kind, ended in `t` by a settlement route (R5, R24, R61): its context is NONE with
its amounts and counts as they stood, nothing of it waits, its reserved places are released, it is counted, the clearing
of its checkpoint is the last write in hand, JOB END is raised, and an ACTIVE path goes to IDLE. The notice queue has
room. -/
def State.jobEnded (s : State) (serial : Nat) (kind : FundingKind) (route : Route) (reason : Option CloseReason)
    (t : State) : Prop :=
  let c := s.job.ctx
  t.job = { s.job with
    ctx := { c with serial := none, state := .none, funding := none, openingCard := none, purse := none, account := none
                    topUp := .none, closeReason := none }
    removed := false, feed := none, waiting := [], postDue := none, awaitsCard := false } ∧
  t.card.refundReserved = false ∧ t.settle.reservedJob = false ∧
  t.meter.record.counters = MetersOf.zip Counter.add
    { MetersOf.zero with jobs :=
        { purse := if kind = .purse then 1 else 0, account := if kind = .account then 1 else 0
          offline := if kind = .offline then 1 else 0 } } s.meter.record.counters ∧
  t.store.records = s.store.records ∧ (s.store.orderly → t.store.writes.getLast? = some (.checkpoint none)) ∧
  t.path.state = (if s.path.state = .active then .idle else s.path.state) ∧ t.path.queue = s.path.queue ∧
  (s.port.notices.length < 16 → t.port.notices = s.port.notices ++ [Notice.mk s.timeBase (.jobEnd
    { serial := serial, delivered := c.usage.sheets, lostNotRedone := c.lost - c.redone, charged := c.charged
      funding := kind, route := route, closeReason := reason })])

/-- The refund list with a settlement's entry (R93): the entry with its serial and tag takes the new total and the state
HELD in its place, or a new one joins the end. -/
def withEntry (serial tag charged : Nat) (l : List RefundEntry) : List RefundEntry :=
  let e : RefundEntry := { serial := serial, tag := tag, charged := charged, state := .held }
  if l.any (fun x => x.serial == serial && x.tag == tag) then
    l.map fun x => if x.serial = serial ∧ x.tag = tag then e else x
  else l ++ [e]

/-- The outbound queue with an entry (R155): in the place of the entry with its identity, or at the end. -/
def withOutbound (e : OutEntry) (l : List OutEntry) : List OutEntry :=
  if l.any (fun x => x.key == e.key) then l.map fun x => if x.key = e.key then e else x else l ++ [e]

/-- A settlement write's new figures for the charged total (R91). -/
def Purse.settledTo (p : Purse) (charged : Nat) : Purse :=
  { balance := min 16777215 (p.balance + p.escrow - charged), escrow := 0, station := none, tag := 0
    counter := p.counter + 1 }

/-- The card with a write of these figures begun at `now`: the whole slot sent to the spare one (R88). -/
def CardUnit.writes (c : CardUnit) (purpose : WritePurpose) (slot : SlotName) (p : Purse) (now : TimePoint) : CardUnit :=
  { c with
    writing := some { purpose := purpose, purse := p }
    request := some (.write (match slot with | .a => 2 | .b => 1) p.bytes, now) }

/-- A READY purse card that a write can be made on (R88). -/
def CardUnit.writable (c : CardUnit) (i : PurseImage) : Prop :=
  c.state = .ready ∧ c.image = some i ∧ c.writing = none ∧ c.resolving = false ∧ i.purse.counter < 4294967295

/-- The conditions of a settlement write (R91): the card's serial, this station's escrow with the tag, the total within
the escrow. -/
def State.settleable (s : State) (card tag charged : Nat) (i : PurseImage) : Prop :=
  s.card.writable i ∧ i.serial = card ∧ i.purse.escrow ≠ 0 ∧ i.purse.station = some (s.options.station.getD 0) ∧
  i.purse.tag = tag ∧ charged ≤ i.purse.escrow

/-! ## The law of rounding (R36) -/

/-- A charged total is the rounded delivered sum. -/
def rounded (charged delivered : Nat) : Prop := charged = roundHalfUp delivered

def RecordWrite.rounds : RecordWrite → Prop
  | .checkpoint (some k) => rounded k.charged k.delivered
  | _ => True

/-- C = round(D) in the job context, in the stored checkpoint and in every checkpoint write in hand. -/
def State.roundedTotals (s : State) : Prop :=
  rounded s.job.ctx.charged s.job.ctx.delivered ∧
  (∀ k, s.store.records.checkpoint = some k → rounded k.charged k.delivered) ∧
  ∀ w ∈ s.store.writes, w.rounds

/-! ## The law of counters (R164) -/

/-- A counter's period value is at most its lifetime value. -/
def Counter.lawful (c : Counter) : Prop := c.period ≤ c.life

def MetersOf.lawful (m : MetersOf Counter) : Prop := ∀ c ∈ MetersOf.toList m, c.lawful

def Account.lawful (a : Account) : Prop := ∀ c ∈ FiguresOf.toList a.figures, c.lawful

def RecordWrite.lawful : RecordWrite → Prop
  | .meters m => m.counters.lawful
  | .account _ (some a) => a.lawful
  | _ => True

/-- Period values are at most their lifetime counterparts: the meters, the accounts, the stored records and every
write in hand. -/
def State.periodsWithinLifetimes (s : State) : Prop :=
  s.meter.record.counters.lawful ∧ (∀ a ∈ s.accounts.table, a.lawful) ∧
  s.store.records.meters.counters.lawful ∧ (∀ a ∈ s.store.records.accounts, a.lawful) ∧
  ∀ w ∈ s.store.writes, w.lawful

/-! ## The law of capacities -/

/-- The queues that may overflow hold no more than their places: 16 notices (R179), 6 sheet records (R51), 12 lost
tags (R75); the refused count is at most 255 (R173); every filter's count is at most 2 (R43, R81); the store's queue
is in order (R181). -/
structure State.withinCapacities (s : State) : Prop where
  notices : s.port.notices.length ≤ 16
  sheets : s.path.queue.length ≤ 6
  tags : s.job.lostList.tags.length ≤ 12
  refused : s.port.refused ≤ 255
  feed : s.path.filters.feed.count ≤ 2
  reg : s.path.filters.reg.count ≤ 2
  fuse : s.path.filters.fuse.count ≤ 2
  duplex : s.path.filters.duplex.count ≤ 2
  exit : s.path.filters.exit.count ≤ 2
  door : s.path.filters.door.count ≤ 2
  presence : s.card.presence.count ≤ 2
  store : s.store.orderly

/-! ## The law of funds (R10) -/

def RecordWrite.covered : RecordWrite → Prop
  | .checkpoint (some k) => k.charged ≤ k.funded
  | _ => True

/-- A job never promises more than it has (R10): C + Rp is at most F, and Rp is the sum of the reservations of the
sheets in the path, each its price rounded up (R34). The numbers of the sheets are their own (R50); sheets are in the
path of a RUNNING or DRAINING job only; an AUTHORISING job has charged nothing; and C is at most F in the stored
checkpoint and in every checkpoint write in hand. -/
structure State.withinFunds (s : State) : Prop where
  covered : s.job.ctx.charged + s.job.ctx.reserved ≤ s.job.ctx.funded
  reserved : s.job.ctx.reserved = (s.path.queue.map SheetRecord.reserve).sum
  prices : ∀ r ∈ s.path.queue, r.reserve = reservation r.price
  feed : ∀ f, s.job.feed = some f → f.reserve = reservation f.price
  numbers : (s.path.queue.map SheetRecord.number).Nodup
  fed : ∀ r ∈ s.path.queue, r.number ≤ s.job.ctx.fed
  sheets : s.path.queue ≠ [] → s.job.ctx.state = .running ∨ s.job.ctx.state = .draining
  opening : s.job.ctx.state = .authorising → s.job.ctx.charged = 0
  stored : ∀ k, s.store.records.checkpoint = some k → k.charged ≤ k.funded
  writes : ∀ w ∈ s.store.writes, w.covered

/-! ## The records that a start would find -/

/-- The records of the store once the first `n` of the writes in hand have completed (R181, R182). -/
def Store.after (t : Store) (n : Nat) : StoreRecords := (t.writes.take n).foldl (fun r w => w.apply r) t.records

/-- The records of the store once every write in hand has completed. -/
def Store.settled (t : Store) : StoreRecords := t.after t.writes.length

/-! ## The law of holds (R127) -/

/-- Each hold id stands at most once, each record has a place of its own among the 48, and at most 47 are ACTIVE
(R125, R127). -/
structure HoldsLawful (l : List Hold) : Prop where
  once : (l.map Hold.hold).Nodup
  places : (l.map Hold.place).Nodup
  within : ∀ h ∈ l, h.place < 48
  active : activeCount l ≤ 47

/-- The pool is lawful, and so are the hold records that a start would find, however many of the writes in hand have
completed by then; with all of them completed they are the records of the pool, without their expiries. -/
structure State.holdsKept (s : State) : Prop where
  store : s.store.orderly
  pool : HoldsLawful s.accounts.pool
  found : ∀ n, HoldsLawful (s.store.after n).holds ∧
    ((s.store.after n).holds.map Hold.place).Pairwise (· < ·) ∧ ∀ h ∈ (s.store.after n).holds, h.expiry = none
  kept : s.powered = true → ∀ h, h ∈ s.store.settled.holds ↔ ∃ x ∈ s.accounts.pool, h = x.stored

/-! ## The law of reserved places (R5, R92, R154) -/

/-- The serial and tag that name an entry of the refund list (R93). -/
def RefundEntry.name (e : RefundEntry) : Nat × Nat := (e.serial, e.tag)

/-- The refund list holds at most 24 entries and the outbound queue at most 16, each under a name of its own; and where
the checkpoint names a job, the place of its settlement is free, or its entry stands already (R5, R92, R154). -/
structure StoreRecords.placesKept (r : StoreRecords) : Prop where
  refunds : r.refunds.length ≤ 24
  refundNames : (r.refunds.map RefundEntry.name).Nodup
  outbound : r.outbound.length ≤ 16
  outboundKeys : (r.outbound.map OutEntry.key).Nodup
  purse : ∀ k p, r.checkpoint = some k → k.purse = some p →
    k.funding = .purse ∧ k.account = none ∧ (r.refunds.length ≤ 23 ∨ (p.card, p.tag.getD 0) ∈ r.refunds.map RefundEntry.name)
  account : ∀ k a, r.checkpoint = some k → k.account = some a →
    k.funding ≠ .purse ∧ k.purse = none ∧ (r.outbound.length ≤ 15 ∨ .finalPost a.hold ∈ r.outbound.map OutEntry.key)

/-- The card controller's claims on reserved outbound places: its exchange, its waiting requests, and the purse write
that a release will follow (R96, R97). -/
def CardUnit.claims (c : CardUnit) : Nat :=
  (if c.slot.isSome then 1 else 0) + c.waiting.length +
    (match c.writing with
      | some { purpose := .peerAnswer _ _ _ _, purse := _ } => 1
      | _ => 0)

/-- The refund list holds at most 24 entries, and the outbound queue with the card controller's reserved places at most
16, each entry under a name of its own (R92, R93, R154, R155). An open purse job has its refund-list place reserved and
an open account or offline job its outbound place (R5): with the place there is room for it, or its entry stands
already. The card controller has an outbound place reserved for each of its claims (R96). The records that a start would
find are lawful, however many of the writes in hand have completed by then; with all of them completed they hold the
list, the queue and the job of the state. -/
structure State.placesKept (s : State) : Prop where
  store : s.store.orderly
  refunds : s.card.refunds.length ≤ 24
  refundNames : (s.card.refunds.map RefundEntry.name).Nodup
  outbound : s.settle.queue.length + s.settle.reservedCard ≤ 16
  outboundKeys : (s.settle.queue.map OutEntry.key).Nodup
  purse : ∀ p, s.job.ctx.purse = some p →
    s.card.refundReserved = true ∧ s.job.ctx.funding = some .purse ∧ s.job.ctx.account = none ∧
    s.job.ctx.serial ≠ none ∧ s.job.ctx.state ≠ .none ∧ s.job.ctx.state ≠ .authorising ∧
    (s.card.refunds.length ≤ 23 ∨ ∃ tag, p.tag = some tag ∧ (p.card, tag) ∈ s.card.refunds.map RefundEntry.name)
  account : ∀ a, s.job.ctx.account = some a →
    s.settle.reservedJob = true ∧ s.job.ctx.funding ≠ some .purse ∧ s.job.ctx.purse = none ∧
    s.job.ctx.serial ≠ none ∧ s.job.ctx.funding ≠ none ∧ s.job.ctx.state ≠ .none ∧
    (s.settle.queue.length + s.settle.reservedCard ≤ 15 ∨ .finalPost a.hold ∈ s.settle.queue.map OutEntry.key)
  card : s.card.claims ≤ s.settle.reservedCard
  found : ∀ n, (s.store.after n).placesKept
  kept : s.powered = true →
    s.store.settled.outbound = s.settle.queue ∧
    s.store.settled.refunds.map RefundEntry.name = s.card.refunds.map RefundEntry.name ∧
    (s.job.ctx.state = .none ∨ s.job.ctx.state = .authorising → s.store.settled.checkpoint = none) ∧
    (∀ k, s.store.settled.checkpoint = some k → some k.funding = s.job.ctx.funding ∧ k.purse = s.job.ctx.purse ∧
      k.account.map AccountPart.hold = s.job.ctx.account.map AccountPart.hold)

/-- A state of a safe run. -/
structure State.safe (s : State) : Prop where
  totals : s.roundedTotals
  counters : s.periodsWithinLifetimes
  capacities : s.withinCapacities
  funds : s.withinFunds
  holds : s.holdsKept
  places : s.placesKept

end Sys2Proof.Machine
end

