-- ==== Sys2Proof/Certificates/Slice0/Obligations.lean ====
section
/-! DEFINITION. The statements for the provers: what the commands of every family do, what they leave unchanged, the
laws that every step keeps, and the byte layouts that read back as they were written. A premise names only the state
and the operands; `Store.orderly` and `State.withinCapacities` are laws of the model stated here in their own right. -/

section Statements

open Sys2Proof Sys2Proof.Machine

/-! ## Steps and power -/

/-- With a command at the front of the queue, a step is `exec` of it on the state with the queue's rest. -/
def Obligations.StepRunsFrontCommand : Prop :=
  ∀ (s : State) (c : Instr) (rest : List Instr), s.pending = c :: rest → step s = exec c (s.setPending rest)

/-- The model's own choices (DESIGN CHOICE, log 2 and log 4). On an empty queue: without power nothing happens; events
that are due join the queue; otherwise the time base counts by one, modulo 2^32 (R186), and nothing else changes but the
age of a refusal. A part without power does nothing on any command but POWER_ON. -/
def Obligations.EmptyQueueAndUnpoweredPart : Prop :=
  (∀ s : State, s.pending = [] →
    (s.powered = false → step s = .next s) ∧
    (s.powered = true → s.dueEvents ≠ [] → step s = .next { s with pending := s.dueEvents }) ∧
    (s.powered = true → s.dueEvents = [] →
      step s = .next { s with
        timeBase := s.timeBase + 1#32
        job := { s.job with ctx := { s.job.ctx with topUp := s.job.ctx.topUp.age (s.timeBase + 1#32) } } })) ∧
  (∀ (i : Instr) (s : State), s.powered = false → i ≠ .powerOn → exec i s = .next s)

/-- A start, by POWER_ON or by RESTART, with no checkpoint in the store (R177, R185): the time base is 0, the port IDLE
with its refused count 0 and its overflow mark clear, the START notice with its cause the only one in the queue, every
block as its own rule gives with its records of the store, the line OFF without a station number and JOINING with one,
its roster the own entry and its joining ROLL ready (R115). No write is in hand.
The model's own readings here: a POWER_ON on a powered part is a power cycle (DEDUCED, log 4); at a RESTART the queued
writes are completed first, within the command (DEDUCED, log 19); CLAIMED entries that turn HELD submit no write
(DEDUCED, log 20); time 0 counts as the last sample (`PathMonitor.start`: DESIGN CHOICE, log 39). -/
def Obligations.StartTakesEveryBlockBack : Prop :=
  ∀ (s : State) (c : Instr) (cause : StartCause) (k : StoreRecords),
    (c = .powerOn ∧ cause = .powerOn ∧ k = s.store.records) ∨
      (c = .restart [] ∧ cause = .restart ∧ s.accepts ∧ k = (finishWrites s).store.records) →
    k.checkpoint = none →
    ∃ t, exec c s = .next t ∧ t.powered = true ∧ t.timeBase = 0 ∧
      t.port = Port.start { time := 0, body := .start cause k.startOptions.1.station k.startOptions.2 } ∧
      t.options = k.startOptions.1 ∧ t.tariff = k.tariff ∧ t.path = PathMonitor.start k.profile ∧
      t.job = JobUnit.start k.serial ∧ t.card = CardUnit.start (k.refunds.map fun e => { e with state := .held }) ∧
      t.accounts.table = k.accounts ∧ t.accounts.arrivals = [] ∧ t.accounts.inHand = none ∧
      t.accounts.snapshot = none ∧
      (∀ h, h ∈ t.accounts.pool ↔
        ∃ x ∈ k.holds, h = { x with expiry := if x.state = .active then some 120000#32 else none }) ∧
      t.settle = SettlementUnit.start k.outbound ∧ t.meter = { record := k.meters, snapshot := none } ∧
      t.store = Store.quiet k ∧
      t.line = (match k.startOptions.1.station with
        | none => LineUnit.off
        | some n => { LineUnit.off with
            state := .joining
            roster := [{ station := n, present := true, home := k.startOptions.1.home, overlap := false }]
            waiting := [{ place := .roll, k := 0, frame :=
              { head := { dest := 63, source := n, exch := 0 }
                body := .roll { first := (k.startOptions.1.home.map HomeRange.first).getD 0
                                last := (k.startOptions.1.home.map HomeRange.last).getD 0, joining := true } } }] }) ∧
      t.free = s.free ∧ t.pending = s.pending

/-- A power loss keeps the records that the last completed writes left, and nothing of the write in progress, of the
queue or of its waiting submitters (R182); a RESTART first completes the write in progress and every write that stands
in the queue, in order, and abandons the waiting submitters (R182). Meter writes, which carry the counters of their
beginning (R165), are left out of the second part.
The model completes those writes within the command, without their 3 ms (DEDUCED, log 19), and the start submits no
write where CLAIMED entries of the refund list turn HELD (DEDUCED, log 20). -/
def Obligations.StoreAtPowerLossAndRestart : Prop :=
  (∀ s : State, s.powered = true → ∃ t, exec .powerLoss s = .next t ∧ t.powered = false ∧
    t.store = Store.quiet s.store.records) ∧
  (∀ (s : State) (w : QueuedWrite) (t0 : TimePoint), s.accepts →
    s.store.current = some (w, t0) → (∀ x ∈ s.store.queue, x.what.isMeters = false) →
    (s.store.queue.foldl (fun r x => x.what.apply r) (w.what.apply s.store.records)).checkpoint = none →
    ∃ t, exec (.restart []) s = .next t ∧
      t.store = Store.quiet (s.store.queue.foldl (fun r x => x.what.apply r) (w.what.apply s.store.records)))

/-- A write whose 3 ms have passed completes (R181): its record is replaced, the oldest queued write begins, and the
submitter that waited longest takes the freed place; a command that waited so has its result placed (R174). The last
write of a peer's request lets its answer leave for the account answer place (R131).
The write is over at the count 3 ms after its beginning (DEDUCED, log 9), and its place is free then, the write in
progress being counted among the 8 (DEDUCED, log 11). -/
def Obligations.StoreWriteCompletesInOrder : Prop :=
  ∀ (s : State) (w : QueuedWrite) (t0 : TimePoint), s.powered = true → s.store.current = some (w, t0) →
    3 ≤ elapsed s.timeBase t0 → w.what.isMeters = false →
    (w.tag ≠ .request → s.store.waiting = [] → s.store.queue = [] →
      exec .storeWriteComplete s = .next { s with store := { s.store with
        records := w.what.apply s.store.records, current := none } }) ∧
    (∀ x rest, w.tag ≠ .request → s.store.waiting = [] → s.store.queue = x :: rest → x.what.isMeters = false →
      exec .storeWriteComplete s = .next { s with store := { s.store with
        records := w.what.apply s.store.records, current := some (x, s.timeBase), queue := rest } }) ∧
    (∀ x rest y left r, w.tag ≠ .request → s.store.queue = x :: rest → s.store.waiting = y :: left →
      x.what.isMeters = false → y.tag = .command → s.port.held = some r →
      exec .storeWriteComplete s = .next { s with
        store := { s.store with records := w.what.apply s.store.records, current := some (x, s.timeBase)
                                queue := rest ++ [y], waiting := left }
        port := { s.port with state := .result r, refused := 0, held := none } }) ∧
    (∀ h station exch, w.tag = .request → s.store.waiting = [] → s.store.queue = [] → s.accounts.inHand = some h →
      h.outstanding = 1 → h.arrival.origin = .peer station exch → s.line.state = .member →
      exec .storeWriteComplete s = .next { s with
        store := { s.store with records := w.what.apply s.store.records, current := none }
        accounts := { s.accounts with inHand := none }
        line := { s.line with waiting := s.line.waiting ++ [{ place := .accountAnswer, k := 0, frame :=
          { head := { dest := station, source := s.own.getD 0, exch := exch }, body := h.answer } }] } })

/-! ## The engine port -/

/-- In EXECUTING every command of the catalogue, whatever its parameters, raises the refused count, which saturates
at 255, and does nothing else (R173).
The bytes of a command message run the command they spell (R171, R190). A message that is not well formed gets
BAD_FRAME, a well-formed one of no command INVALID, at once, after an unread result was discarded (R173, R176). A
command without parameters that is given some gets BAD_PARAM (DESIGN CHOICE on the place of that check, log 7).
That bytes given as an unknown message but spelling a command run as that command is the model's (DESIGN CHOICE, log
34). -/
def Obligations.MessagesRunOrAreRefused : Prop :=
  (∀ (o : Opcode) (ps : List Byte) (s : State) (c : Opcode), s.powered = true → s.port.state = .executing c →
    exec (Instr.ofMessage o ps) s = .next { s with port := { s.port with refused := min 255 (s.port.refused + 1) } }) ∧
  (∀ (o : Opcode) (ps : List Byte) (s : State), ps.length ≤ 240 →
    exec (.unknownCommandMessage (commandMessage o ps)) s = exec (Instr.ofMessage o ps) s) ∧
  (∀ (s : State), s.accepts →
    (∀ bytes, Message.read bytes = .malformed →
      exec (.unknownCommandMessage bytes) s =
        .next (placeResult { command := none, reason := .badFrame, values := .none } (discardResult s))) ∧
    (∀ bytes, Message.read bytes = .unknownOpcode →
      exec (.unknownCommandMessage bytes) s =
        .next (placeResult { command := none, reason := .invalid, values := .none } (discardResult s))) ∧
    (∀ o ps, o ∈ [Opcode.status, .readNotice, .closeJob, .readLost, .resume, .purgeStart, .purgeEnd, .serviceClear,
        .readRoster, .readRefunds, .restart] → ps ≠ [] → ps.length ≤ 240 →
      exec (Instr.ofMessage o ps) s = .next (answered o .badParam .none s)))

/-- STATUS, READ NOTICE, READ LOST, READ ROSTER, READ REFUNDS, READ METERS and READ STATEMENT with the clear option
off, READ ACCOUNT and LIST ACCOUNTS place their result, with the values their rules name, and change nothing else
(R178, R180, R76, R117, R100, R166, R169, R147); an unread result before them is discarded and undoes nothing: its
snapshots become absent, and no counter, notice or mark changes (R168, R170, R176). The byte 0 for a clear option that is
off is the model's code (DESIGN CHOICE, log 5).
A LIST ACCOUNTS from number 0 begins with the first account of the table (DESIGN CHOICE, log 55). -/
def Obligations.ReadoutsOnlyPlaceTheirResult : Prop :=
  (∀ s : State,
    (∀ r, s.port.state = .result r →
      discardResult s = { s with port := { s.port with state := .idle }
                                 meter := { s.meter with snapshot := none }
                                 accounts := { s.accounts with snapshot := none } }) ∧
    ((∀ r, s.port.state ≠ .result r) → discardResult s = s)) ∧
  (∀ s : State, s.accepts →
    exec (.status []) s = .next (answered .status .ok (.status s.statusReport) s) ∧
    exec (.readNotice []) s = .next (answered .readNotice .ok
      (.notice s.port.notices.length s.port.overflow s.port.notices.head?) s) ∧
    exec (.readLost []) s = .next (answered .readLost .ok
      (.lost s.job.lostList.owner s.job.lostList.tags s.job.lostList.overflow) s) ∧
    exec (.readRoster []) s = .next (answered .readRoster .ok
      (.roster s.line.state s.own (if s.line.state = .off then [] else s.line.roster)) s) ∧
    exec (.readRefunds []) s = .next (answered .readRefunds .ok
      (.refunds (if s.card.refundReserved then 1 else 0) s.card.refunds) s) ∧
    exec (.readMeters [0]) s = .next (answered .readMeters .ok
      (.meters s.meter.record.clearSerial false s.meter.record.counters) s) ∧
    (∀ n a, n < 65536 → s.accounts.find n = some a →
      exec (.readAccount (spell 2 n)) s = .next (answered .readAccount .ok
        (.account a (s.accounts.available a) (decide (s.accounts.available a < 0))
          (holdCount s.accounts.pool n .active) (holdCount s.accounts.pool n .lapsed)) s) ∧
      exec (.readStatement (spell 2 n ++ [0])) s = .next (answered .readStatement .ok (.statement a false) s)) ∧
    (∀ n, n < 65536 → s.accounts.find n = none →
      exec (.readAccount (spell 2 n)) s = .next (answered .readAccount .noAccount .none s)) ∧
    (∀ n, n < 65536 →
      exec (.listAccounts (spell 2 n)) s = .next (answered .listAccounts .ok
        (.accounts (((s.accounts.table.filter fun a => n ≤ a.number).take 16).map s.accountLine)
          (16 < (s.accounts.table.filter fun a => n ≤ a.number).length)) s)))

/-- The reply to a read transaction by the port state (R175): the empty reply, the busy reply, the result. A result
read short of its check byte stays whole in its place, and nothing changes but what was shifted out. A result read
through its last byte leaves its place, the port IDLE, and its command commits: of a READ NOTICE result (R180) the notice
it carried leaves the head of the queue, and the mark is cleared if the result reported it set; of a READ METERS result
with its snapshot (R167) each period value falls by what it reported and the clear serial rises by 1; of a READ STATEMENT
result with its snapshot (R170) the same for the account's period figures and its statement serial. A result of any other
command, and one without a snapshot, commits nothing.
That a transaction is one event with a number of bytes, and the length of a result whose widths R190 leaves open, are
the model's (DESIGN CHOICE, log 25). -/
def Obligations.ReadTransactionRepliesAndCommits : Prop :=
  ∀ (s : State) (n : Nat), s.powered = true →
    (s.port.state = .idle →
      exec (.readTransaction n) s = .next { s with port := { s.port with shifted := .empty } }) ∧
    (∀ c, s.port.state = .executing c →
      exec (.readTransaction n) s = .next { s with port := { s.port with shifted := .busy c s.port.refused } }) ∧
    (∀ r, s.port.state = .result r → n < r.message.length →
      exec (.readTransaction n) s = .next { s with port := { s.port with shifted := .result r } }) ∧
    (∀ r, s.port.state = .result r → r.message.length ≤ n →
      let port : Port := { s.port with state := .idle, shifted := .result r }
      let plain : Prop := exec (.readTransaction n) s = .next { s with port := port }
      (∀ count overflow oldest, r.values = .notice count overflow oldest →
        exec (.readTransaction n) s = .next { s with port := { port with
          notices := if oldest.isSome then s.port.notices.tail else s.port.notices
          overflow := if overflow then false else s.port.overflow } }) ∧
      (∀ serial clear counters, r.values = .meters serial clear counters →
        (s.meter.snapshot = none → plain) ∧
        (∀ snap, s.meter.snapshot = some snap → ∃ t, exec (.readTransaction n) s = .next t ∧ t.port = port ∧
          t.meter = { snapshot := none, record :=
            { counters := MetersOf.zip Counter.clear snap s.meter.record.counters
              clearSerial := (s.meter.record.clearSerial + 1) % 65536 } } ∧
          t.store.records = s.store.records ∧ s.unchangedBut [.port, .meter, .store] t)) ∧
      (∀ a clear, r.values = .statement a clear →
        (s.accounts.snapshot = none → plain) ∧
        (∀ snap, s.accounts.snapshot = some snap → ∃ t, exec (.readTransaction n) s = .next t ∧ t.port = port ∧
          t.accounts = { s.accounts with
            snapshot := none
            table := match s.accounts.find snap.number with
              | some b => putSorted Account.number { b with
                  figures := FiguresOf.zip Counter.clear snap.figures b.figures
                  statementSerial := (b.statementSerial + 1) % 65536 } s.accounts.table
              | none => s.accounts.table } ∧
          t.store.records = s.store.records ∧ s.unchangedBut [.port, .accounts, .store] t)) ∧
      ((∀ count overflow oldest, r.values ≠ .notice count overflow oldest) →
        (∀ serial clear counters, r.values ≠ .meters serial clear counters) →
        (∀ a clear, r.values ≠ .statement a clear) → plain))

/-- READ METERS with the clear option on reports every counter and keeps the period values as the snapshot (R166);
read through its last byte, each period value falls by its snapshot value, no lifetime value changes, the clear
serial rises by 1, wrapping, and the snapshot becomes absent (R167). The write of the record is submitted, unless a meter
write still waits to begin, which will carry these values, or is in progress, which is followed by another (R165, R167).
READ STATEMENT with the clear option on keeps the account's period figures as the snapshot (R169); read through
its last byte, each period figure of that account, as it stands then, falls by its snapshot value, so that a post applied
between the report and its commit stays in the period; no lifetime figure and no other account changes, the statement
serial rises by 1, wrapping, and the record's write is submitted (R170). The byte 1 for a clear option that is on is the
model's code (DESIGN CHOICE, log 5).
The length of a result whose widths R190 leaves open is the model's (DESIGN CHOICE, log 25), and so is the reading that
changes during a meter write submit another one when it completes (DEDUCED, log 38). -/
def Obligations.ClearsTakeOffWhatWasReported : Prop :=
  (∀ s : State, s.accepts → ∃ t, exec (.readMeters [1]) s = .next t ∧
    t.holdsResult .readMeters .ok (.meters s.meter.record.clearSerial true s.meter.record.counters) ∧
    t.meter = { record := s.meter.record, snapshot := some (MetersOf.map Counter.period s.meter.record.counters) } ∧
    (discardResult s).unchangedBut [.port, .meter] t) ∧
  (∀ (s : State) (n serial : Nat) (m : MetersOf Counter) (snap : MetersOf Nat) (r : Result), s.powered = true →
    s.port.state = .result r → r.values = .meters serial true m → s.meter.snapshot = some snap →
    r.message.length ≤ n →
    ∃ t, exec (.readTransaction n) s = .next t ∧
      t.port = { s.port with state := .idle, shifted := .result r } ∧
      MetersOf.map Counter.period t.meter.record.counters =
        MetersOf.zip (fun c x => c.period - x) s.meter.record.counters snap ∧
      MetersOf.map Counter.life t.meter.record.counters = MetersOf.map Counter.life s.meter.record.counters ∧
      t.meter.record.clearSerial = (s.meter.record.clearSerial + 1) % 65536 ∧
      t.meter.snapshot = none ∧ t.store.records = s.store.records ∧
      (let waits := (s.store.queue ++ s.store.waiting).any fun w => w.what.isMeters
       let inProgress := s.store.current.any fun w => w.1.what.isMeters
       (waits = true → t.store = s.store) ∧
       (waits = false → inProgress = true → t.store = { s.store with metersAgain := true }) ∧
       (waits = false → inProgress = false → s.store.orderly →
         t.store.writes = s.store.writes ++ [.meters t.meter.record])) ∧
      s.unchangedBut [.port, .meter, .store] t) ∧
  (∀ (s : State) (n : Nat) (a : Account), s.accepts → n < 65536 → s.accounts.find n = some a →
    ∃ t, exec (.readStatement (spell 2 n ++ [1])) s = .next t ∧
      t.holdsResult .readStatement .ok (.statement a true) ∧
      t.accounts = { s.accounts with
        snapshot := some { number := n, figures := FiguresOf.map Counter.period a.figures } } ∧
      (discardResult s).unchangedBut [.port, .accounts] t) ∧
  (∀ (s : State) (n : Nat) (reported a : Account) (snap : StatementSnapshot) (r : Result), s.powered = true →
    s.store.orderly → s.port.state = .result r → r.values = .statement reported true →
    s.accounts.snapshot = some snap → s.accounts.find snap.number = some a → r.message.length ≤ n →
    let a1 : Account := { a with
      figures := FiguresOf.zip (fun c x => { c with period := c.period - x }) a.figures snap.figures
      statementSerial := (a.statementSerial + 1) % 65536 }
    ∃ t, exec (.readTransaction n) s = .next t ∧
      t.port = { s.port with state := .idle, shifted := .result r } ∧
      t.accounts = { s.accounts with
        snapshot := none, table := putSorted Account.number a1 s.accounts.table } ∧
      t.store.writes = s.store.writes ++ [.account a.number (some a1)] ∧ t.store.records = s.store.records ∧
      s.unchangedBut [.port, .accounts, .store] t)

/-! ## The tariff, the profile and the options -/

/-- LOAD TARIFF and LOAD PROFILE (R27, R28, R46, R47): refused JOB_OPEN with a job open, LOAD PROFILE then WRONG_STATE
with the path monitor out of IDLE, and BAD_PARAM where the table is not whole and in range, the part left as it was;
else the table is replaced at once and its record's write submitted, the result waiting for the write's place.
SET OPTIONS (R184): in every job, path and line state; a field out of range is refused BAD_PARAM, a record that would
not let the station keep an account of its table PROTECTED, the part left as it was; else the stored record is written
with its check, and the running options stay as they are. The result waits with 8 places of the store's queue taken,
which counts the write in progress (DEDUCED, log 11).
The whole lengths of a tariff, 23 bytes, and of a profile, 22, are the model's (DEDUCED, log 6), as is that the length
is judged after the states (DESIGN CHOICE, log 7). -/
def Obligations.LoadsAndOptionsReplaceTheirRecords : Prop :=
  (∀ (s : State) (ps : List Byte), s.accepts → ps.length ≤ 240 →
    (s.job.ctx.state ≠ .none →
      exec (.loadTariff ps) s = .next (answered .loadTariff .jobOpen .none s) ∧
      exec (.loadProfile ps) s = .next (answered .loadProfile .jobOpen .none s)) ∧
    (s.job.ctx.state = .none → s.path.state ≠ .idle →
      exec (.loadProfile ps) s = .next (answered .loadProfile .wrongState .none s)) ∧
    (s.job.ctx.state = .none → (∀ x, Tariff.read ps = some x → x.inRange = false) →
      exec (.loadTariff ps) s = .next (answered .loadTariff .badParam .none s)) ∧
    (s.job.ctx.state = .none → s.path.state = .idle → (∀ x, Profile.read ps = some x → x.inRange = false) →
      exec (.loadProfile ps) s = .next (answered .loadProfile .badParam .none s)) ∧
    (∀ x, s.job.ctx.state = .none → s.store.orderly → Tariff.read ps = some x → x.inRange = true →
      ∃ t, exec (.loadTariff ps) s = .next t ∧ t.tariff = some x ∧ s.writesAndAnswers .loadTariff (.tariff x) .none t ∧
        (discardResult s).unchangedBut [.port, .tariff, .store] t) ∧
    (∀ x, s.job.ctx.state = .none → s.path.state = .idle → s.store.orderly → Profile.read ps = some x →
      x.inRange = true →
      ∃ t, exec (.loadProfile ps) s = .next t ∧ t.path = { s.path with profile := some x } ∧
        s.writesAndAnswers .loadProfile (.profile x) .none t ∧
        (discardResult s).unchangedBut [.port, .path, .store] t)) ∧
  (∀ (s : State) (ps : List Byte), s.accepts → ps.length ≤ 240 →
    (Options.readFields ps = none → exec (.setOptions ps) s = .next (answered .setOptions .badParam .none s)) ∧
    (∀ o, Options.readFields ps = some o →
      ((∃ a ∈ s.accounts.table, o.station = none ∨ o.home = none ∨
          ∃ h, o.home = some h ∧ (a.number < h.first ∨ h.last < a.number)) →
        exec (.setOptions ps) s = .next (answered .setOptions .isProtected .none s)) ∧
      (s.store.orderly → (∀ a ∈ s.accounts.table, o.station ≠ none ∧
          ∃ h, o.home = some h ∧ h.first ≤ a.number ∧ a.number ≤ h.last) →
        ∃ t, exec (.setOptions ps) s = .next t ∧
          s.writesAndAnswers .setOptions (.options (ps ++ spell 2 (optionCheck ps))) .none t ∧
          (discardResult s).unchangedBut [.port, .store] t)))

/-! ## Jobs -/

/-- OPEN JOB checks the station in the order of R2, the first failure giving the reason and the part left as it was;
for CARD funding the card controller's state is checked then. The byte 0 for CARD and 1 for ACCOUNT are the model's codes
(DESIGN CHOICE, log 5).
That these checks come before the parameter count is judged is the model's (DESIGN CHOICE, log 7). -/
def Obligations.OpenJobChecksTheStationInOrder : Prop :=
  ∀ (s : State) (ps : List Byte), s.accepts → ps.length ≤ 240 →
    let refused (r : Reason) : Prop := exec (.openJob ps) s = .next (answered .openJob r .none s)
    let c0 := s.job.ctx.state = .none
    let c1 := c0 ∧ s.path.profile ≠ none
    let c2 := c1 ∧ s.tariff ≠ none
    let c3 := c2 ∧ (s.path.state = .idle ∨ s.path.state = .active)
    let c4 := c3 ∧ s.path.filters.door.on = false
    let covered := s.path.filters.feed.on = true ∨ s.path.filters.reg.on = true ∨ s.path.filters.fuse.on = true ∨
      s.path.filters.duplex.on = true ∨ s.path.filters.exit.on = true
    let c5 := c4 ∧ ¬ covered
    (¬ c0 → refused .jobOpen) ∧
    (c0 → s.path.profile = none → refused .noProfile) ∧
    (c1 → s.tariff = none → refused .noTariff) ∧
    (c2 → s.path.state = .fault ∨ s.path.state = .purging ∨ s.path.state = .service → refused .pathFault) ∧
    (c3 → s.path.filters.door.on = true → refused .doorOpen) ∧
    (c4 → covered → refused .pathNotClear) ∧
    (c5 → ps = [1, 0, 0] → refused .badParam) ∧
    (c5 → ps = [0] → s.card.state = .empty ∨ (∃ n, s.card.state = .reading n) → refused .noCard) ∧
    (c5 → ps = [0] → (∃ r, s.card.state = .rejected r) → refused .cardRejected)

/-- OPEN JOB on a READY purse card, the station in order (R3, R7): an escrow refuses it ESCROW_OPEN, a full refund list
LIST_FULL; else the job takes its serial, reserves its refund-list entry and is RUNNING with every amount and count 0,
the lost list emptied, the serial counter and then the checkpoint written, and the path ACTIVE.
The parameter byte 0 for CARD funding is the model's code (DESIGN CHOICE, log 5), and the write in progress is counted
among the 8 places of the store (DEDUCED, log 11); with all of them taken the result waits, which is not stated here. -/
def Obligations.PurseJobOpensOnAReadyCard : Prop :=
  ∀ (s : State) (id : CardIdentity) (i : PurseImage), s.accepts → s.job.ctx.state = .none → s.path.profile ≠ none →
    s.tariff ≠ none → s.path.state = .idle → s.path.filters.clear = true → s.card.state = .ready →
    s.card.identity = some id → id.kind = .purse → s.card.image = some i →
    (i.purse.escrow ≠ 0 → exec (.openJob [0]) s = .next (answered .openJob .escrowOpen .none s)) ∧
    (i.purse.escrow = 0 → 24 ≤ s.card.refunds.length + (if s.card.refundReserved then 1 else 0) →
      exec (.openJob [0]) s = .next (answered .openJob .listFull .none s)) ∧
    (i.purse.escrow = 0 → s.card.refunds.length + (if s.card.refundReserved then 1 else 0) < 24 →
      s.store.orderly → s.store.taken < 8 →
      let n := s.job.nextSerial
      let next := if n = 65535 then 1 else n + 1
      let c : JobContext := { JobContext.blank with
        serial := some n, state := .running, funding := some .purse, openingCard := some i.serial
        purse := some { card := i.serial, tag := none } }
      ∃ t, exec (.openJob [0]) s = .next t ∧ t.holdsResult .openJob .ok (.jobOpened n .purse 0 0) ∧
        t.job = { s.job with ctx := c, nextSerial := next, lostList := { owner := some n, tags := [], overflow := false } } ∧
        t.card = { s.card with refundReserved := true } ∧
        t.path.state = .active ∧ t.path.queue = s.path.queue ∧ t.path.filters = s.path.filters ∧
        t.path.jam = s.path.jam ∧
        t.store.writes = s.store.writes ++ [.serial next, .checkpoint (some
          { serial := n, funding := .purse, openingCard := some i.serial, purse := c.purse, account := none, funded := 0,
            charged := 0, delivered := 0, usage := UsageOf.all 0 })] ∧
        t.store.records = s.store.records ∧
        (discardResult s).unchangedBut [.port, .job, .card, .path, .store] t)

/-- OPEN JOB on an account number, keyed or of a READY ACCOUNT card, which is then the opening card (R2, R4): refused NO_LINE in CONFLICT and for another station's account outside
MEMBER, NO_ACCOUNT without a home, LIST_FULL without a free outbound entry. Else the job takes its serial and its
outbound entry; with its home here, or PRESENT on the line, it is AUTHORISING and its HOLD request waits at the account
unit or in the job unit's exchange slot, the port EXECUTING; with its home ABSENT it runs OFFLINE on the allowance or,
with none, is refused HOME_ABSENT (R6). The bytes 0 for CARD and 1 for ACCOUNT are the model's codes (DESIGN CHOICE,
log 5).
The job unit's place at the account unit stands in one list with the peers' (DEDUCED, log 16). -/
def Obligations.AccountJobAsksItsHomeForAHold : Prop :=
  ∀ (s : State) (a n : Nat) (e : RosterEntry) (ps : List Byte) (card : Option Nat), s.accepts →
    s.job.ctx.state = .none → s.path.profile ≠ none → s.tariff ≠ none → s.path.state = .idle →
    s.path.filters.clear = true → 1 ≤ a → a < 65536 →
    (ps = [1] ++ spell 2 a ∧ card = none) ∨
      (ps = [0] ∧ s.card.state = .ready ∧ ∃ id, s.card.identity = some id ∧ id.kind = .account ∧ id.account = a ∧
        card = some id.serial) →
    let c : Instr := .openJob ps
    let refused (r : Reason) : Prop := exec c s = .next (answered .openJob r .none s)
    let serial := s.job.nextSerial
    let next := if serial = 65535 then 1 else serial + 1
    let id : HoldId := { station := n, serial := serial }
    let ctx : JobContext := { JobContext.blank with
      serial := some serial, state := .authorising, funding := some .account, openingCard := card
      account := some { number := a, home := e.station, hold := id, discount := 0, acked := 0 } }
    let request : Payload := .holdRequest { account := a, hold := id, amount := s.options.accountBlock, minimum := 1 }
    (s.line.state = .conflict → refused .noLine) ∧
    (s.line.state ≠ .conflict → resolveHome s.line.roster a = none → refused .noAccount) ∧
    (s.line.state ≠ .conflict → resolveHome s.line.roster a = some e → s.options.station = some n → e.station ≠ n →
      s.line.state ≠ .member → refused .noLine) ∧
    (s.line.state ≠ .conflict → resolveHome s.line.roster a = some e → s.options.station = some n →
      (e.station = n ∨ s.line.state = .member) → 16 ≤ s.settle.occupied → refused .listFull) ∧
    (s.line.state ≠ .conflict → resolveHome s.line.roster a = some e → s.options.station = some n →
      (e.station = n ∨ s.line.state = .member) → s.settle.occupied < 16 → s.store.orderly →
      (e.station = n → ∃ t, exec c s = .next t ∧ t.port.state = .executing .openJob ∧
        t.job = { s.job with ctx := ctx, nextSerial := next, removed := false } ∧
        t.settle = { s.settle with reservedJob := true } ∧
        t.accounts = { (discardResult s).accounts with
          arrivals := s.accounts.arrivals ++ [{ origin := .job, body := request }] } ∧
        t.store.writes = s.store.writes ++ [.serial next] ∧ t.store.records = s.store.records ∧
        (discardResult s).unchangedBut [.port, .job, .settle, .accounts, .store] t) ∧
      (e.station ≠ n → e.present = true → ∃ t, exec c s = .next t ∧ t.port.state = .executing .openJob ∧
        t.job = { s.job with ctx := ctx, nextSerial := next, removed := false } ∧
        t.settle = { s.settle with reservedJob := true } ∧
        t.line = { s.line with pending := s.line.pending ++
          [{ source := .job, dest := e.station, body := request, attempts := 3, number := 0, awaiting := none }] } ∧
        t.store.writes = s.store.writes ++ [.serial next] ∧ t.store.records = s.store.records ∧
        (discardResult s).unchangedBut [.port, .job, .settle, .line, .store] t) ∧
      (e.station ≠ n → e.present = false → s.options.allowance = 0 → ∃ t, exec c s = .next t ∧
        t.holdsResult .openJob .homeAbsent .none ∧ t.job.ctx.state = .none ∧ t.job.nextSerial = next ∧
        t.settle.reservedJob = false ∧ t.store.writes = s.store.writes ++ [.serial next]) ∧
      (e.station ≠ n → e.present = false → 0 < s.options.allowance → ∃ t, exec c s = .next t ∧
        t.holdsResult .openJob .ok (.jobOpened serial .offline s.options.allowance 0) ∧
        t.job.ctx = { ctx with state := .running, funding := some .offline, funded := s.options.allowance } ∧
        t.job.nextSerial = next ∧ t.settle.reservedJob = true ∧ t.path.state = .active))

/-- FEED by the job's state and by range (R9). The parameters carry set, page, size, mode, faces, front and back
coverage (the codes 0 and 1 of size and mode are the model's: DESIGN CHOICE, log 5). In NONE, HALTED, AUTHORISING,
DRAINING and SETTLING it is refused with the reason of the state; in RUNNING out of range BAD_PARAM; both leave the job context as it was. In range
it is taken by the feed gate.
Where R9 does not read the back coverage the sheet handed to the gate has 0 there (DESIGN CHOICE, log 41), and a wrong
number of parameters is judged after the job's state (DESIGN CHOICE, log 7). -/
def Obligations.FeedIsTakenRunningAndInRange : Prop :=
  ∀ (s : State), s.accepts →
    (∀ ps, ps.length ≤ 240 →
      (s.job.ctx.state = .none → exec (.feed ps) s = .next (answered .feed .noJob .none s)) ∧
      (s.job.ctx.state = .halted → exec (.feed ps) s = .next (answered .feed .pathFault .none s)) ∧
      (s.job.ctx.state = .authorising ∨ s.job.ctx.state = .draining ∨ s.job.ctx.state = .settling →
        exec (.feed ps) s = .next (answered .feed .wrongState .none s))) ∧
    (∀ r, (answered .feed r .none s).job = s.job) ∧
    (∀ set page size mode faces front back, s.job.ctx.state = .running → set < 65536 → page < 65536 → size ≤ 1 →
      mode ≤ 1 → faces < 256 → front < 256 → back < 256 →
      let c : Instr := .feed (spell 2 set ++ spell 2 page ++ spell 1 size ++ spell 1 mode ++ spell 1 faces ++
        spell 1 front ++ spell 1 back)
      let inRange := (1 ≤ set ∧ set ≤ 9999) ∧ (1 ≤ page ∧ page ≤ 9999) ∧ (faces = 1 ∨ faces = 2) ∧ front ≤ 3 ∧
        (faces = 2 ∧ mode = 1 → back ≤ 3)
      (¬ inRange → exec c s = .next (answered .feed .badParam .none s)) ∧
      (inRange → exec c s = .next (feedGate { set := set, page := page }
        { size := if size = 0 then .std else .large, mode := if mode = 0 then .mono else .colour, faces := faces,
          front := front, back := if faces = 2 ∧ mode = 1 then back else 0 }
        ((discardResult s).setPort { (discardResult s).port with state := .executing .feed }))))

/-- The feed gate on a FEED in hand (R10, R33, R34, R39): the refusals of its steps, each leaving everything but the
result as it was, and the grant: the record at the end of the path queue with its price and reservation, Rp and the fed
count raised, a redo taken off the lost list (R77), and GRANTED with the free amount left.
A FEED command so granted completes at once; its bytes 0 for STD and for MONO are the model's codes (DESIGN CHOICE,
log 5).
The lost list keeps its overflow mark even where the redo takes its last entry (DESIGN CHOICE, log 42). -/
def Obligations.FeedGateGrantsWithinTheFreeAmount : Prop :=
  (∀ (s : State) (tag : Tag) (d : Sheet) (x : Tariff), s.port.state = .executing .feed → s.tariff = some x →
    let c := s.job.ctx
    let refused (r : Reason) : Prop := feedGate tag d s = placeResult { command := some .feed, reason := r, values := .none } s
    let price := x.price d (min 65535 (c.fed - c.lost + 1)) ((c.account.map AccountPart.discount).getD 0)
    let r := (price + 99) / 100
    let free := c.funded - c.charged - c.reserved
    (6 ≤ s.path.queue.length → refused .pathFull) ∧
    (s.path.queue.length < 6 → 65535 ≤ c.fed → refused .jobLimit) ∧
    (s.path.queue.length < 6 → c.fed < 65535 → 999999 < c.charged + c.reserved + r → refused .jobLimit) ∧
    (s.path.queue.length < 6 → c.fed < 65535 → c.charged + c.reserved + r ≤ 999999 → free < r →
      c.funding = some .offline → refused .noFunds) ∧
    (s.path.queue.length < 6 → c.fed < 65535 → c.charged + c.reserved + r ≤ 999999 → r ≤ free → s.path.state = .active →
      ∃ t, feedGate tag d s = t ∧
        t.holdsResult .feed .granted (.granted (c.fed + 1) price r (free - r)) ∧
        t.path = { s.path with queue := s.path.queue ++
          [{ number := c.fed + 1, tag := tag, sheet := d, price := price, reserve := r, position := 1, awaits := .lead,
             earliest := s.timeBase, latest := s.timeBase + BitVec.ofNat 32 ((s.path.profile.map Profile.pick).getD 0),
             leadTime := none }] } ∧
        t.job.ctx = { c with
          reserved := c.reserved + r, fed := c.fed + 1
          redone := if tag ∈ s.job.lostList.tags then c.redone + 1 else c.redone } ∧
        t.job.lostList = { s.job.lostList with tags := s.job.lostList.tags.erase tag } ∧
        s.unchangedBut [.port, .path, .job] t)) ∧
  (∀ (s : State) (x : Tariff) (set page : Nat), s.accepts → s.job.ctx.state = .running → s.tariff = some x →
    s.path.state = .active → s.path.queue.length < 6 → s.job.ctx.fed < 65535 →
    1 ≤ set → set ≤ 9999 → 1 ≤ page → page ≤ 9999 →
    let c := s.job.ctx
    let price := x.price { size := .std, mode := .mono, faces := 1, front := 0, back := 0 }
      (min 65535 (c.fed - c.lost + 1)) ((c.account.map AccountPart.discount).getD 0)
    c.charged + c.reserved + (price + 99) / 100 ≤ 999999 →
    (price + 99) / 100 ≤ c.funded - c.charged - c.reserved →
    ∃ t, exec (.feed (spell 2 set ++ spell 2 page ++ [0, 0, 1, 0, 0])) s = .next t ∧
      t.holdsResult .feed .granted (.granted (c.fed + 1) price ((price + 99) / 100)
        (c.funded - c.charged - c.reserved - (price + 99) / 100)) ∧
      t.path.queue.length = s.path.queue.length + 1 ∧ (discardResult s).unchangedBut [.port, .path, .job] t)

/-- A FEED in range whose reservation R is above the free amount seeks funds by the job's funding.
A PURSE job (R11, R90): without its own READY card that can be written, with less on the card than the shortfall, or with
an escrow there that is not the job's, NO_FUNDS; else the card controller writes the move of min(balance, max(purse
block, shortfall)) to the spare slot, the first move of a job setting the escrow station and tag, and the FEED waits, the
port EXECUTING and the job's amounts unchanged.
An ACCOUNT job of another station (R13, R149): with a top-up PENDING, WAIT with the free amount; after a refusal less than
5 s old or a permanent one, NO_FUNDS; else outside MEMBER or with the home not PRESENT, NO_FUNDS and refused now; else a
TOP-UP of max(account block, shortfall) with the shortfall as minimum is asked for, PENDING, and WAIT is the result.
An ACCOUNT job of this station (R14): the TOP-UP is handed to the own account unit whatever the top-up state, and the
FEED waits.
The codes of the parameters are the model's (DESIGN CHOICE, log 5), and the job unit's place at the account unit stands
in one list with the peers' (DEDUCED, log 16). -/
def Obligations.ShortFeedSeeksFunds : Prop :=
  ∀ (s : State) (ps : List Byte) (x : Tariff) (tag : Tag) (d : Sheet), s.accepts → ps.length ≤ 240 →
    s.job.ctx.state = .running → s.tariff = some x → (FeedOperand.read ps).bind FeedOperand.sheet = some (tag, d) →
    s.path.queue.length < 6 → s.job.ctx.fed < 65535 →
    let c := s.job.ctx
    let price := x.price d (min 65535 (c.fed - c.lost + 1)) ((c.account.map AccountPart.discount).getD 0)
    let r := (price + 99) / 100
    let free := c.funded - c.charged - c.reserved
    let short := r - free
    let f : PendingFeed := { tag := tag, sheet := d, price := price, reserve := r }
    let taken : State := { discardResult s with port := { (discardResult s).port with state := .executing .feed } }
    let refused : Prop := exec (.feed ps) s = .next (answered .feed .noFunds .none s)
    c.charged + c.reserved + r ≤ 999999 → free < r →
    (∀ part, c.funding = some .purse → c.purse = some part →
      (s.card.state ≠ .ready ∨ s.card.writing ≠ none ∨ s.card.resolving = true → refused) ∧
      ((∀ i, s.card.image = some i → i.serial ≠ part.card) → refused) ∧
      (∀ i, s.card.writable i → i.serial = part.card →
        let m := min i.purse.balance (max s.options.purseBlock short)
        let own := s.options.station.getD 0
        (i.purse.balance < short → refused) ∧
        (short ≤ i.purse.balance → i.purse.escrow ≠ 0 →
          (i.purse.station ≠ some own ∨ part.tag ≠ some i.purse.tag) → refused) ∧
        (short ≤ i.purse.balance →
          (i.purse.escrow = 0 ∨ (i.purse.station = some own ∧ part.tag = some i.purse.tag)) →
          exec (.feed ps) s = .next { taken with
            job := { s.job with feed := some f }
            card := s.card.writes (.move m) i.slot
              { balance := i.purse.balance - m, escrow := i.purse.escrow + m, counter := i.purse.counter + 1
                station := if i.purse.escrow = 0 then some own else i.purse.station
                tag := if i.purse.escrow = 0 then (i.purse.counter + 1) % 65536 else i.purse.tag } s.timeBase }))) ∧
    (∀ a, c.funding = some .account → c.account = some a → s.job.waiting = [] →
      let request : JobRequest := .topUp (max s.options.accountBlock short) short
      let body : Payload := .topUpRequest
        { hold := a.hold, amount := max s.options.accountBlock short, minimum := short }
      (a.home ≠ a.hold.station →
        let mayAsk : Prop := c.topUp = .none ∨
          ∃ time aged, c.topUp = .refused time aged ∧ (aged = true ∨ 5000 ≤ elapsed s.timeBase time)
        let asked (waiting : List JobRequest) (line : LineUnit) : Prop :=
          exec (.feed ps) s = .next (answered .feed .wait (.free free) { s with
            job := { s.job with ctx := { c with topUp := .pending }, waiting := waiting }, line := line })
        (c.topUp = .pending → exec (.feed ps) s = .next (answered .feed .wait (.free free) s)) ∧
        (c.topUp = .permanent → refused) ∧
        (∀ time, c.topUp = .refused time false → elapsed s.timeBase time < 5000 → refused) ∧
        (mayAsk → s.line.state ≠ .member ∨ s.marksPresent a.home = false →
          exec (.feed ps) s = .next (answered .feed .noFunds .none { s with
            job := { s.job with ctx := { c with topUp := .refused s.timeBase false } } })) ∧
        (mayAsk → s.line.state = .member → s.marksPresent a.home = true →
          (s.slotBusy .job = true → asked [request] s.line) ∧
          (s.slotBusy .job = false → asked [] { s.line with pending := s.line.pending ++
            [{ source := .job, dest := a.home, body := body, attempts := 3, number := 0, awaiting := none }] }))) ∧
      (a.home = a.hold.station →
        (s.ownBusy .job = true →
          exec (.feed ps) s = .next { taken with job := { s.job with feed := some f, waiting := [request] } }) ∧
        (s.ownBusy .job = false →
          exec (.feed ps) s = .next { taken with
            job := { s.job with feed := some f }
            accounts := { taken.accounts with
              arrivals := s.accounts.arrivals ++ [{ origin := .job, body := body }] } })))

/-- An acknowledged move (R12, R88): the image takes the written figures and the other slot, F rises by the amount, the
tag is recorded where it was absent, the checkpoint is written, and the FEED in hand is taken afresh: granted to a
RUNNING job, PATH_FAULT with the funds kept for a HALTED one.
An acknowledgement at the very count of 20 ms is taken (DEDUCED, log 9). -/
def Obligations.AcknowledgedMoveFundsTheFeed : Prop :=
  ∀ (s : State) (record : Nat) (bytes : List Byte) (t0 : TimePoint) (m serial : Nat) (p : Purse) (i : PurseImage)
    (part : PursePart) (f : PendingFeed), s.powered = true → s.port.state = .executing .feed →
    s.card.request = some (.write record bytes, t0) → elapsed s.timeBase t0 ≤ 20 →
    s.card.writing = some { purpose := .move m, purse := p } → s.card.image = some i → s.job.feed = some f →
    s.job.ctx.funding = some .purse → s.job.ctx.serial = some serial → s.job.ctx.purse = some part → s.store.orderly →
    let c := s.job.ctx
    let c1 : JobContext := { c with
      funded := c.funded + m, purse := some { part with tag := some (part.tag.getD p.tag) } }
    let card : CardUnit := { s.card with
      writing := none, request := none
      image := some { i with slot := (match i.slot with | .a => .b | .b => .a), purse := p } }
    let saved : RecordWrite := .checkpoint (some
      { serial := serial, funding := .purse, openingCard := c.openingCard, purse := c1.purse, account := c.account,
        funded := c1.funded, charged := c.charged, delivered := c.delivered, usage := c.usage })
    (c.state = .running → f.reserve ≤ c1.funded - c.charged - c.reserved → s.path.state = .active →
      s.path.queue.length < 6 →
      ∃ t, exec .cardWriteAck s = .next t ∧ t.card = card ∧
        t.job.ctx = { c1 with
          reserved := c.reserved + f.reserve, fed := c.fed + 1
          redone := if f.tag ∈ s.job.lostList.tags then c.redone + 1 else c.redone } ∧
        t.job.feed = none ∧ t.path.queue.length = s.path.queue.length + 1 ∧
        t.holdsResult .feed .granted (.granted (c.fed + 1) f.price f.reserve
          (c1.funded - c.charged - (c.reserved + f.reserve))) ∧
        t.store.writes = s.store.writes ++ [saved] ∧ s.unchangedBut [.port, .card, .job, .path, .store] t) ∧
    (c.state = .halted →
      ∃ t, exec .cardWriteAck s = .next t ∧ t.card = card ∧ t.job = { s.job with ctx := c1, feed := none } ∧
        t.holdsResult .feed .pathFault .none ∧
        t.store.writes = s.store.writes ++ [saved] ∧ s.unchangedBut [.port, .card, .job, .store] t)

/-- CLOSE JOB by the job's state (R19); its result carries the job state after the command (log 13). A job whose path is
empty goes to SETTLING. A purse job (R22): one that moved nothing ends with route CARD; one whose escrow is on its own
card in the slot has the settlement write of C sent there (R91); every other fills its refund-list entry (R93) and ends
with route REFUND LIST. An account or offline job (R23, R153): its final post goes to the account unit of this station,
or to the job unit's slot for another one, with one attempt for an offline job and three else; outside MEMBER it fills
its reserved outbound place (R155) and the job ends with route QUEUED.
The settlement write acknowledged ends the job with route CARD (R22); unacknowledged, with route REFUND LIST, the card
read again (R89). Every end is that of R24 (`State.jobEnded`).
The amounts and counts stand as the job left them (DEDUCED, log 12); at the very count of 20 ms the acknowledgement and
the deadline are both taken, the one that comes first ending the write (DEDUCED, log 9); the job unit's place at the
account unit stands in one list with the peers' (DEDUCED, log 16). -/
def Obligations.CloseJobByTheJobState : Prop :=
  (∀ (s : State), s.accepts →
    (s.job.ctx.state = .none → exec (.closeJob []) s = .next (answered .closeJob .noJob .none s)) ∧
    (s.job.ctx.state = .authorising → exec (.closeJob []) s = .next (answered .closeJob .wrongState .none s)) ∧
    (s.job.ctx.state = .draining ∨ s.job.ctx.state = .settling →
      exec (.closeJob []) s = .next (answered .closeJob .ok (.jobState s.job.ctx.state) s)) ∧
    (s.job.ctx.state = .running → s.path.queue ≠ [] →
      ∃ t, exec (.closeJob []) s = .next t ∧ t.holdsResult .closeJob .ok (.jobState .draining) ∧
        t.job = { s.job with ctx := { s.job.ctx with state := .draining, closeReason := some .closed } } ∧
        (discardResult s).unchangedBut [.port, .job] t) ∧
    (∀ n k, (s.job.ctx.state = .running ∧ s.path.queue = []) ∨ s.job.ctx.state = .halted →
      s.job.ctx.serial = some n → s.job.ctx.funding = some k →
      let c := s.job.ctx
      let settling (changed : List Block) (t : State) : Prop :=
        t.holdsResult .closeJob .ok (.jobState .settling) ∧
        t.job = { s.job with ctx := { c with state := .settling, closeReason := some .closed }, postDue := none } ∧
        (discardResult s).unchangedBut changed t
      let ended (route : Route) (t : State) : Prop :=
        t.holdsResult .closeJob .ok (.jobState .none) ∧ (discardResult s).jobEnded n k route (some .closed) t ∧
        (discardResult s).unchangedBut [.port, .job, .meter, .card, .settle, .line, .path, .store] t
      (k = .purse → c.funded = 0 →
        ∃ t, exec (.closeJob []) s = .next t ∧ ended .card t ∧ t.card = { s.card with refundReserved := false } ∧
          t.settle = { s.settle with reservedJob := false }) ∧
      (∀ card tag, k = .purse → c.funded ≠ 0 → c.purse = some { card := card, tag := some tag } →
        (∀ i, s.settleable card tag c.charged i →
          ∃ t, exec (.closeJob []) s = .next t ∧ settling [.port, .job, .card] t ∧
            t.card = s.card.writes .jobSettlement i.slot (i.purse.settledTo c.charged) s.timeBase) ∧
        ((∀ i, ¬ s.settleable card tag c.charged i) →
          let list := withEntry card tag c.charged s.card.refunds
          ∃ t, exec (.closeJob []) s = .next t ∧ ended .refundList t ∧
            t.card = { s.card with refunds := list, refundReserved := false } ∧
            t.settle = { s.settle with reservedJob := false } ∧ .refunds list ∈ t.store.writes)) ∧
      (∀ a, k = .account ∨ k = .offline → c.account = some a → s.job.waiting = [] →
        let post : PostFields :=
          { hold := a.hold, account := a.number, charged := c.charged, usage := c.usage, final := true
            offline := decide (k = .offline) }
        (a.home = a.hold.station → s.ownBusy .job = false →
          ∃ t, exec (.closeJob []) s = .next t ∧ settling [.port, .job, .accounts] t ∧
            t.accounts = { (discardResult s).accounts with
              arrivals := s.accounts.arrivals ++ [{ origin := .job, body := .post post }] }) ∧
        (a.home ≠ a.hold.station → s.line.state = .member → s.slotBusy .job = false →
          ∃ t, exec (.closeJob []) s = .next t ∧ settling [.port, .job, .line] t ∧
            t.line = { s.line with pending := s.line.pending ++
              [{ source := .job, dest := a.home, body := .post post, attempts := if k = .offline then 1 else 3
                 number := 0, awaiting := none }] }) ∧
        (a.home ≠ a.hold.station → s.line.state ≠ .member → s.slotBusy .job = false →
          let queue := withOutbound
            (.finalPost a.home a.hold a.number c.charged c.usage a.acked (decide (k = .offline))) s.settle.queue
          ∃ t, exec (.closeJob []) s = .next t ∧ ended .queued t ∧
            t.settle = { s.settle with queue := queue, reservedJob := false } ∧
            t.card = { s.card with refundReserved := false } ∧ .outbound queue ∈ t.store.writes)))) ∧
  (∀ (s : State) (record card tag n : Nat) (bytes : List Byte) (p : Purse) (i : PurseImage) (t0 : TimePoint),
    s.powered = true → s.card.request = some (.write record bytes, t0) →
    s.card.writing = some { purpose := .jobSettlement, purse := p } → s.card.image = some i →
    s.job.ctx.state = .settling → s.job.ctx.serial = some n → s.job.ctx.funding = some .purse →
    s.job.ctx.purse = some { card := card, tag := some tag } →
    (elapsed s.timeBase t0 ≤ 20 → s.job.ctx.closeReason ≠ some .interrupted →
      ∃ t, exec .cardWriteAck s = .next t ∧ s.jobEnded n .purse .card s.job.ctx.closeReason t ∧
        t.card = { s.card with
          writing := none, request := none, refundReserved := false
          image := some { i with slot := (match i.slot with | .a => .b | .b => .a), purse := p } } ∧
        s.unchangedBut [.port, .job, .meter, .card, .settle, .line, .path, .store] t) ∧
    (20 ≤ elapsed s.timeBase t0 →
      let list := withEntry card tag s.job.ctx.charged s.card.refunds
      ∃ t, exec .cardAnswerDeadline s = .next t ∧ s.jobEnded n .purse .refundList s.job.ctx.closeReason t ∧
        t.card = { s.card with
          state := .reading 0, identity := none, record1 := none, image := none, writing := none, resolving := false
          request := some (.read 0, s.timeBase), refunds := list, refundReserved := false } ∧
        .refunds list ∈ t.store.writes ∧
        s.unchangedBut [.port, .job, .meter, .card, .settle, .line, .path, .store] t))

/-- A periodic post that falls due (R21, R149): the next is due 30 s after it was; the post joins the account unit of
this station, or the job unit's slot for another station, and outside MEMBER it is skipped.
The job unit's place at the account unit stands in one list with the peers' (DEDUCED, log 16). -/
def Obligations.PeriodicPostGoesToItsHome : Prop :=
  ∀ (s : State) (a : AccountPart) (due : TimePoint), s.powered = true → s.job.ctx.funding = some .account →
    (s.job.ctx.state = .running ∨ s.job.ctx.state = .halted ∨ s.job.ctx.state = .draining) →
    s.job.postDue = some due → reached s.timeBase due = true → s.job.ctx.account = some a → s.job.waiting = [] →
    let post : Payload := .post
      { hold := a.hold, account := a.number, charged := s.job.ctx.charged, usage := s.job.ctx.usage, final := false,
        offline := false }
    let later : JobUnit := { s.job with postDue := some (due + 30000#32) }
    (a.home = a.hold.station → s.ownBusy .job = false →
      exec .periodicPostDue s = .next { s with
        job := later,
        accounts := { s.accounts with arrivals := s.accounts.arrivals ++ [{ origin := .job, body := post }] } }) ∧
    (a.home ≠ a.hold.station → s.line.state = .member → s.slotBusy .job = false →
      exec .periodicPostDue s = .next { s with
        job := later,
        line := { s.line with pending := s.line.pending ++
          [{ source := .job, dest := a.home, body := post, attempts := 3, number := 0, awaiting := none }] } }) ∧
    (a.home ≠ a.hold.station → s.line.state ≠ .member → exec .periodicPostDue s = .next { s with job := later })

/-! ## The path -/

/-- A due sample (R41, R42, R43): each sensor reads COVERED above its threshold code, 8 without a profile, the door
OPEN or CLOSED; a reading equal to the filtered state sets the count to 0, the first two that differ raise it, the third
sets it to 0 and makes the edge, stamped with the time. The filtered state changes when the edge is taken (log 8). The
next sample is due one period later. -/
def Obligations.SampleFiltersAllSixInputs : Prop :=
  ∀ (s : State) (l : Levels) (door : DoorReading), s.powered = true → reached s.timeBase s.path.sampleDue = true →
    s.path.filters.waiting = false → s.path.settling ≠ some 0 →
    let after (f : Filter) (reading : Bool) (g : Filter) : Prop :=
      g.on = f.on ∧
      (reading = f.on → g.count = 0 ∧ g.edge = f.edge) ∧
      (reading ≠ f.on → f.count < 2 → g.count = f.count + 1 ∧ g.edge = f.edge) ∧
      (reading ≠ f.on → 2 ≤ f.count → g.count = 0 ∧ g.edge = some s.timeBase)
    let th (pick : Profile → Nat) : Nat := (s.path.profile.map pick).getD 8
    ∃ t, exec (.sensorSample l door) s = .next t ∧
      after s.path.filters.feed (decide (th Profile.thFeed < l.feed)) t.path.filters.feed ∧
      after s.path.filters.reg (decide (th Profile.thReg < l.reg)) t.path.filters.reg ∧
      after s.path.filters.fuse (decide (th Profile.thFuse < l.fuse)) t.path.filters.fuse ∧
      after s.path.filters.duplex (decide (th Profile.thDuplex < l.duplex)) t.path.filters.duplex ∧
      after s.path.filters.exit (decide (th Profile.thExit < l.exit)) t.path.filters.exit ∧
      after s.path.filters.door (decide (door = .opened)) t.path.filters.door ∧
      t.path.lastSample = s.timeBase ∧
      t.path.sampleDue = s.timeBase + (if s.path.state = .idle then 20#32 else 1#32) ∧
      t.path.settling = s.path.settling.map (fun n => n - 1) ∧ t.path.state = s.path.state ∧
      t.path.queue = s.path.queue ∧ t.path.jam = s.path.jam ∧ t.path.purgeCount = s.path.purgeCount ∧
      t.path.profile = s.path.profile ∧ s.unchangedBut [.path] t

/-- Edges out of ACTIVE change only the filtered state of their input (R44), but in FAULT an edge that makes path clear
true raises PATH CLEAR with the edge's time (R64). In ACTIVE a door-closed edge changes only the door's filtered
state.
Edges are taken one by one, each a command of its own (DEDUCED, log 8). -/
def Obligations.EdgesOutOfActiveFlipTheirFilter : Prop :=
  ∀ (s : State) (time : TimePoint), s.powered = true → s.port.notices.length < 16 →
    let ends (f : Filters) (t : State) : Prop :=
      t.path = { s.path with filters := f } ∧ t.port.state = s.port.state ∧
      t.port.notices = s.port.notices ++
        (if s.path.state = .fault ∧ s.path.filters.clear = false ∧ f.clear = true then
          [{ time := s.timeBase, body := .pathClear time }] else []) ∧
      s.unchangedBut [.path, .port] t
    (∀ x, s.path.state ≠ .active → (s.path.filters.get x).edge = some time →
      let f := s.path.filters.set x { s.path.filters.get x with on := !(s.path.filters.get x).on, edge := none }
      ((s.path.filters.get x).on = false → ∃ t, exec (.leadingEdge x) s = .next t ∧ ends f t) ∧
      ((s.path.filters.get x).on = true → ∃ t, exec (.trailingEdge x) s = .next t ∧ ends f t)) ∧
    (s.path.filters.door.edge = some time →
      let f := { s.path.filters with
        door := { s.path.filters.door with on := !s.path.filters.door.on, edge := none } }
      (s.path.filters.door.on = false → s.path.state ≠ .active → ∃ t, exec .doorOpenEdge s = .next t ∧ ends f t) ∧
      (s.path.filters.door.on = true → ∃ t, exec .doorClosedEdge s = .next t ∧ ends f t))

/-- Tracking in ACTIVE (R52, R54): a leading edge in the window of a record awaiting LEAD there, the first in feed order,
sets its lead time, and it awaits TRAIL in the stay window of its size class; a trailing edge in the stay window short of
EXIT moves the record to its next position, where it awaits LEAD in the segment window from its lead time (R48). Nothing
else changes.
Edges are taken one by one, each a command of its own (DEDUCED, log 8). -/
def Obligations.EdgesInTheirWindowMoveTheSheetOn : Prop :=
  ∀ (s : State) (x : PathSensor) (time : TimePoint) (p : Profile) (r : SheetRecord), s.powered = true →
    s.path.state = .active → s.path.profile = some p → (s.path.filters.get x).edge = some time →
    let f := s.path.filters.set x { s.path.filters.get x with on := !(s.path.filters.get x).on, edge := none }
    let inWindow : Prop := reached time r.earliest = true ∧ beyond time r.latest = false
    let replaced (r1 : SheetRecord) : List SheetRecord := s.path.queue.map fun y => if y.number = r.number then r1 else y
    let low (n : Nat) : BitVec 32 := BitVec.ofNat 32 (n * (100 - p.tolerance) / 100)
    let high (n : Nat) : BitVec 32 := BitVec.ofNat 32 (n * (100 + p.tolerance) / 100)
    let stay := if r.sheet.size = .std then p.stayStd else p.stayLarge
    (∀ before rest, (s.path.filters.get x).on = false → s.path.queue = before ++ r :: rest →
      r.awaits = .lead → r.sensor = some x → inWindow →
      (∀ y ∈ before, ¬ (y.awaits = .lead ∧ y.sensor = some x ∧ reached time y.earliest = true ∧
        beyond time y.latest = false)) →
      exec (.leadingEdge x) s = .next { s with path := { s.path with
        filters := f
        queue := replaced { r with
          leadTime := some time, awaits := .trail, earliest := time + low stay, latest := time + high stay } } }) ∧
    (∀ before rest next lead, (s.path.filters.get x).on = true → s.path.queue = before ++ r :: rest →
      r.awaits = .trail → r.sensor = some x → inWindow →
      (∀ y ∈ before, ¬ (y.awaits = .trail ∧ y.sensor = some x)) → (route r.sheet.faces)[r.position]? = some next →
      r.leadTime = some lead →
      exec (.trailingEdge x) s = .next { s with path := { s.path with
        filters := f
        queue := replaced { r with
          position := r.position + 1, awaits := .lead
          earliest := lead + low (p.segment x next), latest := lead + high (p.segment x next) } } })

/-- A trailing edge at EXIT in the stay window delivers the sheet (R16, R35, R54, R163): C rises by
round(D + P) − round(D), D by P, Rp falls by R, the usage record and the meters count the sheet, the checkpoint is written
and the record leaves the path queue. The job is RUNNING. Of the writes that follow, the checkpoint's is submitted first,
as in the worked sequence 11.4 (DEDUCED, log 46); the meters' follows where a counter changed (R164, R165).
The edge is a command of its own (DEDUCED, log 8), and a meter write that waits already takes the new counters when it
begins (DEDUCED, log 38). -/
def Obligations.ExitDeliversAndCharges : Prop :=
  ∀ (s : State) (time : TimePoint) (r : SheetRecord) (before rest : List SheetRecord) (k : Checkpoint),
    s.powered = true → s.path.state = .active → s.path.filters.exit.on = true →
    s.path.filters.exit.edge = some time → s.path.queue = before ++ r :: rest → r.awaits = .trail →
    (∀ y ∈ before, ¬ (y.awaits = .trail ∧ y.sensor = some .exit)) →
    r.position = (if r.sheet.faces = 2 then 7 else 4) → reached time r.earliest = true → beyond time r.latest = false →
    s.job.ctx.state = .running → s.job.ctx.checkpoint = some k → s.store.orderly →
    let c := s.job.ctx
    let paid := (c.delivered + r.price + 50) / 100 - (c.delivered + 50) / 100
    let used : Usage :=
      { stdMono := if r.sheet.size = .std ∧ r.sheet.mode = .mono then r.sheet.faces else 0
        stdColour := if r.sheet.size = .std ∧ r.sheet.mode = .colour then r.sheet.faces else 0
        largeMono := if r.sheet.size = .large ∧ r.sheet.mode = .mono then r.sheet.faces else 0
        largeColour := if r.sheet.size = .large ∧ r.sheet.mode = .colour then r.sheet.faces else 0
        duplex := if r.sheet.faces = 2 then 1 else 0, sheets := 1 }
    let counters := MetersOf.zip Counter.add
      { MetersOf.zero with
        usage := used
        charged := { purse := if c.funding = some .purse then paid else 0
                     account := if c.funding = some .account then paid else 0
                     offline := if c.funding = some .offline then paid else 0 } } s.meter.record.counters
    ∃ t, exec (.trailingEdge .exit) s = .next t ∧
      t.job = { s.job with ctx := { c with
        charged := c.charged + paid, delivered := c.delivered + r.price, reserved := c.reserved - r.reserve
        usage := UsageOf.zip (· + ·) c.usage used } } ∧
      t.path = { s.path with
        filters := { s.path.filters with exit := { s.path.filters.exit with on := false, edge := none } }
        queue := s.path.queue.filter fun y => y.number != r.number } ∧
      t.meter = { s.meter with record := { s.meter.record with counters := counters } } ∧
      (let saved : RecordWrite := .checkpoint (some { k with
        charged := c.charged + paid, delivered := c.delivered + r.price, usage := UsageOf.zip (· + ·) c.usage used })
       (t.store.writes = s.store.writes ++ [saved] ∨
         t.store.writes = s.store.writes ++ [saved, .meters t.meter.record]) ∧
       (counters ≠ s.meter.record.counters → (∀ w ∈ s.store.writes, w.isMeters = false) →
         t.store.writes = s.store.writes ++ [saved, .meters t.meter.record])) ∧
      t.store.records = s.store.records ∧ s.unchangedBut [.job, .path, .meter, .store] t

/-- The jams of ACTIVE (R52, R53, R55, R56, R57, R58): a door-open edge declares DOOR; a passed deadline LATE or STAY at the
record's sensor; a leading edge in no window LATE on the first overdue record awaiting it, else EARLY on the first record
awaiting it, else STRAY; a trailing edge STRAY without a record, SHORT before and STAY after the stay window. Every jam
loses every sheet of the path and halts the job (`State.jammed`: R17, R18, R58, R64).
Edges are taken one by one (DEDUCED, log 8), and the jam's time is the time base at its declaration, not the edge's
stamp (DEDUCED, log 31). -/
def Obligations.JamsLoseEverySheetInThePath : Prop :=
  ∀ (s : State), s.powered = true → s.path.state = .active → s.job.lostList.tags.length ≤ 12 →
    let named (r : SheetRecord) : Option (Nat × Tag) := some (r.number, r.tag)
    let flipped (x : PathSensor) : Filters :=
      s.path.filters.set x { s.path.filters.get x with on := !(s.path.filters.get x).on, edge := none }
    (∀ time, s.path.filters.door.on = false → s.path.filters.door.edge = some time →
      ∃ t, exec .doorOpenEdge s = .next t ∧
        s.jammed { s.path.filters with door := { s.path.filters.door with on := true, edge := none } } .door .door none t) ∧
    (∀ r before rest x, s.path.queue = before ++ r :: rest → (∀ y ∈ before, y.number ≠ r.number) →
      beyond s.timeBase r.latest = true → r.sensor = some x →
      ∃ t, exec (.windowDeadline r.number) s = .next t ∧
        s.jammed s.path.filters (if r.awaits = .lead then .late else .stay) (.sensor x) (named r) t) ∧
    (∀ x time, (s.path.filters.get x).on = false → (s.path.filters.get x).edge = some time →
      let waiting := s.path.queue.filter fun y => y.awaits == .lead && y.sensor == some x
      (∀ y ∈ waiting, ¬ (reached time y.earliest = true ∧ beyond time y.latest = false)) →
      (∀ r, (waiting.find? fun y => beyond time y.latest) = some r →
        ∃ t, exec (.leadingEdge x) s = .next t ∧ s.jammed (flipped x) .late (.sensor x) (named r) t) ∧
      (∀ r rest, waiting = r :: rest → (∀ y ∈ waiting, beyond time y.latest = false) →
        ∃ t, exec (.leadingEdge x) s = .next t ∧ s.jammed (flipped x) .early (.sensor x) (named r) t) ∧
      (waiting = [] → ∃ t, exec (.leadingEdge x) s = .next t ∧ s.jammed (flipped x) .stray (.sensor x) none t)) ∧
    (∀ x time, (s.path.filters.get x).on = true → (s.path.filters.get x).edge = some time →
      let found := s.path.queue.find? fun y => y.awaits == .trail && y.sensor == some x
      (found = none → ∃ t, exec (.trailingEdge x) s = .next t ∧ s.jammed (flipped x) .stray (.sensor x) none t) ∧
      (∀ r, found = some r → reached time r.earliest = false →
        ∃ t, exec (.trailingEdge x) s = .next t ∧ s.jammed (flipped x) .short (.sensor x) (named r) t) ∧
      (∀ r, found = some r → reached time r.earliest = true → beyond time r.latest = true →
        ∃ t, exec (.trailingEdge x) s = .next t ∧ s.jammed (flipped x) .stay (.sensor x) (named r) t))

/-- PURGE START and SERVICE CLEAR by the path state (R68, R73), each with everything they change: a PURGE START that is
taken moves the path monitor to PURGING with the purge count as it is, a SERVICE CLEAR that is taken sets the count to 0
and enters FAULT, where path clear raises PATH CLEAR. SERVICE CLEAR does not return the path to service. -/
def Obligations.PurgeStartAndServiceClearByPathState : Prop :=
  ∀ (s : State), s.accepts →
    (s.path.state ≠ .fault → exec (.purgeStart []) s = .next (answered .purgeStart .wrongState .none s)) ∧
    (s.path.state = .fault → s.path.filters.door.on = true →
      exec (.purgeStart []) s = .next (answered .purgeStart .doorOpen .none s)) ∧
    (s.path.state = .fault → s.path.filters.door.on = false →
      ∃ t, exec (.purgeStart []) s = .next t ∧ t.holdsResult .purgeStart .ok (.purgeCount s.path.purgeCount) ∧
        t.path = { s.path with state := .purging } ∧ t.port.notices = s.port.notices ∧
        (discardResult s).unchangedBut [.port, .path] t) ∧
    (s.path.state ≠ .service → exec (.serviceClear []) s = .next (answered .serviceClear .wrongState .none s)) ∧
    (s.path.state = .service → s.path.filters.clear = false →
      exec (.serviceClear []) s = .next (answered .serviceClear .pathNotClear .none s)) ∧
    (s.path.state = .service → s.path.filters.clear = true → s.port.notices.length < 16 →
      ∃ t, exec (.serviceClear []) s = .next t ∧ t.holdsResult .serviceClear .ok .none ∧
        t.path = { s.path with state := .fault, purgeCount := 0 } ∧
        t.port.notices = s.port.notices ++ [{ time := s.timeBase, body := .pathClear s.timeBase }] ∧
        (discardResult s).unchangedBut [.port, .path] t)

/-- PURGE END (R70): refused WRONG_STATE out of PURGING; taken, it starts the settling wait of three samples, the port
EXECUTING. At its end the purge is judged by path clear on the filtered states (R71): clear, FAULT with PATH CLEAR; not
clear for the first or second time, FAULT; for the third, SERVICE with its notice (R72). -/
def Obligations.PurgeIsJudgedByPathClear : Prop :=
  ∀ (s : State),
    (s.accepts → s.path.state ≠ .purging → exec (.purgeEnd []) s = .next (answered .purgeEnd .wrongState .none s)) ∧
    (s.accepts → s.path.state = .purging →
      ∃ t, exec (.purgeEnd []) s = .next t ∧ t.port.state = .executing .purgeEnd ∧
        t.path = { s.path with settling := some 3 } ∧ (discardResult s).unchangedBut [.port, .path] t) ∧
    (s.powered = true → s.port.state = .executing .purgeEnd → s.path.state = .purging → s.path.settling = some 0 →
      s.path.filters.waiting = false → s.port.notices.length < 16 →
      let n := s.path.purgeCount
      let states := s.path.filters.states
      ∃ t, exec .purgeSettlingWaitEnd s = .next t ∧ s.unchangedBut [.port, .path] t ∧
        (s.path.filters.clear = true →
          t.path = { s.path with state := .fault, settling := none } ∧
          t.port.notices = s.port.notices ++ [{ time := s.timeBase, body := .pathClear s.timeBase }] ∧
          t.holdsResult .purgeEnd .ok (.purged .clear n states)) ∧
        (s.path.filters.clear = false → n < 2 →
          t.path = { s.path with state := .fault, settling := none, purgeCount := n + 1 } ∧
          t.port.notices = s.port.notices ∧ t.holdsResult .purgeEnd .ok (.purged .notClear (n + 1) states)) ∧
        (s.path.filters.clear = false → n = 2 →
          t.path = { s.path with state := .service, settling := none, purgeCount := 3 } ∧
          t.port.notices = s.port.notices ++ [{ time := s.timeBase, body := .service 3 states }] ∧
          t.holdsResult .purgeEnd .ok (.purged .service 3 states)))

/-- RESUME (R66, R67): WRONG_STATE out of FAULT, PATH_NOT_CLEAR without path clear, changing nothing; taken, the purge
count is 0, a HALTED job without a close reason is RUNNING again with the path ACTIVE, a job that is SETTLING or NONE
stays so with the path IDLE, its next sample due 20 ms after the last one (R42), or at the next count where that has
passed. A sample due at this very count and not taken yet stays due (DEDUCED, log 40). -/
def Obligations.ResumeReturnsPathAndJob : Prop :=
  ∀ (s : State), s.accepts →
    (s.path.state ≠ .fault → exec (.resume []) s = .next (answered .resume .wrongState .none s)) ∧
    (s.path.state = .fault → s.path.filters.clear = false →
      exec (.resume []) s = .next (answered .resume .pathNotClear .none s)) ∧
    (s.path.state = .fault → s.path.filters.clear = true → s.job.ctx.state = .halted → s.job.ctx.closeReason = none →
      ∃ t, exec (.resume []) s = .next t ∧ t.holdsResult .resume .ok (.resumed .active .running) ∧
        t.path = { s.path with state := .active, purgeCount := 0 } ∧
        t.job = { s.job with ctx := { s.job.ctx with state := .running } } ∧ t.port.notices = s.port.notices ∧
        (discardResult s).unchangedBut [.port, .path, .job] t) ∧
    (s.path.state = .fault → s.path.filters.clear = true →
      s.job.ctx.state = .settling ∨ s.job.ctx.state = .none →
      ∃ t, exec (.resume []) s = .next t ∧ t.holdsResult .resume .ok (.resumed .idle s.job.ctx.state) ∧
        t.path.state = .idle ∧ t.path.purgeCount = 0 ∧ t.path.queue = s.path.queue ∧
        t.path.filters = s.path.filters ∧ t.path.jam = s.path.jam ∧ t.path.lastSample = s.path.lastSample ∧
        (reached s.timeBase s.path.sampleDue = true → t.path.sampleDue = s.path.sampleDue) ∧
        (reached s.timeBase s.path.sampleDue = false →
          t.path.sampleDue = (if beyond s.timeBase (s.path.lastSample + 20#32) then s.timeBase + 1#32
            else s.path.lastSample + 20#32)) ∧
        t.port.notices = s.port.notices ∧ (discardResult s).unchangedBut [.port, .path] t)

/-! ## Cards -/

/-- A due sample of the presence switch (R81): agreement sets the count to 0, the third differing sample in a row makes
the insertion or removal, which flips the filtered state when it is taken (log 8). An insertion in EMPTY starts a reading
at record 0 (R85); in any other state it changes only the filtered state.
A removal out of EMPTY (R87): EMPTY, the image absent, the removed notice with the serial where one was known. The
removal of the opening card of a RUNNING job with sheets in the path makes it DRAINING with close reason CARD_REMOVED
(R20); a removal during a move leaves F as it was, ends the FEED CARD_LOST and makes it DRAINING with CARD_LOST (R12).
A query that still waits for the controller's slot then is kept, its answer not acted on (DESIGN CHOICE, log 47). -/
def Obligations.CardsComeAndGoByTheSwitch : Prop :=
  (∀ (s : State) (p : Presence), s.powered = true → reached s.timeBase s.card.presenceDue = true →
    s.card.presence.edge = none →
    let f := s.card.presence
    let differs := decide (p = .present) ≠ f.on
    exec (.cardPresenceSample p) s = .next { s with card := { s.card with
      presence :=
        if differs then (if f.count < 2 then { f with count := f.count + 1 }
          else { f with count := 0, edge := some s.timeBase })
        else { f with count := 0 }
      presenceDue := s.timeBase + 5#32
      startSamples := min 3 (s.card.startSamples + 1) } }) ∧
  (∀ (s : State) (time : TimePoint), s.powered = true → s.card.presence.on = false →
    s.card.presence.edge = some time →
    let f : Filter := { s.card.presence with on := true, edge := none }
    (s.card.state = .empty → exec .cardInsertion s = .next { s with card := { s.card with
      presence := f, state := .reading 0, identity := none, record1 := none, image := none, writing := none
      resolving := false, request := some (.read 0, s.timeBase) } }) ∧
    (s.card.state ≠ .empty → exec .cardInsertion s = .next { s with card := { s.card with presence := f } })) ∧
  (∀ (s : State) (time : TimePoint), s.powered = true → s.card.presence.on = true →
    s.card.presence.edge = some time → s.port.notices.length < 16 →
    let serial := s.card.identity.map CardIdentity.serial
    let card : CardUnit := { s.card with
      presence := { s.card.presence with on := false, edge := none }, state := .empty, identity := none, record1 := none
      image := none, writing := none, resolving := false, request := none
      slot := s.card.slot.map CardExchange.stale, waiting := s.card.waiting.map CardExchange.stale }
    let notices := s.port.notices ++ [{ time := s.timeBase, body := .cardRemoved serial }]
    (s.card.state = .ready ∨ (∃ r, s.card.state = .rejected r) → s.card.writing = none →
      (serial = none ∨ s.job.ctx.openingCard ≠ serial ∨ s.job.ctx.state = .none ∨ s.job.ctx.state = .draining ∨
        s.job.ctx.state = .settling) →
      exec .cardRemoval s = .next { s with card := card, port := { s.port with notices := notices } }) ∧
    (∀ n, s.card.state = .ready → s.card.writing = none → serial = some n → s.job.ctx.openingCard = some n →
      s.job.ctx.state = .running → s.path.queue ≠ [] →
      exec .cardRemoval s = .next { s with
        card := card, port := { s.port with notices := notices }
        job := { s.job with ctx := { s.job.ctx with state := .draining, closeReason := some .cardRemoved } } }) ∧
    (∀ m p, s.card.state = .ready → s.card.writing = some { purpose := .move m, purse := p } →
      s.job.ctx.state = .running → s.path.queue ≠ [] → s.port.state = .executing .feed →
      exec .cardRemoval s = .next { s with
        card := card
        port := { s.port with
          notices := notices, refused := 0, held := none
          state := .result { command := some .feed, reason := .cardLost, values := .none } }
        job := { s.job with
          feed := none, ctx := { s.job.ctx with state := .draining, closeReason := some .cardLost } } }))

/-- The reading of a card (R80, R82, R85): record 0 with a bad check is UNREADABLE, with a kind code other than 1 and 2, or
an ACCOUNT card of account 0, UNKNOWN_KIND, of another issuer FOREIGN; a good ACCOUNT card is READY; a good PURSE card goes
on to record 1 and then to record 2. A read with no answer within 20 ms is UNREADABLE.
An answer at the very count of 20 ms is taken (DEDUCED, log 9), and a malformed one ends the reading when it arrives
(DESIGN CHOICE, log 43). -/
def Obligations.ReadAnswersJudgeTheCard : Prop :=
  ∀ (s : State) (n : Nat) (t0 : TimePoint), s.powered = true → s.card.request = some (.read n, t0) →
    s.card.state = .reading n → s.card.writing = none → s.job.awaitsCard = false → s.port.notices.length < 16 →
    let rejected (reason : Reason) (id : Option CardIdentity) (t : State) : Prop :=
      t.card = { s.card with
        state := .rejected reason, identity := id, request := none, record1 := none, image := none } ∧
      t.port.state = s.port.state ∧
      t.port.notices = s.port.notices ++
        [{ time := s.timeBase, body := .cardRejected reason (id.map CardIdentity.serial) }] ∧
      s.unchangedBut [.card, .port] t
    (20 ≤ elapsed s.timeBase t0 → ∃ t, exec .cardAnswerDeadline s = .next t ∧ rejected .unreadable s.card.identity t) ∧
    (∀ bytes, elapsed s.timeBase t0 ≤ 20 → bytes.length = 16 →
      (n = 0 → s.card.identity = none → onesSum (bytes.take 14) ≠ field bytes 14 2 →
        ∃ t, exec (.cardReadAnswer bytes) s = .next t ∧ rejected .unreadable none t) ∧
      (n = 0 → onesSum (bytes.take 14) = field bytes 14 2 →
        let serial := field bytes 0 4
        let kind := field bytes 4 2
        let account := field bytes 6 2
        let issuer := field bytes 8 2
        (kind ≠ 1 ∧ kind ≠ 2 → ∃ t id, exec (.cardReadAnswer bytes) s = .next t ∧ id.serial = serial ∧
          rejected .unknownKind (some id) t) ∧
        (kind = 2 → account = 0 → ∃ t, exec (.cardReadAnswer bytes) s = .next t ∧
          rejected .unknownKind (some { serial := serial, kind := .account, account := 0 }) t) ∧
        (kind = 1 → issuer ≠ s.options.issuer → ∃ t, exec (.cardReadAnswer bytes) s = .next t ∧
          rejected .isForeign (some { serial := serial, kind := .purse, account := account }) t) ∧
        (kind = 2 → account ≠ 0 → issuer = s.options.issuer → ∃ t, exec (.cardReadAnswer bytes) s = .next t ∧
          t.card = { s.card with
            state := .ready, identity := some { serial := serial, kind := .account, account := account }
            request := none } ∧
          t.port.notices = s.port.notices ++ [{ time := s.timeBase, body := .cardInsertedAccount serial account }] ∧
          s.unchangedBut [.card, .port] t) ∧
        (kind = 1 → issuer = s.options.issuer →
          exec (.cardReadAnswer bytes) s = .next { s with card := { s.card with
            state := .reading 1, identity := some { serial := serial, kind := .purse, account := account }
            request := some (.read 1, s.timeBase) } })) ∧
      (n = 1 → exec (.cardReadAnswer bytes) s = .next { s with card := { s.card with
        state := .reading 2, record1 := some bytes, request := some (.read 2, s.timeBase) } }))

/-- The last record of a PURSE card (R83, R84, R85): the valid slot with the higher counter, A where they are equal, is the
image; with none BAD_PURSE, with the last counter WORN. A card with escrow 0 and no entry of the refund list is READY and
nothing more (R94).
An escrow met at the reading, no job open (R94): the entries of the card's serial that do not match its escrow leave the
refund list. An escrow of this station (R95) is settled by its entry's total, or is ESCROW UNRESOLVED with NO_ENTRY where
no entry names it and with ESCROW_SHORT where its total is above the escrow. One of another station (R96) is unresolved
outside MEMBER (NO_LINE), with that station not PRESENT (STATION_ABSENT) and with no outbound place free (LIST_FULL);
else the card is RESOLVING, a place is reserved, and the query waits in the card controller's slot.
Where more than one condition of R96 fails, the reason is the first of that order (DESIGN CHOICE, log 53), and where
several entries leave the list, one write of the list is submitted (DESIGN CHOICE, log 54). An answer at the very count
of 20 ms is taken (DEDUCED, log 9). -/
def Obligations.CurrentSlotBecomesTheImage : Prop :=
  (∀ a b : Option Purse,
    (∀ p q, a = some p → b = some q → currentSlot a b = some (if p.counter < q.counter then (.b, q) else (.a, p))) ∧
    (∀ p, a = some p → b = none → currentSlot a b = some (.a, p)) ∧
    (∀ q, a = none → b = some q → currentSlot a b = some (.b, q)) ∧
    (a = none → b = none → currentSlot a b = none)) ∧
  (∀ (s : State) (t0 : TimePoint) (id : CardIdentity) (first bytes : List Byte) (slot : SlotName) (p : Purse),
    s.powered = true → s.card.request = some (.read 2, t0) → elapsed s.timeBase t0 ≤ 20 →
    s.card.state = .reading 2 → s.card.identity = some id → s.card.record1 = some first → bytes.length = 16 →
    s.job.awaitsCard = false → s.port.notices.length < 16 →
    (∀ e ∈ s.card.refunds, e.serial ≠ id.serial) →
    (currentSlot (Purse.read first) (Purse.read bytes) = none →
      ∃ t, exec (.cardReadAnswer bytes) s = .next t ∧ t.card.state = .rejected .badPurse ∧ t.card.image = none ∧
        s.unchangedBut [.card, .port] t) ∧
    (currentSlot (Purse.read first) (Purse.read bytes) = some (slot, p) → p.counter = 4294967295 →
      ∃ t, exec (.cardReadAnswer bytes) s = .next t ∧ t.card.state = .rejected .worn ∧ t.card.image = none ∧
        s.unchangedBut [.card, .port] t) ∧
    (currentSlot (Purse.read first) (Purse.read bytes) = some (slot, p) → p.counter ≠ 4294967295 → p.escrow = 0 →
      exec (.cardReadAnswer bytes) s = .next { s with
        card := { s.card with
          state := .ready, request := none, record1 := none
          image := some { serial := id.serial, slot := slot, purse := p } }
        port := { s.port with notices := s.port.notices ++
          [{ time := s.timeBase, body := .cardInsertedPurse id.serial p }] } })) ∧
  (∀ (s : State) (t0 : TimePoint) (id : CardIdentity) (first bytes : List Byte) (slot : SlotName) (p : Purse),
    s.powered = true → s.card.request = some (.read 2, t0) → elapsed s.timeBase t0 ≤ 20 →
    s.card.state = .reading 2 → s.card.identity = some id → s.card.record1 = some first → bytes.length = 16 →
    s.card.writing = none → s.card.resolving = false → s.job.awaitsCard = false → s.job.ctx.state = .none →
    s.store.orderly → s.port.notices.length < 15 →
    currentSlot (Purse.read first) (Purse.read bytes) = some (slot, p) → p.counter < 4294967295 → p.escrow ≠ 0 →
    let own := s.options.station.getD 0
    let i : PurseImage := { serial := id.serial, slot := slot, purse := p }
    let kept := s.card.refunds.filter fun e =>
      decide (e.serial ≠ id.serial ∨ (p.station = some own ∧ e.tag = p.tag))
    let card : CardUnit := { s.card with
      state := .ready, request := none, record1 := none, image := some i, refunds := kept }
    let inserted : Notice := { time := s.timeBase, body := .cardInsertedPurse id.serial p }
    let list (t : State) : Prop :=
      (kept = s.card.refunds → t.store = s.store) ∧
      (kept ≠ s.card.refunds →
        t.store.writes = s.store.writes ++ [.refunds kept] ∧ t.store.records = s.store.records)
    let unresolved (reason : Reason) : Prop :=
      ∃ t, exec (.cardReadAnswer bytes) s = .next t ∧ t.card = card ∧ list t ∧
        t.port = { s.port with notices := s.port.notices ++ [inserted,
          { time := s.timeBase, body := .escrowUnresolved reason id.serial p.escrow p.station p.tag }] } ∧
        s.unchangedBut [.card, .port, .store] t
    (p.station = some own →
      let found := s.card.refunds.find? fun e => e.serial == id.serial && e.tag == p.tag
      (found = none → unresolved .noEntry) ∧
      (∀ e, found = some e → p.escrow < e.charged → unresolved .escrowShort) ∧
      (∀ e, found = some e → e.charged ≤ p.escrow →
        ∃ t, exec (.cardReadAnswer bytes) s = .next t ∧ list t ∧
          t.card = card.writes (.refundEntry id.serial p.tag e.charged) slot (p.settledTo e.charged) s.timeBase ∧
          t.port = { s.port with notices := s.port.notices ++ [inserted] } ∧
          s.unchangedBut [.card, .port, .store] t)) ∧
    (∀ k, p.station = some k → k ≠ own →
      let member := s.line.state = .member
      let present := s.marksPresent k = true
      (¬ member → unresolved .noLine) ∧
      (member → ¬ present → unresolved .stationAbsent) ∧
      (member → present → 16 ≤ s.settle.occupied → unresolved .listFull) ∧
      (member → present → s.settle.occupied < 16 → s.card.slot = none → s.card.waiting = [] →
        ∃ t, exec (.cardReadAnswer bytes) s = .next t ∧ list t ∧
          t.card = { card with resolving := true, slot := some (.query k id.serial p.tag true) } ∧
          t.settle = { s.settle with reservedCard := s.settle.reservedCard + 1 } ∧
          t.line = { s.line with pending := s.line.pending ++
            [{ source := .card, dest := k, body := .escrowQuery { serial := id.serial, tag := p.tag }, attempts := 3
               number := 0, awaiting := none }] } ∧
          t.port = { s.port with notices := s.port.notices ++ [inserted] } ∧
          s.unchangedBut [.card, .port, .store, .settle, .line] t)))

/-- RELEASE ESCROW on a READY purse card with an escrow that is no open job's (R102, R91): an amount above the escrow is
BAD_PARAM; else the settlement write of the amount is sent to the spare slot and the command stays EXECUTING until the
card acknowledges it, and its result carries the amount and the new balance; with no acknowledgement within 20 ms it is
CARD_LOST and the card is read again (R89). Without a card it is refused NO_CARD, without an escrow NO_ESCROW, while the
card is WRITING or RESOLVING WRONG_STATE, and with the escrow of the open purse job JOB_OPEN.
DISCARD REFUND (R101): the entry of the serial and tag leaves the list, which is written; without one NO_ENTRY. Its result
waits with 8 places of the store's queue taken, which counts the write in progress (DEDUCED, log 11).
A wrong number of parameters is judged after the state of the card (DESIGN CHOICE, log 7), and at the very count of 20
ms the acknowledgement and the deadline are both taken, the one that comes first ending the write (DEDUCED, log 9). -/
def Obligations.ReleaseEscrowAndDiscardRefund : Prop :=
  (∀ (s : State) (ps : List Byte), s.accepts → ps.length ≤ 240 →
    (s.card.state = .empty ∨ (∃ n, s.card.state = .reading n) →
      exec (.releaseEscrow ps) s = .next (answered .releaseEscrow .noCard .none s)) ∧
    ((∃ r, s.card.state = .rejected r) →
      exec (.releaseEscrow ps) s = .next (answered .releaseEscrow .cardRejected .none s)) ∧
    (s.card.state = .ready → (∀ i, s.card.image = some i → i.purse.escrow = 0) →
      exec (.releaseEscrow ps) s = .next (answered .releaseEscrow .noEscrow .none s)) ∧
    (∀ i, s.card.state = .ready → s.card.image = some i → i.purse.escrow ≠ 0 →
      (s.card.writing ≠ none ∨ s.card.resolving = true →
        exec (.releaseEscrow ps) s = .next (answered .releaseEscrow .wrongState .none s)) ∧
      (s.card.writing = none → s.card.resolving = false → s.job.ctx.state ≠ .none →
        s.job.ctx.funding = some .purse → i.purse.station = some (s.options.station.getD 0) →
        s.job.ctx.purse = some { card := i.serial, tag := some i.purse.tag } →
        exec (.releaseEscrow ps) s = .next (answered .releaseEscrow .jobOpen .none s)))) ∧
  (∀ (s : State) (i : PurseImage) (kept : Nat), s.accepts → s.card.state = .ready → s.card.image = some i →
    i.purse.escrow ≠ 0 → s.card.writing = none → s.card.resolving = false → s.job.ctx.state = .none →
    i.purse.counter < 4294967295 → kept < 16777216 →
    (i.purse.escrow < kept →
      exec (.releaseEscrow (spell 3 kept)) s = .next (answered .releaseEscrow .badParam .none s)) ∧
    (kept ≤ i.purse.escrow →
      let p : Purse :=
        { balance := min 16777215 (i.purse.balance + i.purse.escrow - kept), escrow := 0, station := none, tag := 0,
          counter := i.purse.counter + 1 }
      ∃ t, exec (.releaseEscrow (spell 3 kept)) s = .next t ∧ t.port.state = .executing .releaseEscrow ∧
        t.card = { s.card with
          writing := some { purpose := .release kept, purse := p }
          request := some (.write (match i.slot with | .a => 2 | .b => 1) p.bytes, s.timeBase) } ∧
        (discardResult s).unchangedBut [.port, .card] t)) ∧
  (∀ (s : State) (i : PurseImage) (kept record : Nat) (bytes : List Byte) (p : Purse) (t0 : TimePoint),
    s.powered = true → s.port.state = .executing .releaseEscrow → s.card.request = some (.write record bytes, t0) →
    s.card.writing = some { purpose := .release kept, purse := p } → s.card.image = some i →
    (∀ e ∈ s.card.refunds, e.serial ≠ i.serial) →
    (elapsed s.timeBase t0 ≤ 20 → ∃ t, exec .cardWriteAck s = .next t ∧
      t.holdsResult .releaseEscrow .ok (.released kept p.balance) ∧
      t.card = { s.card with
        writing := none, request := none
        image := some { i with slot := (match i.slot with | .a => .b | .b => .a), purse := p } } ∧
      s.unchangedBut [.port, .card] t) ∧
    (20 ≤ elapsed s.timeBase t0 → ∃ t, exec .cardAnswerDeadline s = .next t ∧
      t.holdsResult .releaseEscrow .cardLost .none ∧
      t.card = { s.card with
        state := .reading 0, identity := none, record1 := none, image := none, writing := none, resolving := false
        request := some (.read 0, s.timeBase) } ∧
      s.unchangedBut [.port, .card] t)) ∧
  (∀ (s : State) (serial tag : Nat), s.accepts → serial < 4294967296 → tag < 65536 →
    let left := s.card.refunds.filter fun e => !(e.serial == serial && e.tag == tag)
    let c : Instr := .discardRefund (spell 4 serial ++ spell 2 tag)
    (left = s.card.refunds → exec c s = .next (answered .discardRefund .noEntry .none s)) ∧
    (left ≠ s.card.refunds → s.store.orderly →
      ∃ t, exec c s = .next t ∧ t.card = { s.card with refunds := left } ∧
        s.writesAndAnswers .discardRefund (.refunds left) .none t ∧
        (discardResult s).unchangedBut [.port, .card, .store] t))

/-- ESCROW QUERY and ESCROW RELEASE from a peer (R98, R99, R113): a query is answered JOB_OPEN for the open purse job's
card, else with the charged total of the entry of the serial and tag, which becomes CLAIMED, else NONE (sent as NO_ENTRY,
R188); a release removes the entry where one stands and is answered OK either way. The answer goes to the card answer
place with the request's exchange number; while that place is occupied the request is discarded unanswered. -/
def Obligations.EscrowQueriesAndReleasesAreAnswered : Prop :=
  ∀ (s : State) (head : FrameHead) (q : EscrowFields) (n : Nat), s.options.station = some n → s.settle.queue = [] →
    s.store.orderly →
    let mine (e : RefundEntry) : Bool := e.serial == q.serial && e.tag == q.tag
    let roster := markHeard head.source s.line.roster
    let line (body : Payload) : LineUnit := { s.line.heard roster with
      waiting := s.line.waiting ++ [{ place := .cardAnswer, k := 0, frame :=
        { head := { dest := head.source, source := n, exch := head.exch }, body := body } }] }
    let ownJob := s.job.ctx.state ≠ .none ∧ s.job.ctx.funding = some .purse ∧
      s.job.ctx.purse.map PursePart.card = some q.serial
    (s.hears head (.escrowQuery q) →
      (s.placeTaken .cardAnswer = true →
        exec (.escrowQuery head q) s = .next { s with line := s.line.heard roster }) ∧
      (s.placeTaken .cardAnswer = false → ownJob →
        exec (.escrowQuery head q) s = .next { s with
          line := line (.escrowAnswer { status := Reason.jobOpen.code, charged := 0 }) }) ∧
      (s.placeTaken .cardAnswer = false → ¬ ownJob → s.card.refunds.find? mine = none →
        exec (.escrowQuery head q) s = .next { s with
          line := line (.escrowAnswer { status := Reason.noEntry.code, charged := 0 }) }) ∧
      (∀ e, s.placeTaken .cardAnswer = false → ¬ ownJob → s.card.refunds.find? mine = some e →
        ∃ t, exec (.escrowQuery head q) s = .next t ∧
          t.line = line (.escrowAnswer { status := Reason.ok.code, charged := e.charged }) ∧
          (e.state = .claimed → s.unchangedBut [.line] t) ∧
          (e.state = .held →
            let marked := s.card.refunds.map fun x => if mine x then { x with state := .claimed } else x
            t.card = { s.card with refunds := marked } ∧
            t.store.writes = s.store.writes ++ [.refunds marked] ∧ t.store.records = s.store.records ∧
            s.unchangedBut [.line, .card, .store] t))) ∧
    (s.hears head (.escrowRelease q) → s.placeTaken .cardAnswer = true →
      exec (.escrowRelease head q) s = .next { s with line := s.line.heard roster }) ∧
    (s.hears head (.escrowRelease q) → s.placeTaken .cardAnswer = false →
      (s.card.refunds.find? mine = none →
        exec (.escrowRelease head q) s = .next { s with
          line := line (.releaseAnswer { status := Reason.ok.code }) }) ∧
      (s.card.refunds.find? mine ≠ none →
        let left := s.card.refunds.filter fun x => !mine x
        ∃ t, exec (.escrowRelease head q) s = .next t ∧
          t.line = line (.releaseAnswer { status := Reason.ok.code }) ∧ t.card = { s.card with refunds := left } ∧
          t.store.writes = s.store.writes ++ [.refunds left] ∧ t.store.records = s.store.records ∧
          s.unchangedBut [.line, .card, .store] t))

/-- An interrupted job (R187): a start that finds its checkpoint takes the job in SETTLING with close reason INTERRUPTED,
its place reserved, the path IDLE.
A purse job without an escrow tag ends with route CARD; with one it awaits the card controller's first outcome. With no
card once the sample of 15 ms is filtered, with a card that is silent, unreadable or removed while it is read, with an
ACCOUNT card, and with a purse card that carries no escrow, it fills its refund-list entry with C, state HELD, route REFUND LIST. Its own card READY with its
escrow has the settlement write of C sent to it (R91).
An account job of another station, and an offline one, fills its outbound place with its final post, route QUEUED; one of
this station asks the own account unit (R23). A query of the removed card that still waits for the controller's slot is
kept (DESIGN CHOICE, log 47).
The home is this station where it is the station of the hold id, whatever the running number at the start (DEDUCED, log
15); the start writes nothing where CLAIMED entries turn HELD (DEDUCED, log 20); a POWER_ON on a powered part is a power
cycle (DEDUCED, log 4); the amounts and counts stand as the job left them (DEDUCED, log 12); the card wait ends, and a
removal is taken, as commands of their own (DEDUCED, log 8); a malformed answer ends the reading when it arrives (DESIGN
CHOICE, log 43), and one at the very count of 20 ms is taken (DEDUCED, log 9); the job unit's place at the account unit
stands in one list with the peers' (DEDUCED, log 16). -/
def Obligations.InterruptedJobsSettle : Prop :=
  (∀ (s : State) (k : Checkpoint), s.store.records.checkpoint = some k →
    let ctx : JobContext := { JobContext.blank with
      serial := some k.serial, state := .settling, funding := some k.funding, openingCard := k.openingCard
      purse := k.purse, account := k.account, funded := k.funded, charged := k.charged, delivered := k.delivered
      usage := k.usage, closeReason := some .interrupted }
    let ends (route : Route) (t : State) : Prop :=
      t.job.ctx = { ctx with serial := none, state := .none, funding := none, openingCard := none, purse := none
                             account := none, closeReason := none } ∧
      t.port.notices.getLast? = some (Notice.mk 0 (.jobEnd
        { serial := k.serial, delivered := k.usage.sheets, lostNotRedone := 0, charged := k.charged
          funding := k.funding, route := route, closeReason := some .interrupted })) ∧
      t.card.refundReserved = false ∧ t.settle.reservedJob = false ∧
      t.store.writes.getLast? = some (.checkpoint none) ∧ t.store.records = s.store.records ∧ t.path.state = .idle
    (∀ p tag, k.funding = .purse → k.purse = some p → p.tag = some tag →
      ∃ t, exec .powerOn s = .next t ∧ t.job.ctx = ctx ∧ t.job.awaitsCard = true ∧ t.card.refundReserved = true ∧
        t.path.state = .idle ∧ t.store = Store.quiet s.store.records) ∧
    (∀ p, k.funding = .purse → k.purse = some p → p.tag = none →
      ∃ t, exec .powerOn s = .next t ∧ ends .card t) ∧
    (∀ a, k.account = some a →
      let queue := withOutbound (.finalPost a.home a.hold a.number k.charged k.usage a.acked
        (decide (k.funding = .offline))) s.store.records.outbound
      (k.funding = .offline ∨ (k.funding = .account ∧ a.home ≠ a.hold.station) →
        ∃ t, exec .powerOn s = .next t ∧ ends .queued t ∧ t.settle.queue = queue ∧
          .outbound queue ∈ t.store.writes) ∧
      (k.funding = .account → a.home = a.hold.station →
        let post : PostFields :=
          { hold := a.hold, account := a.number, charged := k.charged, usage := k.usage, final := true, offline := false }
        ∃ t, exec .powerOn s = .next t ∧ t.job.ctx = ctx ∧ t.settle.reservedJob = true ∧ t.path.state = .idle ∧
          t.accounts.arrivals = [{ origin := .job, body := .post post }]))) ∧
  (∀ (s : State) (card tag n : Nat), s.powered = true → s.job.awaitsCard = true → s.job.ctx.state = .settling →
    s.job.ctx.purse = some { card := card, tag := some tag } → s.job.ctx.funding = some .purse →
    s.job.ctx.serial = some n → s.port.notices.length < 15 →
    let charged := s.job.ctx.charged
    let listed (c : Instr) (card1 : List RefundEntry → CardUnit) (raised : List NoticeBody) : Prop :=
      let list := withEntry card tag charged s.card.refunds
      ∃ t, exec c s = .next t ∧
        (s.setPort { s.port with notices := s.port.notices ++ raised.map (Notice.mk s.timeBase) }).jobEnded n .purse
          .refundList s.job.ctx.closeReason t ∧
        t.card = card1 list ∧ .refunds list ∈ t.store.writes ∧
        s.unchangedBut [.port, .job, .meter, .card, .settle, .line, .path, .store] t
    (s.card.startSamples = 3 → s.card.presence.on = false → s.card.presence.edge = none → s.card.state = .empty →
      listed .interruptedCardWaitEnd (fun list => { s.card with refundReserved := false, refunds := list }) []) ∧
    (∀ j t0, s.card.state = .reading j → s.card.writing = none → s.card.request = some (.read j, t0) →
      (20 ≤ elapsed s.timeBase t0 →
        listed .cardAnswerDeadline
          (fun list => { s.card with
            state := .rejected .unreadable, request := none, record1 := none, image := none
            refundReserved := false, refunds := list })
          [.cardRejected .unreadable (s.card.identity.map CardIdentity.serial)]) ∧
      (∀ time, s.card.presence.on = true → s.card.presence.edge = some time →
        listed .cardRemoval
          (fun list => { s.card with
            presence := { s.card.presence with on := false, edge := none }, state := .empty, identity := none
            record1 := none, image := none, resolving := false, request := none
            slot := s.card.slot.map CardExchange.stale, waiting := s.card.waiting.map CardExchange.stale
            refundReserved := false, refunds := list })
          [.cardRemoved (s.card.identity.map CardIdentity.serial)]) ∧
      (∀ bytes, j = 0 → elapsed s.timeBase t0 ≤ 20 → bytes.length = 16 →
        (onesSum (bytes.take 14) ≠ field bytes 14 2 →
          listed (.cardReadAnswer bytes)
            (fun list => { s.card with
              state := .rejected .unreadable, request := none, record1 := none, image := none
              refundReserved := false, refunds := list })
            [.cardRejected .unreadable (s.card.identity.map CardIdentity.serial)]) ∧
        (onesSum (bytes.take 14) = field bytes 14 2 → field bytes 4 2 = 2 → field bytes 6 2 ≠ 0 →
          field bytes 8 2 = s.options.issuer →
          listed (.cardReadAnswer bytes)
            (fun list => { s.card with
              state := .ready, request := none, refundReserved := false, refunds := list
              identity := some { serial := field bytes 0 4, kind := .account, account := field bytes 6 2 } })
            [.cardInsertedAccount (field bytes 0 4) (field bytes 6 2)])) ∧
      (∀ id first bytes slot p, j = 2 → elapsed s.timeBase t0 ≤ 20 → s.card.identity = some id →
        s.card.record1 = some first → bytes.length = 16 →
        currentSlot (Purse.read first) (Purse.read bytes) = some (slot, p) → p.counter < 4294967295 →
        (∀ e ∈ s.card.refunds, e.serial ≠ id.serial) →
        let ready : CardUnit := { s.card with
          state := .ready, request := none, record1 := none
          image := some { serial := id.serial, slot := slot, purse := p } }
        let own := s.options.station.getD 0
        (id.serial = card → p.escrow ≠ 0 → p.station = some own → p.tag = tag → charged ≤ p.escrow →
          s.card.resolving = false →
          exec (.cardReadAnswer bytes) s = .next { s with
            card := ready.writes .jobSettlement slot (p.settledTo charged) s.timeBase
            job := { s.job with awaitsCard := false }
            port := { s.port with notices := s.port.notices ++
              [{ time := s.timeBase, body := .cardInsertedPurse id.serial p }] } }) ∧
        (p.escrow = 0 →
          listed (.cardReadAnswer bytes) (fun list => { ready with refundReserved := false, refunds := list })
            [.cardInsertedPurse id.serial p]))))

/-! ## The shop line -/

/-- A ROLL heard (R107, R116, R119): the sender's entry is made or updated in station order, PRESENT with the declared
range, none where first is 0 or above last; every overlap mark is judged again; a change of the own mark raises ROSTER.
It is answered after (own number + 1) × 2 ms where the sender was not PRESENT before or it carries the joining mark, but
not while a ROLL of this station waits already. Each such delay runs on its own beside those that run already (DEDUCED,
log 21), and the station that the ROSTER notice names is another one than this (DEDUCED, log 28). -/
def Obligations.RollUpdatesTheRoster : Prop :=
  ∀ (s : State) (head : FrameHead) (p : RollFields) (n : Nat), s.hears head (.roll p) → s.options.station = some n →
    s.settle.queue = [] →
    let home : Option HomeRange := if p.first = 0 ∨ p.last < p.first then none else some { first := p.first, last := p.last }
    let entries := putSorted RosterEntry.station { station := head.source, present := true, home := home, overlap := false }
      (markHeard head.source s.line.roster)
    let overlapped (e : RosterEntry) : Bool := e.home.any fun h =>
      entries.any fun y => y.station < e.station && y.home.any fun g => h.first ≤ g.last && g.first ≤ h.last
    let judged := entries.map fun e => { e with overlap := overlapped e }
    let known := s.line.roster.any fun e => e.station == head.source && e.present
    ∃ t, exec (.roll head p) s = .next t ∧
      t.line = { s.line.heard judged with
        rollDelays := if (p.joining = true ∨ known = false) ∧ s.placeTaken .roll = false then
          s.line.rollDelays ++ [s.timeBase + BitVec.ofNat 32 ((n + 1) * 2)] else s.line.rollDelays } ∧
      (t.ownOverlap = s.ownOverlap → t.port = s.port) ∧
      (t.ownOverlap ≠ s.ownOverlap → s.port.notices.length < 16 →
        t.port = { s.port with notices := s.port.notices ++
          [{ time := s.timeBase, body := .roster t.ownOverlap t.overlapping }] }) ∧
      s.unchangedBut [.line, .port] t

/-- HOLD REQUEST, TOP-UP REQUEST and POST from a peer (R113): each joins the account input queue with its sender and
exchange number, or is discarded where 8 peers' requests stand in it; nothing else changes but what hearing changes
(R107).
The own units' requests stand in the same list beside those 8 (DEDUCED, log 16), and a request that R106 or R188
discards holds its place until it is taken (DEDUCED, log 26). -/
def Obligations.PeerRequestsJoinTheInputQueue : Prop :=
  ∀ (s : State) (head : FrameHead) (body : Payload),
    ((∃ p, body = .holdRequest p) ∨ (∃ p, body = .topUpRequest p) ∨ (∃ p, body = .post p)) →
    s.hears head body → s.settle.queue = [] →
    let line : LineUnit := s.line.heard (markHeard head.source s.line.roster)
    let peers := (s.accounts.arrivals.filter fun a => a.origin != .job && a.origin != .settlement).length
    (peers < 8 → exec (Instr.ofFrame { head := head, body := body }) s = .next { s with
      line := line
      accounts := { s.accounts with
        arrivals := s.accounts.arrivals ++ [{ origin := .peer head.source head.exch, body := body }] } }) ∧
    (8 ≤ peers → exec (Instr.ofFrame { head := head, body := body }) s = .next { s with line := line })

/-- A frame whose bytes pass every check of R104 is heard as the event it carries; one that fails is discarded and only
leaves the line idle, or changes nothing while this station sends. LINE_BUSY only makes the line busy (R103); in OFF the
receiver is not used (R114).
A run of bytes in which this station has sent is not received, be it good: one in which a frame of its own collided, and
one that ends with the frame it has sent whole (R104, R121; log 45).
An answer that does not match the exchange in progress, or comes with none, is discarded apart from what hearing it
changes (R111, R107); a good frame for another station is heard only (R104).
That bytes given as discarded but forming a good frame are heard as it (DESIGN CHOICE, log 34), and the busy mark
(DESIGN CHOICE, log 23), are the model's. -/
def Obligations.DiscardedFramesChangeNothingElse : Prop :=
  (∀ (s : State) (f : Frame), f.good = true → exec (.frameDiscarded f.bytes) s = exec (Instr.ofFrame f) s) ∧
  (∀ (s : State) (bytes : List Byte), s.powered = true → Frame.read bytes = none →
    (s.line.sending ≠ none → exec (.frameDiscarded bytes) s = .next s) ∧
    (s.line.sending = none → s.line.state ≠ .off →
      exec (.frameDiscarded bytes) s = .next { s with line := s.line.heard s.line.roster }) ∧
    (s.line.state = .off → exec (.frameDiscarded bytes) s = .next s)) ∧
  (∀ s : State, s.powered = true →
    (s.line.state ≠ .off → exec .lineBusy s = .next { s with line := { s.line with
      busy := true, share := if s.line.sending = none then .nothing else s.line.share } }) ∧
    (s.line.state = .off → exec .lineBusy s = .next s)) ∧
  (∀ (s : State) (f : Frame), s.powered = true → s.line.state ≠ .off → s.line.sending = none →
    s.line.share = .part ∨ (s.line.share = .whole ∧ s.own = some f.head.source) →
    exec (Instr.ofFrame f) s = .next { s with line := s.line.heard s.line.roster }) ∧
  (∀ (s : State) (f : Frame), s.powered = true → s.line.state = .joining ∨ s.line.state = .member →
    s.line.sending = none → s.line.share ≠ .part → f.good = true → s.own ≠ some f.head.source → s.settle.queue = [] →
    let heard : State := { s with line := s.line.heard (markHeard f.head.source s.line.roster) }
    (s.own ≠ some f.head.dest → f.head.dest ≠ 63 → exec (Instr.ofFrame f) s = .next heard) ∧
    (((∃ a, f.body = .holdAnswer a) ∨ (∃ a, f.body = .postAnswer a) ∨ (∃ a, f.body = .escrowAnswer a) ∨
        (∃ a, f.body = .releaseAnswer a)) →
      (∀ e, s.line.inProgress = some e →
        e.dest ≠ f.head.source ∨ e.number ≠ f.head.exch ∨ Payload.answeredBy e.body f.body = false) →
      exec (Instr.ofFrame f) s = .next heard))

/-- An answer matched to the job unit's exchange (R111): a HOLD ANSWER to a remote top-up raises F by the least of the
grant, the amount asked and 100,000, sets the top-up state to NONE and raises FUNDS (R15, R151); a HOLD ANSWER to the
first hold opens the job with that F and a discount of at most 50 (R6, R150), its periodic post due after 30 s. -/
def Obligations.HoldAnswerFundsTheJob : Prop :=
  ∀ (s : State) (head : FrameHead) (a : HoldAnswerFields) (e : Exchange) (part : AccountPart) (n : Nat),
    s.hears head (.holdAnswer a) → s.own = some head.dest → s.settle.queue = [] → s.line.inProgress = some e →
    e.source = .job → e.dest = head.source → e.number = head.exch → a.status = Reason.ok.code → 0 < a.granted →
    s.job.waiting = [] → s.job.ctx.account = some part → part.home ≠ part.hold.station → s.job.ctx.serial = some n →
    s.job.ctx.funding = some .account → s.port.notices.length < 16 →
    let c := s.job.ctx
    let line : LineUnit := s.line.ended (markHeard head.source s.line.roster)
    (∀ r, e.body = .topUpRequest r →
      let g := min a.granted (min r.amount 100000)
      ∃ t, exec (.holdAnswer head a) s = .next t ∧ t.line = line ∧
        t.job = { s.job with ctx := { c with funded := c.funded + g, topUp := .none } } ∧
        t.port = { s.port with notices := s.port.notices ++ [{ time := s.timeBase, body := .fundsGranted g }] } ∧
        t.store.records = s.store.records ∧ s.unchangedBut [.line, .job, .port, .store] t) ∧
    (∀ r, e.body = .holdRequest r → s.port.state = .executing .openJob → s.job.removed = false →
      c.state = .authorising →
      let g := min a.granted (min r.amount 100000)
      ∃ t, exec (.holdAnswer head a) s = .next t ∧ t.line = line ∧
        t.job.ctx = { c with
          state := .running, funding := some .account, funded := g, topUp := .none, charged := 0, delivered := 0
          reserved := 0, fed := 0, lost := 0, redone := 0, usage := UsageOf.all 0
          account := some { part with discount := min a.discount 50, acked := 0 } } ∧
        t.job.postDue = some (s.timeBase + 30000#32) ∧
        t.job.lostList = { owner := some n, tags := [], overflow := false } ∧ t.path.state = .active ∧
        t.holdsResult .openJob .ok (.jobOpened n .account g (min a.discount 50)) ∧
        t.store.records = s.store.records ∧ s.unchangedBut [.line, .job, .path, .port, .store] t)

/-- A POST ANSWER matched to the job unit's exchange (R21, R23, R111, R148): to a periodic post, OK makes the acknowledged
amount the answer's figure and LATE further bars top-ups and raises FUNDS (lapsed), each with a checkpoint write, while
NOT_HOME does nothing; to the final post of a SETTLING job, OK or LATE ends the job with route POSTED (`State.jobEnded`),
and any other status does so after a SETTLE notice of the failure with C less the acknowledged amount.
The amounts and counts stand as the job left them (DEDUCED, log 12), and the failure's amount may be negative (DEDUCED,
log 32). -/
def Obligations.PostAnswerAcknowledges : Prop :=
  ∀ (s : State) (head : FrameHead) (a : PostAnswerFields) (e : Exchange) (part : AccountPart) (r : PostFields)
    (k : Checkpoint), s.hears head (.postAnswer a) → s.own = some head.dest → s.settle.queue = [] →
    s.line.inProgress = some e → e.source = .job → e.dest = head.source → e.number = head.exch → e.body = .post r →
    s.job.waiting = [] → s.job.ctx.account = some part → part.home ≠ part.hold.station →
    s.job.ctx.checkpoint = some k → s.store.orderly → s.port.notices.length < 16 →
    let c := s.job.ctx
    let part1 : AccountPart := { part with acked := a.posted }
    let line : LineUnit := s.line.ended (markHeard head.source s.line.roster)
    let saved : RecordWrite := .checkpoint (some { k with account := some part1 })
    (r.final = false → a.status = Reason.ok.code →
      ∃ t, exec (.postAnswer head a) s = .next t ∧ t.line = line ∧
        t.job = { s.job with ctx := { c with account := some part1 } } ∧
        t.store.writes = s.store.writes ++ [saved] ∧ s.unchangedBut [.line, .job, .store] t) ∧
    (r.final = false → a.status = Reason.late.code →
      ∃ t, exec (.postAnswer head a) s = .next t ∧ t.line = line ∧
        t.job = { s.job with ctx := { c with account := some part1, topUp := .permanent } } ∧
        t.port = { s.port with notices := s.port.notices ++ [{ time := s.timeBase, body := .fundsLapsed }] } ∧
        t.store.writes = s.store.writes ++ [saved] ∧ s.unchangedBut [.line, .job, .port, .store] t) ∧
    (r.final = false → a.status = Reason.notHome.code →
      exec (.postAnswer head a) s = .next { s with line := line }) ∧
    (∀ n kind, r.final = true → c.state = .settling → c.serial = some n → c.funding = some kind →
      (a.status = Reason.ok.code ∨ a.status = Reason.late.code →
        ∃ t, exec (.postAnswer head a) s = .next t ∧ s.jobEnded n kind .posted c.closeReason t ∧
          t.line.inProgress = none ∧
          s.unchangedBut [.line, .job, .port, .card, .settle, .meter, .path, .store] t) ∧
      (a.status ≠ Reason.ok.code → a.status ≠ Reason.late.code → s.port.notices.length < 15 →
        let failed : Notice := Notice.mk s.timeBase (.settle
          (.postFailed part.home part.hold part.number a.status ((c.charged : Int) - part.acked)))
        ∃ t, exec (.postAnswer head a) s = .next t ∧
          (s.setPort { s.port with notices := s.port.notices ++ [failed] }).jobEnded n kind .posted c.closeReason t ∧
          t.line.inProgress = none ∧
          s.unchangedBut [.line, .job, .port, .card, .settle, .meter, .path, .store] t))

/-- The answers to the card controller's exchanges (R97, R111): an ESCROW ANSWER with a charged total within the image's
escrow starts the settlement write of R91, the card still RESOLVING; NO_ENTRY ends the resolution with its notice; a
RELEASE ANSWER releases the reserved outbound place. -/
def Obligations.EscrowAnswersEndTheResolution : Prop :=
  ∀ (s : State) (head : FrameHead) (e : Exchange) (k serial tag : Nat), s.own = some head.dest → s.settle.queue = [] →
    s.line.inProgress = some e → e.source = .card → e.dest = head.source → e.number = head.exch →
    s.card.waiting = [] → s.port.notices.length < 16 →
    let line : LineUnit := s.line.ended (markHeard head.source s.line.roster)
    (∀ (a : EscrowAnswerFields) (q : EscrowFields) (i : PurseImage), s.hears head (.escrowAnswer a) →
      e.body = .escrowQuery q → s.card.slot = some (.query k serial tag true) → s.card.state = .ready →
      s.card.writing = none → s.card.resolving = true → s.card.image = some i → i.serial = serial →
      i.purse.counter < 4294967295 →
      (a.status = Reason.ok.code → a.charged ≤ i.purse.escrow →
        let p : Purse :=
          { balance := min 16777215 (i.purse.balance + i.purse.escrow - a.charged), escrow := 0, station := none
            tag := 0, counter := i.purse.counter + 1 }
        exec (.escrowAnswer head a) s = .next { s with
          line := line
          card := { s.card with
            slot := none, writing := some { purpose := .peerAnswer k serial tag a.charged, purse := p }
            request := some (.write (match i.slot with | .a => 2 | .b => 1) p.bytes, s.timeBase) } }) ∧
      (a.status = Reason.noEntry.code →
        exec (.escrowAnswer head a) s = .next { s with
          line := line
          card := { s.card with slot := none, resolving := false }
          settle := { s.settle with reservedCard := s.settle.reservedCard - 1 }
          port := { s.port with notices := s.port.notices ++ [Notice.mk s.timeBase
            (.escrowUnresolved .noEntry serial i.purse.escrow i.purse.station i.purse.tag)] } })) ∧
    (∀ (a : ReleaseAnswerFields) (q : EscrowFields), s.hears head (.releaseAnswer a) → e.body = .escrowRelease q →
      s.card.slot = some (.release k serial tag) →
      exec (.releaseAnswer head a) s = .next { s with
        line := line
        card := { s.card with slot := none }
        settle := { s.settle with reservedCard := s.settle.reservedCard - 1 } })

/-- A good frame from the own station number, in a run in which this station has sent nothing (R120, R121): CONFLICT; nothing waits to be sent, no exchange is in progress or
pending, no peer's request is left, the roster's entries stay, and with no exchange to end the LINE CONFLICT notice is
the one raised.
What this station has sent in the run is a field of the model (DEDUCED, log 45). -/
def Obligations.OwnNumberHeardIsConflict : Prop :=
  ∀ (s : State) (f : Frame), s.powered = true → s.line.state = .joining ∨ s.line.state = .member →
    s.line.sending = none → s.line.share = .nothing → f.good = true → s.own = some f.head.source →
    ∃ t, exec (Instr.ofFrame f) s = .next t ∧ t.line.state = .conflict ∧ t.line.waiting = [] ∧
      t.line.sending = none ∧ t.line.inProgress = none ∧ t.line.pending = [] ∧ t.line.rollDelays = [] ∧
      t.line.roster = s.line.roster ∧ (∀ a ∈ t.accounts.arrivals, ∀ station exch, a.origin ≠ .peer station exch) ∧
      (s.line.inProgress = none → s.line.pending = [] → s.port.notices.length < 16 →
        t.port = { s.port with notices := s.port.notices ++
          [{ time := s.timeBase, body := .lineConflict f.body.kind f.head.dest }] } ∧
        s.unchangedBut [.line, .settle, .accounts, .port] t)

/-- Taking the line (R108, R109, R112, R115): of the waiting frames the one with the earliest start time, of equal times
the one ready first, is sent once the line has been idle that long, an answer after 160 µs, a request or ROLL after 210 µs
and its back-off; sent whole it leaves its place, and a request's answer is awaited from then. A collision raises k; the
eighth fails a request's attempt, and another attempt follows with k at 0; an answer is dropped by it, and a joining ROLL
made ready afresh. The run on the line stays one in which this station has sent bytes, or a frame whole (R104). An answer
ROLL dropped by its eighth collision is not made again (DESIGN CHOICE, log 44).
The idle time is an operand, and the busy mark a field of the model (DESIGN CHOICE, log 23); the run's mark is one too
(DEDUCED, log 45). -/
def Obligations.FramesTakeTheLine : Prop :=
  ∀ (s : State) (n : Nat), s.powered = true → s.options.station = some n →
    let start (f : OutFrame) : Nat :=
      if f.place = .accountAnswer ∨ f.place = .cardAnswer then 160 else if f.k = 0 then 210
      else 210 + 50 * ((n * 7 + f.k * 13) % 32 + 1)
    (∀ before f rest idle, s.line.state = .joining ∨ s.line.state = .member → s.line.sending = none →
      s.line.waiting = before ++ f :: rest → (∀ g ∈ before, start f < start g) → (∀ g ∈ rest, start f ≤ start g) →
      start f ≤ idle →
      exec (.frameSendStart idle) s = .next { s with line := { s.line with
        busy := true, share := .part, sending := some f.place } }) ∧
    (∀ f, s.sendingFrame = some f → s.line.sending = some f.place →
      let left := s.line.waiting.filter fun g => g.place != f.place
      (f.place = .accountAnswer ∨ f.place = .cardAnswer →
        exec .frameSent s = .next { s with line := { s.line with
          sending := none, share := .whole, waiting := left } }) ∧
      (f.place = .request → exec .frameSent s = .next { s with line := { s.line with
        sending := none, share := .whole, waiting := left
        inProgress := s.line.inProgress.map fun e => { e with awaiting := some s.timeBase } } }) ∧
      (f.place = .roll → f.isJoining = true → exec .frameSent s = .next { s with line := { s.line with
        sending := none, share := .whole, waiting := left, joinEnd := some (s.timeBase + 200#32) } }) ∧
      (f.k < 7 → exec .collision s = .next { s with line := { s.line with
        sending := none
        waiting := s.line.waiting.map fun g => if g.place = f.place then { g with k := g.k + 1 } else g } }) ∧
      (∀ e, f.place = .request → 7 ≤ f.k → s.line.inProgress = some e → 1 < e.attempts →
        exec .collision s = .next { s with line := { s.line with
          sending := none, inProgress := some { e with attempts := e.attempts - 1, awaiting := none }
          waiting := left ++ [{ place := .request, k := 0, frame :=
            { head := { dest := e.dest, source := n, exch := e.number }, body := e.body } }] } }) ∧
      (f.place = .accountAnswer ∨ f.place = .cardAnswer ∨ (f.place = .roll ∧ f.isJoining = false) → 7 ≤ f.k →
        exec .collision s = .next { s with line := { s.line with sending := none, waiting := left } }) ∧
      (f.place = .roll → f.isJoining = true → 7 ≤ f.k →
        exec .collision s = .next { s with line := { s.line with
          sending := none, waiting := left ++ [{ f with k := 0 }] } }))

/-- Exchanges (R110, R112): the oldest pending exchange starts with the next exchange number, which wraps after 255, its
request ready with k at 0; 20 ms after its request was sent an attempt fails: the next follows with the same number, or
the last ends the exchange NO_ANSWER with the destination ABSENT, here a top-up of the job unit refused HOME_ABSENT
(R15).
The attempt fails at the count 20 ms after its sending (DEDUCED, log 9). -/
def Obligations.ExchangesStartAndFail : Prop :=
  ∀ (s : State) (n : Nat), s.powered = true → s.options.station = some n →
    let left := s.line.waiting.filter fun g => g.place != .request
    let sending := if s.line.sending = some .request then none else s.line.sending
    let ready (e : Exchange) : List OutFrame :=
      [{ place := .request, k := 0, frame :=
        { head := { dest := e.dest, source := n, exch := e.number }, body := e.body } }]
    (∀ e rest, s.line.inProgress = none → s.line.pending = e :: rest →
      let e1 : Exchange := { e with number := s.line.counter, awaiting := none }
      exec .exchangeStart s = .next { s with line := { s.line with
        inProgress := some e1, pending := rest, counter := (s.line.counter + 1) % 256, sending := sending
        waiting := left ++ ready e1 } }) ∧
    (∀ e sent, s.line.inProgress = some e → e.awaiting = some sent → 20 ≤ elapsed s.timeBase sent →
      (1 < e.attempts →
        let e1 : Exchange := { e with attempts := e.attempts - 1, awaiting := none }
        exec .exchangeAnswerDeadline s = .next { s with line := { s.line with
          inProgress := some e1, sending := sending, waiting := left ++ ready e1 } }) ∧
      (∀ r part, e.attempts ≤ 1 → e.source = .job → e.body = .topUpRequest r → s.job.ctx.account = some part →
        part.home ≠ part.hold.station → s.job.waiting = [] → e.dest ≠ n → s.port.notices.length < 16 →
        exec .exchangeAnswerDeadline s = .next { s with
          line := { s.line with
            inProgress := none, sending := sending, waiting := left
            roster := s.line.roster.map fun x => if x.station = e.dest then { x with present := false } else x }
          job := { s.job with ctx := { s.job.ctx with topUp := .refused s.timeBase false } }
          port := { s.port with notices := s.port.notices ++
            [{ time := s.timeBase, body := .fundsRefused .homeAbsent }] } }))

/-- Joining (R115, R116, R157): when the joining window has run out the line is MEMBER and the first round has begun, the
next due 15 s later; a roll-call delay that has run out makes the answer ROLL ready, with the joining mark clear, unless a
ROLL waits already.
The window ends at the count 200 ms after the ROLL (DEDUCED, log 9), the round begins in the same step (DEDUCED, log
36), and the delays run side by side (DEDUCED, log 21). -/
def Obligations.JoiningEndsInMembership : Prop :=
  ∀ (s : State) (n : Nat), s.powered = true → s.options.station = some n →
    (∀ due, s.line.state = .joining → s.line.joinEnd = some due → reached s.timeBase due = true →
      s.settle.queue = [] → s.settle.trying = none → s.settle.round = none →
      exec .joiningWindowEnd s = .next { s with
        line := { s.line with state := .member, joinEnd := none }
        settle := { s.settle with heard := [], waits := [], roundDue := some (s.timeBase + 15000#32) } }) ∧
    (∀ due rest, s.line.rollDelays = due :: rest → reached s.timeBase due = true →
      (s.placeTaken .roll = false → exec .rollAnswerDelayEnd s = .next { s with line := { s.line with
        rollDelays := rest
        waiting := s.line.waiting ++ [{ place := .roll, k := 0, frame :=
          { head := { dest := 63, source := n, exch := 0 }
            body := .roll { first := (s.options.home.map HomeRange.first).getD 0
                            last := (s.options.home.map HomeRange.last).getD 0, joining := false } } }] } }) ∧
      (s.placeTaken .roll = true → exec .rollAnswerDelayEnd s = .next { s with line := { s.line with
        rollDelays := rest } }))

/-! ## Accounts and holds at the home -/

/-- ACCOUNT ADD, ACCOUNT SET and ACCOUNT REMOVE (R143, R145, R146): their checks in order, each refusal leaving the part as
it was; ADD puts a record at its place in number order, OPEN, every figure and the serial 0; SET replaces limit, discount
and status; REMOVE takes out an account without ACTIVE or LAPSED holds and without a period figure, and returns its
balance and lifetime figures. Each submits the record's write. The status bytes 0 for OPEN and 1 for SUSPENDED are the
model's codes (DESIGN CHOICE, log 5); the result waits with 8 places of the store's queue taken, which counts the write in
progress (DEDUCED, log 11). -/
def Obligations.AccountRecordsAreAddedSetRemoved : Prop :=
  ∀ (s : State) (number limit discount : Nat), s.accepts → s.store.orderly → number < 65536 → limit < 16777216 →
    discount < 256 →
    (∀ balance : Int, -2147483648 ≤ balance → balance < 2147483648 →
      let c : Instr := .accountAdd (spell 2 number ++ spell 3 limit ++ spell 1 discount ++ spell 4 (unsigned32 balance))
      let inRange := number ≠ 0 ∧ limit ≤ 100000 ∧ discount ≤ 50 ∧ -8388608 ≤ balance ∧ balance ≤ 16777215
      let kept := s.options.station ≠ none ∧
        ∃ h, s.options.home = some h ∧ h.first ≤ number ∧ number ≤ h.last
      let refused (r : Reason) : Prop := exec c s = .next (answered .accountAdd r .none s)
      (¬ inRange → refused .badParam) ∧
      (inRange → ¬ kept → refused .notHome) ∧
      (inRange → kept → s.accounts.find number ≠ none → refused .jobOpen) ∧
      (inRange → kept → s.accounts.find number = none → 512 ≤ s.accounts.table.length → refused .tableFull) ∧
      (inRange → kept → s.accounts.find number = none → s.accounts.table.length < 512 →
        let a : Account :=
          { number := number, status := .opened, balance := balance, limit := limit, discount := discount,
            figures := FiguresOf.all { life := 0, period := 0 }, statementSerial := 0 }
        ∃ t, exec c s = .next t ∧
          t.accounts = { (discardResult s).accounts with table := putSorted Account.number a s.accounts.table } ∧
          s.writesAndAnswers .accountAdd (.account number (some a)) .none t ∧
          (discardResult s).unchangedBut [.port, .accounts, .store] t)) ∧
    (∀ status, status < 256 →
      let c : Instr := .accountSet (spell 2 number ++ spell 3 limit ++ spell 1 discount ++ spell 1 status)
      let inRange := limit ≤ 100000 ∧ discount ≤ 50 ∧ status ≤ 1
      (¬ inRange → exec c s = .next (answered .accountSet .badParam .none s)) ∧
      (inRange → s.accounts.find number = none → exec c s = .next (answered .accountSet .noAccount .none s)) ∧
      (∀ a, inRange → s.accounts.find number = some a →
        let a1 : Account := { a with
          limit := limit, discount := discount, status := if status = 0 then .opened else .suspended }
        ∃ t, exec c s = .next t ∧
          t.accounts = { (discardResult s).accounts with table := putSorted Account.number a1 s.accounts.table } ∧
          s.writesAndAnswers .accountSet (.account number (some a1)) .none t ∧
          (discardResult s).unchangedBut [.port, .accounts, .store] t)) ∧
    (let c : Instr := .accountRemove (spell 2 number)
     let open_ := s.accounts.pool.any fun h => h.account == number && (h.state == .active || h.state == .lapsed)
     (s.accounts.find number = none → exec c s = .next (answered .accountRemove .noAccount .none s)) ∧
     (∀ a, s.accounts.find number = some a →
       let due := (FiguresOf.toList a.figures).any fun x => x.period != 0
       (open_ = true → exec c s = .next (answered .accountRemove .holdsOpen .none s)) ∧
       (open_ = false → due = true → exec c s = .next (answered .accountRemove .statementDue .none s)) ∧
       (open_ = false → due = false →
         ∃ t, exec c s = .next t ∧
           t.accounts = { (discardResult s).accounts with
             table := s.accounts.table.filter fun x => x.number != number } ∧
           s.writesAndAnswers .accountRemove (.account number none)
             (.removed a.balance (FiguresOf.map Counter.life a.figures)) t ∧
           (discardResult s).unchangedBut [.port, .accounts, .store] t)))

/-- ACCOUNT CREDIT (R144): an amount outside −100,000..100,000 is BAD_PARAM, an account not in the table NO_ACCOUNT;
otherwise the balance takes the amount, saturating at both ends, whatever the status and the holds, and the result
carries the new balance and the available amount; no figure and no hold changes. The result waits with 8 places of the
store's queue taken, which counts the write in progress (DEDUCED, log 11). -/
def Obligations.AccountCreditMovesTheBalance : Prop :=
  ∀ (s : State) (number : Nat) (amount : Int), s.accepts → s.store.orderly → number < 65536 →
    -2147483648 ≤ amount → amount < 2147483648 →
    let c : Instr := .accountCredit (spell 2 number ++ spell 4 (unsigned32 amount))
    (amount < -100000 ∨ 100000 < amount → exec c s = .next (answered .accountCredit .badParam .none s)) ∧
    (-100000 ≤ amount → amount ≤ 100000 → s.accounts.find number = none →
      exec c s = .next (answered .accountCredit .noAccount .none s)) ∧
    (∀ a, -100000 ≤ amount → amount ≤ 100000 → s.accounts.find number = some a →
      let balance := max (-8388608) (min 16777215 (a.balance + amount))
      let held := ((s.accounts.pool.filter fun h => h.account == number && h.state == .active).map fun h =>
        h.granted - h.posted).sum
      ∃ t, exec c s = .next t ∧
        t.accounts = { (discardResult s).accounts with
          table := putSorted Account.number { a with balance := balance } s.accounts.table } ∧
        s.writesAndAnswers .accountCredit (.account number (some { a with balance := balance }))
          (.credited balance (balance + a.limit - held)) t ∧
        (discardResult s).unchangedBut [.port, .accounts, .store] t)

/-- A HOLD REQUEST at its home.
For a new hold id (R132, R134): a SUSPENDED account refuses it; with 47 holds ACTIVE POOL_FULL (R127); with less available
than the minimum, or a minimum above 100,000, NO_FUNDS with granted 0; else a hold of the least of the amount, the
available amount and 100,000 is made, which lowers available by the grant and never below 0, and the answer waits for the
record's write (R131). Refusals change no record and are answered at once.
For an id with a record (R133): an ACTIVE one is answered again with its grant and the account's discount, and nothing
changes; a LAPSED or SETTLED one is discarded and the request judged as a new one, its hold taking the record's place;
refused, the record is written as free (DEDUCED, log 17).
A hold serial of 0 is an id like any other (DESIGN CHOICE, log 48).
A refusal's fields that no rule states are free values (log 10), and the place and stamp of a record are the model's
(DESIGN CHOICE, log 18). -/
def Obligations.HoldGrantStaysWithinAvailable : Prop :=
  ∀ (s : State) (station exch : Nat) (r : HoldRequestFields) (rest : List Arrival) (a : Account), s.powered = true →
    s.accounts.inHand = none → s.placeTaken .accountAnswer = false → s.line.state = .member →
    s.accounts.arrivals = { origin := .peer station exch, body := .holdRequest r } :: rest →
    r.hold.station ≤ 31 → r.account ≠ 0 → r.amount ≤ 16777215 → r.minimum ≤ 16777215 → s.keeps r.account = true →
    s.accounts.find r.account = some a →
    let m := max 1 r.minimum
    let q := max r.amount m
    let available := s.accounts.available a
    let active := (s.accounts.pool.filter fun h => h.state == .active).length
    let g := min q (min available.toNat 100000)
    let answered (fields : HoldAnswerFields) : LineUnit := { s.line with waiting := s.line.waiting ++
      [OutFrame.mk .accountAnswer
        { head := { dest := station, source := s.own.getD 0, exch := exch }, body := .holdAnswer fields } 0] }
    let held (fields : HoldAnswerFields) : InHand :=
      { arrival := { origin := .peer station exch, body := .holdRequest r }, outstanding := 1, answer := .holdAnswer fields }
    let granted (made : Hold) (pool : List Hold) (t : State) : Prop :=
      t.accounts.pool = pool ++ [made] ∧ made.hold = r.hold ∧ made.account = r.account ∧ made.state = .active ∧
      made.granted = g ∧ made.posted = 0 ∧ made.postedUsage = UsageOf.all 0 ∧
      made.expiry = some (s.timeBase + 120000#32) ∧ t.accounts.table = s.accounts.table ∧ t.accounts.arrivals = rest ∧
      t.accounts.available a = available - g ∧ 0 ≤ t.accounts.available a ∧ m ≤ g ∧
      t.accounts.inHand = some (held { status := Reason.ok.code, granted := g, discount := a.discount }) ∧
      t.store.writes = s.store.writes ++ [.hold made.place (some { made with expiry := none })] ∧
      t.store.records = s.store.records ∧ s.unchangedBut [.accounts, .store] t
    (s.accounts.findHold r.hold = none →
      let refused (x : Reason) : Prop := ∃ t fields, exec .accountRequestTaken s = .next t ∧
        t.accounts = { s.accounts with arrivals := rest } ∧ t.line = answered fields ∧ fields.status = x.code ∧
        (x = .noFunds → fields.granted = 0) ∧ s.unchangedBut [.accounts, .line, .free] t
      (a.status = .suspended → refused .suspended) ∧
      (a.status = .opened → 47 ≤ active → refused .poolFull) ∧
      (a.status = .opened → active < 47 → available < m ∨ 100000 < m → refused .noFunds) ∧
      (a.status = .opened → active < 47 → (m : Int) ≤ available → m ≤ 100000 → s.store.orderly →
        (∃ p, p < 48 ∧ ∀ h ∈ s.accounts.pool, h.place ≠ p) →
        ∃ t made, exec .accountRequestTaken s = .next t ∧ granted made s.accounts.pool t)) ∧
    (∀ before after h, s.accounts.pool = before ++ h :: after → h.hold = r.hold →
      (∀ x ∈ before ++ after, x.hold ≠ r.hold) →
      (h.state = .active →
        exec .accountRequestTaken s = .next { s with
          accounts := { s.accounts with arrivals := rest }
          line := answered { status := Reason.ok.code, granted := h.granted, discount := a.discount } }) ∧
      (h.state ≠ .active → a.status = .opened → active < 47 → (m : Int) ≤ available → m ≤ 100000 →
        s.store.orderly →
        ∃ t made, exec .accountRequestTaken s = .next t ∧ granted made (before ++ after) t ∧ made.place = h.place) ∧
      (h.state ≠ .active → a.status = .suspended → s.store.orderly →
        ∃ t fields, exec .accountRequestTaken s = .next t ∧ fields.status = Reason.suspended.code ∧
          t.accounts = { s.accounts with pool := before ++ after, arrivals := rest, inHand := some (held fields) } ∧
          t.store.writes = s.store.writes ++ [.hold h.place none] ∧ t.store.records = s.store.records ∧
          s.unchangedBut [.accounts, .store, .free] t))

/-- A TOP-UP REQUEST on an ACTIVE hold, of a peer or of the own job unit (R132, R135): the expiry is renewed whatever the
answer. The grant is the least of the amount, the available amount, 100,000 and the room left in the hold, and it lowers
available by itself and never below 0; its answer waits for the hold's write. A SUSPENDED account refuses it; with less
available than the minimum, a minimum above 100,000, or less room than the minimum, NO_FUNDS with granted 0. A refusal
writes nothing and leaves at once. A hold serial of 0 is an id like any other (DESIGN CHOICE, log 48).
A refusal's fields that no rule states are free values (log 10), and the own job unit's request stands in one list with
the peers' (DEDUCED, log 16). -/
def Obligations.TopUpGrantStaysWithinAvailable : Prop :=
  ∀ (s : State) (origin : Origin) (r : TopUpRequestFields) (rest : List Arrival) (a : Account)
    (before after : List Hold) (h : Hold),
    s.powered = true → s.accounts.inHand = none →
    s.accounts.arrivals = { origin := origin, body := .topUpRequest r } :: rest → r.hold.station ≤ 31 →
    origin = .job ∨ (∃ station exch, origin = .peer station exch ∧ s.placeTaken .accountAnswer = false ∧
      s.line.state = .member ∧ s.keeps h.account = true) →
    r.amount ≤ 16777215 → r.minimum ≤ 16777215 → s.accounts.pool = before ++ h :: after → h.hold = r.hold →
    (∀ x ∈ before ++ after, x.hold ≠ r.hold) → h.state = .active → h.posted ≤ h.granted → h.granted ≤ 16777215 →
    s.accounts.find h.account = some a →
    let m := max 1 r.minimum
    let available := s.accounts.available a
    let g := min (min (max r.amount m) (min available.toNat 100000)) (16777215 - h.granted)
    let renewed : Hold := { h with expiry := some (s.timeBase + 120000#32) }
    (a.status = .opened → s.store.orderly → (m : Int) ≤ available → m ≤ 100000 → m ≤ g →
      let h1 : Hold := { renewed with granted := h.granted + g }
      ∃ t, exec .accountRequestTaken s = .next t ∧ t.accounts.pool = before ++ h1 :: after ∧
        t.accounts.table = s.accounts.table ∧ t.accounts.arrivals = rest ∧
        t.accounts.available a = available - g ∧ 0 ≤ t.accounts.available a ∧
        t.accounts.inHand = some
          { arrival := { origin := origin, body := .topUpRequest r }, outstanding := 1
            answer := .holdAnswer { status := Reason.ok.code, granted := g, discount := a.discount } } ∧
        t.store.writes = s.store.writes ++ [.hold h.place (some { h1 with expiry := none })] ∧
        t.store.records = s.store.records ∧ s.unchangedBut [.accounts, .store] t) ∧
    (let refused (x : Reason) : Prop :=
       ∃ t, exec .accountRequestTaken s = .next t ∧
        (s.job.waiting = [] ∨ origin ≠ .job →
          t.accounts = { s.accounts with pool := before ++ renewed :: after, arrivals := rest } ∧
          s.unchangedBut [.accounts, .line, .job, .port, .free] t) ∧
        (∀ station exch, origin = .peer station exch →
          s.unchangedBut [.accounts, .line, .free] t ∧
          ∃ fields, fields.status = x.code ∧ (x = .noFunds → fields.granted = 0) ∧
            t.line = { s.line with waiting := s.line.waiting ++ [OutFrame.mk .accountAnswer
              { head := { dest := station, source := s.own.getD 0, exch := exch }, body := .holdAnswer fields } 0] })
     (a.status = .suspended → refused .suspended) ∧
     (a.status = .opened → available < m ∨ 100000 < m ∨ g < m → refused .noFunds))

/-- A POST to a hold of its account, of a peer, of the own job unit or of the own settlement unit (R137, R138, R139, R140):
only what exceeds the hold's posted figures is applied, each count on its own; the balance falls by the difference,
saturating, the period and lifetime figures rise, the money as late for a LAPSED hold; a final post settles the hold and
counts a job. The answer is OK, LATE for a hold that was LAPSED, with the hold's posted amount, after the hold's and then
the account's write. A post that is not final renews an ACTIVE hold's expiry; where it exceeds nothing, it changes nothing
else and is answered at once. A SETTLED hold absorbs the post. A hold serial of 0 is an id like any other (DESIGN CHOICE,
log 48).
The place and stamp of a record are the model's (DESIGN CHOICE, log 18), and the own units' requests stand in one list
with the peers' (DEDUCED, log 16). -/
def Obligations.PostAppliesWhatExceedsTheHold : Prop :=
  ∀ (s : State) (origin : Origin) (r : PostFields) (rest : List Arrival) (a : Account) (before after : List Hold)
    (h : Hold),
    s.powered = true → s.accounts.inHand = none →
    s.accounts.arrivals = { origin := origin, body := .post r } :: rest → r.hold.station ≤ 31 → r.account ≠ 0 →
    origin = .job ∨ origin = .settlement ∨ (∃ station exch, origin = .peer station exch ∧
      s.placeTaken .accountAnswer = false ∧ s.line.state = .member ∧ s.keeps r.account = true) →
    r.charged ≤ 999999 → s.accounts.pool = before ++ h :: after → h.hold = r.hold →
    (∀ x ∈ before ++ after, x.hold ≠ r.hold) → h.account = r.account → s.accounts.find h.account = some a →
    s.store.orderly →
    let late := decide (h.state = .lapsed)
    let d := r.charged - h.posted
    let exceeds : Prop := h.posted < r.charged ∨ UsageOf.zip max h.postedUsage r.usage ≠ h.postedUsage
    let beyond_ : Usage := UsageOf.zip (fun x y => x - y) r.usage h.postedUsage
    let a1 : Account := { a with
      balance := max (-8388608) (min 16777215 (a.balance - d))
      figures := FiguresOf.zip Counter.add
        { usage := beyond_, charged := d, late := if late then d else 0, jobs := if r.final then 1 else 0 } a.figures }
    let h1 : Hold := { h with posted := max h.posted r.charged, postedUsage := UsageOf.zip max h.postedUsage r.usage }
    let fields (posted : Nat) : PostAnswerFields :=
      { status := if late then Reason.late.code else Reason.ok.code, posted := posted }
    let answers (posted : Nat) (n : Nat) (t : State) : Prop :=
      t.accounts.inHand = some
        { arrival := { origin := origin, body := .post r }, outstanding := n, answer := .postAnswer (fields posted) }
    let answeredAtOnce (accounts : AccountUnit) : Prop :=
      (∀ station exch, origin = .peer station exch →
        exec .accountRequestTaken s = .next { s with
          accounts := accounts
          line := { s.line with waiting := s.line.waiting ++ [OutFrame.mk .accountAnswer
            { head := { dest := station, source := s.own.getD 0, exch := exch }
              body := .postAnswer (fields h.posted) } 0] } }) ∧
      (origin = .settlement → s.settle.trying = none →
        exec .accountRequestTaken s = .next { s with accounts := accounts }) ∧
      (origin = .job → s.job.waiting = [] →
        ∃ t, exec .accountRequestTaken s = .next t ∧ t.accounts = accounts)
    (h.state ≠ .settled → r.final = false → exceeds →
      let h2 : Hold := { h1 with expiry := if late then h.expiry else some (s.timeBase + 120000#32) }
      ∃ t, exec .accountRequestTaken s = .next t ∧ answers (max h.posted r.charged) 2 t ∧
        t.accounts.table = putSorted Account.number a1 s.accounts.table ∧
        t.accounts.pool = before ++ h2 :: after ∧ h.posted ≤ h2.posted ∧
        t.store.writes = s.store.writes ++
          [.hold h.place (some { h2 with expiry := none }), .account a.number (some a1)] ∧
        t.store.records = s.store.records ∧ s.unchangedBut [.accounts, .store] t) ∧
    (h.state ≠ .settled → r.final = false → ¬ exceeds →
      let h2 : Hold := { h with expiry := if late then h.expiry else some (s.timeBase + 120000#32) }
      answeredAtOnce { s.accounts with pool := before ++ h2 :: after, arrivals := rest }) ∧
    (h.state ≠ .settled → r.final = true →
      let h2 : Hold := { h1 with state := .settled, expiry := none, stamp := s.accounts.nextStamp }
      ∃ t, exec .accountRequestTaken s = .next t ∧ answers (max h.posted r.charged) 2 t ∧
        t.accounts.table = putSorted Account.number a1 s.accounts.table ∧
        t.accounts.pool = before ++ after ++ [h2] ∧ h.posted ≤ h2.posted ∧
        t.store.writes = s.store.writes ++ [.hold h.place (some h2), .account a.number (some a1)] ∧
        t.store.records = s.store.records ∧ s.unchangedBut [.accounts, .store] t) ∧
    (h.state = .settled → answeredAtOnce { s.accounts with arrivals := rest })

/-- An offline POST to a hold id with no record (R141): a SETTLED record with granted 0 and the post's figures is made, and
the balance falls by C, which counts as late; without the offline mark the answer is UNKNOWN_HOLD and no record changes.
A hold serial of 0 is an id like any other (DESIGN CHOICE, log 48).
The posted amount of an UNKNOWN_HOLD is a free value (log 10), and the place of a record is the model's (DESIGN CHOICE,
log 18). -/
def Obligations.OfflinePostMakesASettledHold : Prop :=
  ∀ (s : State) (station exch : Nat) (r : PostFields) (rest : List Arrival) (a : Account), s.powered = true →
    s.accounts.inHand = none → s.placeTaken .accountAnswer = false → s.line.state = .member →
    s.accounts.arrivals = { origin := .peer station exch, body := .post r } :: rest → r.hold.station ≤ 31 →
    r.account ≠ 0 → r.charged ≤ 999999 → s.keeps r.account = true → s.accounts.findHold r.hold = none →
    s.accounts.find r.account = some a → s.store.orderly →
    let a1 : Account := { a with
      balance := max (-8388608) (min 16777215 (a.balance - r.charged))
      figures := FiguresOf.zip Counter.add
        { usage := r.usage, charged := r.charged, late := r.charged, jobs := if r.final then 1 else 0 } a.figures }
    (r.offline = true →
      ∃ t made, exec .accountRequestTaken s = .next t ∧ made ∈ t.accounts.pool ∧ made.hold = r.hold ∧
        made.account = r.account ∧ made.state = .settled ∧ made.granted = 0 ∧ made.posted = r.charged ∧
        made.postedUsage = r.usage ∧ made.expiry = none ∧
        t.accounts.table = putSorted Account.number a1 s.accounts.table ∧ t.accounts.arrivals = rest ∧
        t.accounts.inHand = some
          { arrival := { origin := .peer station exch, body := .post r }, outstanding := 2
            answer := .postAnswer { status := Reason.ok.code, posted := r.charged } } ∧
        t.store.writes = s.store.writes ++ [.hold made.place (some made), .account a.number (some a1)] ∧
        s.unchangedBut [.accounts, .store] t) ∧
    (r.offline = false →
      ∃ t fields, exec .accountRequestTaken s = .next t ∧ fields.status = Reason.unknownHold.code ∧
        t.accounts = { s.accounts with arrivals := rest } ∧
        t.line = { s.line with waiting := s.line.waiting ++ [OutFrame.mk .accountAnswer
          { head := { dest := station, source := s.own.getD 0, exch := exch }, body := .postAnswer fields } 0] } ∧
        s.unchangedBut [.accounts, .line, .free] t)

/-- A hold whose expiry the time base has counted beyond lapses (R128): LAPSED, without expiry, at the end of the change
order, its write submitted, its unused part no longer held; no balance changes and no notice is raised.
The lapse comes when the time base first counts beyond the expiry (DEDUCED, log 9), and the place and stamp of a record
are the model's (DESIGN CHOICE, log 18). -/
def Obligations.ExpiredHoldLapses : Prop :=
  ∀ (s : State) (h : Hold) (before after : List Hold) (due : TimePoint), s.powered = true →
    s.accounts.pool = before ++ h :: after → (∀ x ∈ before ++ after, x.hold ≠ h.hold) → h.state = .active →
    h.expiry = some due → beyond s.timeBase due = true → s.store.orderly →
    let h1 : Hold := { h with state := .lapsed, expiry := none, stamp := s.accounts.nextStamp }
    ∃ t, exec (.holdLapse h.hold) s = .next t ∧
      t.accounts = { s.accounts with pool := before ++ after ++ [h1], nextStamp := s.accounts.nextStamp + 1 } ∧
      t.store.writes = s.store.writes ++ [.hold h.place (some h1)] ∧ t.store.records = s.store.records ∧
      (∀ a : Account, a.number = h.account →
        t.accounts.available a = s.accounts.available a + (h.granted - h.posted : Nat)) ∧
      s.unchangedBut [.accounts, .store] t

/-! ## Settlement -/

/-- A round that is due begins (R157, R158, R159): the marks are cleared, the next round is due 15 s later, and the oldest
entry, of another station, is handed to the settlement unit's slot with three attempts, the others to follow; with an empty
queue it ends at once. An entry addressed to this station's own number is handed over here (R156): a FINAL POST to the own
account unit, a try until its answer (DESIGN CHOICE, log 50), an ESCROW RELEASE to the own card controller, which answers
at once.
A good frame from a station with an entry (R158): with its wait mark set nothing; with no round and no try in progress its
oldest entry is tried, triggered; else its heard mark is set.
The outcome of a try (R158, R160): an answer removes the entry, writes the queue and raises SETTLE: a final post done by
OK or LATE, failed by any other status with its charged total less the acknowledged amount; a release done. With
NO_ANSWER the entry stays, its station's wait mark set after a triggered try.
The amount of a failed post may be negative (DEDUCED, log 32), and the own settlement unit's post stands in one list
with the peers' requests (DEDUCED, log 16). -/
def Obligations.OutboundEntriesAreTriedAndSettled : Prop :=
  (∀ (s : State) (due : TimePoint), s.powered = true → s.line.state = .member → s.settle.trying = none →
    s.settle.round = none → s.settle.roundDue = some due → reached s.timeBase due = true →
    (s.settle.queue = [] → exec .outboundRound s = .next { s with settle := { s.settle with
      heard := [], waits := [], roundDue := some (s.timeBase + 15000#32) } }) ∧
    (∀ e rest, s.settle.queue = e :: rest → s.own ≠ some e.dest →
      let body : Payload := match e with
        | .finalPost _ hold account charged usage _ offline =>
            .post { hold := hold, account := account, charged := charged, usage := usage, final := true, offline := offline }
        | .escrowRelease _ serial tag => .escrowRelease { serial := serial, tag := tag }
      exec .outboundRound s = .next { s with
        settle := { s.settle with
          heard := [], waits := [], roundDue := some (s.timeBase + 15000#32)
          round := some (rest.map OutEntry.key), trying := some { key := e.key, triggered := false } }
        line := { s.line with pending := s.line.pending ++
          [{ source := .settlement, dest := e.dest, body := body, attempts := 3, number := 0, awaiting := none }] } })) ∧
  (∀ (s : State) (due : TimePoint) (e : OutEntry), s.powered = true → s.line.state = .member →
    s.settle.trying = none → s.settle.round = none → s.settle.roundDue = some due → reached s.timeBase due = true →
    s.own = some e.dest →
    let begun : SettlementUnit := { s.settle with
      heard := [], waits := [], roundDue := some (s.timeBase + 15000#32) }
    (∀ dest hold account charged usage acked offline rest,
      e = .finalPost dest hold account charged usage acked offline → s.settle.queue = e :: rest →
      let post : PostFields :=
        { hold := hold, account := account, charged := charged, usage := usage, final := true, offline := offline }
      exec .outboundRound s = .next { s with
        settle := { begun with
          round := some (rest.map OutEntry.key), trying := some { key := .finalPost hold, triggered := false } }
        accounts := { s.accounts with
          arrivals := s.accounts.arrivals ++ [{ origin := .settlement, body := .post post }] } }) ∧
    (∀ dest serial tag, e = .escrowRelease dest serial tag → s.settle.queue = [e] → s.store.orderly →
      s.port.notices.length < 16 →
      let left := s.card.refunds.filter fun x => !(x.serial == serial && x.tag == tag)
      ∃ t, exec .outboundRound s = .next t ∧ t.settle = { begun with queue := [] } ∧
        t.card = { s.card with refunds := left } ∧
        t.port = { s.port with notices := s.port.notices ++
          [Notice.mk s.timeBase (.settle (.releaseDone dest serial tag))] } ∧
        t.store.writes = s.store.writes ++
          (if left = s.card.refunds then [.outbound []] else [.refunds left, .outbound []]) ∧
        t.store.records = s.store.records ∧ s.unchangedBut [.settle, .card, .port, .store] t)) ∧
  (∀ (s : State) (f : Frame) (e : OutEntry), s.powered = true → s.line.state = .joining ∨ s.line.state = .member →
    s.line.sending = none → s.line.share ≠ .part → f.good = true → s.own ≠ some f.head.source →
    s.own ≠ some f.head.dest → f.head.dest ≠ 63 →
    (s.settle.queue.find? fun x => x.dest == f.head.source) = some e →
    let line : LineUnit := s.line.heard (markHeard f.head.source s.line.roster)
    (f.head.source ∈ s.settle.waits → exec (Instr.ofFrame f) s = .next { s with line := line }) ∧
    (f.head.source ∉ s.settle.waits → s.line.state = .member → s.settle.round = none → s.settle.trying = none →
      exec (Instr.ofFrame f) s = .next { s with
        settle := { s.settle with trying := some { key := e.key, triggered := true } }
        line := { line with pending := s.line.pending ++
          [{ source := .settlement, dest := e.dest, body := e.body, attempts := 3, number := 0, awaiting := none }] } }) ∧
    (f.head.source ∉ s.settle.waits →
      s.line.state ≠ .member ∨ s.settle.round ≠ none ∨ s.settle.trying ≠ none →
      exec (Instr.ofFrame f) s = .next { s with
        line := line
        settle := { s.settle with heard := putSorted id f.head.source s.settle.heard } })) ∧
  (∀ (s : State) (x : Exchange) (triggered : Bool) (e : OutEntry), s.settle.trying = some { key := e.key, triggered := triggered } →
    (s.settle.queue.find? fun y => y.key == e.key) = some e → (∀ y ∈ s.settle.queue, s.own ≠ some y.dest) →
    s.line.inProgress = some x → x.source = .settlement → x.dest = e.dest → x.body = e.body →
    (∀ head, head.source = x.dest → head.exch = x.number → s.own = some head.dest → s.store.orderly →
      s.port.notices.length < 16 →
      let left := s.settle.queue.filter fun y => y.key != e.key
      let answered (c : Instr) (items : SettleItems) : Prop :=
        ∃ t, exec c s = .next t ∧ t.settle.queue = left ∧
          t.port = { s.port with notices := s.port.notices ++ [Notice.mk s.timeBase (.settle items)] } ∧
          t.store.writes = s.store.writes ++ [.outbound left] ∧ t.store.records = s.store.records ∧
          s.unchangedBut [.line, .settle, .port, .store] t
      (∀ dest hold account charged usage acked offline a,
        e = .finalPost dest hold account charged usage acked offline → s.hears head (.postAnswer a) →
        (a.status = Reason.ok.code ∨ a.status = Reason.late.code →
          answered (.postAnswer head a) (.postDone dest hold account a.status a.posted)) ∧
        (a.status ≠ Reason.ok.code → a.status ≠ Reason.late.code →
          answered (.postAnswer head a) (.postFailed dest hold account a.status ((charged : Int) - acked)))) ∧
      (∀ dest serial tag a, e = .escrowRelease dest serial tag → s.hears head (.releaseAnswer a) →
        answered (.releaseAnswer head a) (.releaseDone dest serial tag))) ∧
    (∀ sent, s.powered = true → x.attempts ≤ 1 → x.awaiting = some sent → 20 ≤ elapsed s.timeBase sent →
      s.line.state = .member → (∀ due, s.settle.roundDue = some due → reached s.timeBase due = false) →
      ∃ t, exec .exchangeAnswerDeadline s = .next t ∧ t.settle.queue = s.settle.queue ∧
        t.settle.waits = (if triggered then putSorted id e.dest s.settle.waits else s.settle.waits) ∧
        t.line.roster = s.line.roster.map (fun y => if y.station = e.dest then { y with present := false } else y) ∧
        s.unchangedBut [.line, .settle] t))

/-! ## Prices and charges -/

/-- The range of a price (R32): with the base prices and coverage percentages of their fields and a duplex percentage of
at most 100, the gross price is at most 334,228 and so is every price, no product of a later stage passes 33,422,800, and
the largest price is reached; a base of 0, a coverage of 0 on a single COLOUR face, and a base of 1 at coverage 50 give
0.
The stages of a price (R29, R30, R31) and the reservation (R34): every multiplication by a percentage is followed by a
division by 100 that truncates, the tier is that of the ordinal, and the reservation is the price rounded up to whole mu.
A higher ordinal never prices by an earlier tier than a lower one. -/
def Obligations.PricesAreBuiltInStagesWithinTheirRange : Prop :=
  (∀ (x : Tariff) (d : Sheet) (n discount : Nat),
    x.stdMono ≤ 65535 → x.stdColour ≤ 65535 → x.largeMono ≤ 65535 → x.largeColour ≤ 65535 → x.light ≤ 255 →
    x.normal ≤ 255 → x.heavy ≤ 255 → x.full ≤ 255 → x.backFace ≤ 100 →
    x.gross d ≤ 334228 ∧ x.price d n discount ≤ 334228 ∧ x.gross d * (100 - x.tier n) ≤ 33422800 ∧
    x.gross d * (100 - x.tier n) / 100 * (100 - discount) ≤ 33422800) ∧
  (∀ (x : Tariff) (n : Nat), x.stdColour = 65535 → x.full = 255 → x.backFace = 100 → x.tier n = 0 →
    x.price { size := .std, mode := .colour, faces := 2, front := 3, back := 3 } n 0 = 334228) ∧
  (∀ (x : Tariff) (d : Sheet) (n discount : Nat),
    (x.base d.size d.mode = 0 → x.price d n discount = 0) ∧
    (d.mode = .colour → d.faces = 1 → x.coverage d.front = 0 → x.price d n discount = 0) ∧
    (d.mode = .colour → d.faces = 1 → x.base d.size .colour = 1 → x.coverage d.front = 50 →
      x.price d n discount = 0)) ∧
  (∀ (x : Tariff) (d : Sheet) (n discount : Nat),
    let base := match d.size, d.mode with
      | .std, .mono => x.stdMono
      | .std, .colour => x.stdColour
      | .large, .mono => x.largeMono
      | .large, .colour => x.largeColour
    let cover (c : Nat) : Nat := match c with
      | 0 => x.light
      | 1 => x.normal
      | 2 => x.heavy
      | _ => x.full
    let face (c : Nat) : Nat := if d.mode = .mono then base else base * cover c / 100
    let gross := face d.front + (if d.faces = 2 then face d.back * x.backFace / 100 else 0)
    let tier := if n ≤ x.t1 then x.d0 else if n ≤ x.t2 then x.d1 else if n ≤ x.t3 then x.d2 else x.d3
    x.price d n discount = gross * (100 - tier) / 100 * (100 - discount) / 100 ∧
    (∀ p, p ≤ 100 * reservation p ∧ 100 * reservation p < p + 100) ∧
    (x.t1 < x.t2 → x.t2 < x.t3 → x.d0 ≤ x.d1 → x.d1 ≤ x.d2 → x.d2 ≤ x.d3 → ∀ k, n ≤ k →
      x.price d k discount ≤ x.price d n discount))

/-! ## Laws that every step keeps -/

/-- The two laws of rounding (R36): from every state in which C = (D + 50) / 100 in the job context, in the stored
checkpoint and in every checkpoint write in hand, every step leads to such a state; and a sheet's charge is its reservation
or 1 mu less, its reservation for a price that is a whole number of mu; both figures of the rule's table occur for 450, 2,103 and 334,228 hmu, and 1 hmu
is charged 1 mu only at a D ending in 49. With C at most 999,999, D is at most 99,999,949. -/
def Obligations.ChargedTotalIsTheRoundedDeliveredSum : Prop :=
  (∀ s t : State, s.roundedTotals → step s = .next t → t.roundedTotals) ∧
  (∀ delivered price : Nat,
    charge delivered price ≤ reservation price ∧ reservation price ≤ charge delivered price + 1 ∧
    (price % 100 = 0 → charge delivered price = reservation price) ∧ (charge delivered 1 = 1 ↔ delivered % 100 = 49)) ∧
  (charge 0 450 = 5 ∧ charge 450 450 = 4 ∧ charge 104960 2103 = 21 ∧ charge 104947 2103 = 22 ∧
    charge 0 334228 = 3342 ∧ charge 22 334228 = 3343) ∧
  (∀ charged delivered : Nat, rounded charged delivered → charged ≤ 999999 → delivered ≤ 99999949)

/-- The law of counters (R164): every addition saturates at 4,294,967,295, each of the two values on its own; a clear
lowers only the period value; and from every state in which each period meter and statement value is at most its lifetime
counterpart, in the meters, the accounts, the stored records and every write in hand, every step leads to such a state. -/
def Obligations.PeriodNeverPassesLifetime : Prop :=
  (∀ (n : Nat) (c : Counter),
    c.add n = { life := if c.life + n ≤ 4294967295 then c.life + n else 4294967295
                period := if c.period + n ≤ 4294967295 then c.period + n else 4294967295 } ∧
    c.clear n = { life := c.life, period := c.period - n }) ∧
  (∀ s t : State, s.periodsWithinLifetimes → step s = .next t → t.periodsWithinLifetimes)

/-- The law of capacities: from every state within them every step leads to such a state. At most 16 notices wait (R179),
6 sheet records (R51), 12 lost tags (R75); the refused count is at most 255 (R173), each filter's count at most 2 (R43,
R81); the store is idle only with an empty queue, has at most 8 places taken, and submitters wait only for a full queue
(R181). The model counts the write in progress among the 8 places (DEDUCED, log 11). -/
def Obligations.StepsStayWithinCapacities : Prop :=
  ∀ s t : State, s.withinCapacities → step s = .next t → t.withinCapacities

/-- The law of funds (R10): from every state in which C + Rp is at most F, Rp the sum of the reservations of the sheets in
the path (R50, R51), every step leads to such a state (`State.withinFunds`). Sheets are in the path of a RUNNING or
DRAINING job only (R18, R22), and C stays within F in every checkpoint (R25). -/
def Obligations.JobsPromiseNoMoreThanTheyHave : Prop :=
  ∀ s t : State, s.withinFunds → step s = .next t → t.withinFunds

/-- The law of holds (R127): from every state in which each hold id stands at most once in the pool, each record has its
own of the 48 places, and at most 47 are ACTIVE, every step leads to such a state, a start included: the hold records in
the store are as lawful after each of the writes in hand, and hold the pool after the last (`State.holdsKept`). So the
pool holds at most 48 records.
The places and stamps of the records are the model's (DESIGN CHOICE, log 18). -/
def Obligations.HoldPoolStaysLawful : Prop :=
  (∀ s t : State, s.holdsKept → step s = .next t → t.holdsKept) ∧ (∀ l, HoldsLawful l → l.length ≤ 48)

/-- The law of reserved places (R5, R92, R93, R154, R155): from every state in which the refund list holds at most 24
entries and the outbound queue with its reserved places at most 16, each entry under a name of its own, and every open job
and every resolution has its place reserved with room for it, every step leads to such a state, a start included
(`State.placesKept`). The model counts the write in progress among the store's 8 places (DEDUCED, log 11). -/
def Obligations.SettlementPlacesStayReserved : Prop :=
  ∀ s t : State, s.placesKept → step s = .next t → t.placesKept

/-- The state after reset obeys every law of the model, and every start from the factory does (R182): no record is in the
store, the serial counter is 1, and the line is OFF.
`State.reset` is such a start (DEDUCED, log 1); a POWER_ON on a powered part is a power cycle (DEDUCED, log 4). -/
def Obligations.ResetObeysEveryLaw : Prop :=
  State.reset.safe ∧ State.reset.store.records = StoreRecords.factory ∧ State.reset.job.nextSerial = 1 ∧
  State.reset.line.state = .off ∧
  (∀ s : State, s.store.records = StoreRecords.factory → ∃ t, exec .powerOn s = .next t ∧
    t = { State.reset with free := s.free, pending := s.pending })

/-! ## Layouts -/

/-- Every frame whose fields fit their widths reads back as it was sent (R104, R105, R188): no field is lost or moved.
Command messages, purse slots, option records, tariffs and profiles read back as they were written (R171, R189, R190);
an option record of erased bytes does not (R189).
The widths of a tariff's base prices are the model's (DEDUCED, log 6). -/
def Obligations.FramesAndRecordsReadBack : Prop :=
  (∀ f : Frame, f.good = true → Frame.read f.bytes = some f) ∧
  (∀ (o : Opcode) (ps : List Byte), ps.length ≤ 240 → Message.read (commandMessage o ps) = .command o ps) ∧
  (∀ p : Purse, p.balance < 16777216 → p.escrow < 16777216 → p.tag < 65536 → p.counter < 4294967296 →
    (∀ n, p.station = some n → n < 32) → (p.escrow = 0 ↔ p.station = none) → Purse.read p.bytes = some p) ∧
  (∀ o : Options, o.inRange = true → Options.readRecord (optionRecord o.fields) = some o) ∧
  Options.readRecord (List.replicate 16 0xFF#8) = none ∧
  (∀ x : Tariff, x.stdMono < 65536 → x.stdColour < 65536 → x.largeMono < 65536 → x.largeColour < 65536 →
    x.light < 256 → x.normal < 256 → x.heavy < 256 → x.full < 256 → x.inRange = true →
    Tariff.read x.bytes = some x) ∧
  (∀ p : Profile, p.inRange = true → Profile.read p.bytes = some p)

end Statements
end

