-- ==== Sys2Proof/Laws/State.lean ====
section
/-! SUPPORT. One lemma for each field of State under each update of one block, so that no later proof unfolds a
record update. -/

namespace Sys2Proof.Machine

@[simp] theorem State.setPort_powered (s : State) (x : Port) : (s.setPort x).powered = s.powered := rfl
@[simp] theorem State.setPort_timeBase (s : State) (x : Port) : (s.setPort x).timeBase = s.timeBase := rfl
@[simp] theorem State.setPort_options (s : State) (x : Port) : (s.setPort x).options = s.options := rfl
@[simp] theorem State.setPort_port (s : State) (x : Port) : (s.setPort x).port = x := rfl
@[simp] theorem State.setPort_job (s : State) (x : Port) : (s.setPort x).job = s.job := rfl
@[simp] theorem State.setPort_tariff (s : State) (x : Port) : (s.setPort x).tariff = s.tariff := rfl
@[simp] theorem State.setPort_path (s : State) (x : Port) : (s.setPort x).path = s.path := rfl
@[simp] theorem State.setPort_card (s : State) (x : Port) : (s.setPort x).card = s.card := rfl
@[simp] theorem State.setPort_line (s : State) (x : Port) : (s.setPort x).line = s.line := rfl
@[simp] theorem State.setPort_accounts (s : State) (x : Port) : (s.setPort x).accounts = s.accounts := rfl
@[simp] theorem State.setPort_settle (s : State) (x : Port) : (s.setPort x).settle = s.settle := rfl
@[simp] theorem State.setPort_meter (s : State) (x : Port) : (s.setPort x).meter = s.meter := rfl
@[simp] theorem State.setPort_store (s : State) (x : Port) : (s.setPort x).store = s.store := rfl
@[simp] theorem State.setPort_free (s : State) (x : Port) : (s.setPort x).free = s.free := rfl
@[simp] theorem State.setPort_pending (s : State) (x : Port) : (s.setPort x).pending = s.pending := rfl

@[simp] theorem State.setJob_powered (s : State) (x : JobUnit) : (s.setJob x).powered = s.powered := rfl
@[simp] theorem State.setJob_timeBase (s : State) (x : JobUnit) : (s.setJob x).timeBase = s.timeBase := rfl
@[simp] theorem State.setJob_options (s : State) (x : JobUnit) : (s.setJob x).options = s.options := rfl
@[simp] theorem State.setJob_port (s : State) (x : JobUnit) : (s.setJob x).port = s.port := rfl
@[simp] theorem State.setJob_job (s : State) (x : JobUnit) : (s.setJob x).job = x := rfl
@[simp] theorem State.setJob_tariff (s : State) (x : JobUnit) : (s.setJob x).tariff = s.tariff := rfl
@[simp] theorem State.setJob_path (s : State) (x : JobUnit) : (s.setJob x).path = s.path := rfl
@[simp] theorem State.setJob_card (s : State) (x : JobUnit) : (s.setJob x).card = s.card := rfl
@[simp] theorem State.setJob_line (s : State) (x : JobUnit) : (s.setJob x).line = s.line := rfl
@[simp] theorem State.setJob_accounts (s : State) (x : JobUnit) : (s.setJob x).accounts = s.accounts := rfl
@[simp] theorem State.setJob_settle (s : State) (x : JobUnit) : (s.setJob x).settle = s.settle := rfl
@[simp] theorem State.setJob_meter (s : State) (x : JobUnit) : (s.setJob x).meter = s.meter := rfl
@[simp] theorem State.setJob_store (s : State) (x : JobUnit) : (s.setJob x).store = s.store := rfl
@[simp] theorem State.setJob_free (s : State) (x : JobUnit) : (s.setJob x).free = s.free := rfl
@[simp] theorem State.setJob_pending (s : State) (x : JobUnit) : (s.setJob x).pending = s.pending := rfl

@[simp] theorem State.setTariff_powered (s : State) (x : Option Tariff) : (s.setTariff x).powered = s.powered := rfl
@[simp] theorem State.setTariff_timeBase (s : State) (x : Option Tariff) : (s.setTariff x).timeBase = s.timeBase := rfl
@[simp] theorem State.setTariff_options (s : State) (x : Option Tariff) : (s.setTariff x).options = s.options := rfl
@[simp] theorem State.setTariff_port (s : State) (x : Option Tariff) : (s.setTariff x).port = s.port := rfl
@[simp] theorem State.setTariff_job (s : State) (x : Option Tariff) : (s.setTariff x).job = s.job := rfl
@[simp] theorem State.setTariff_tariff (s : State) (x : Option Tariff) : (s.setTariff x).tariff = x := rfl
@[simp] theorem State.setTariff_path (s : State) (x : Option Tariff) : (s.setTariff x).path = s.path := rfl
@[simp] theorem State.setTariff_card (s : State) (x : Option Tariff) : (s.setTariff x).card = s.card := rfl
@[simp] theorem State.setTariff_line (s : State) (x : Option Tariff) : (s.setTariff x).line = s.line := rfl
@[simp] theorem State.setTariff_accounts (s : State) (x : Option Tariff) : (s.setTariff x).accounts = s.accounts := rfl
@[simp] theorem State.setTariff_settle (s : State) (x : Option Tariff) : (s.setTariff x).settle = s.settle := rfl
@[simp] theorem State.setTariff_meter (s : State) (x : Option Tariff) : (s.setTariff x).meter = s.meter := rfl
@[simp] theorem State.setTariff_store (s : State) (x : Option Tariff) : (s.setTariff x).store = s.store := rfl
@[simp] theorem State.setTariff_free (s : State) (x : Option Tariff) : (s.setTariff x).free = s.free := rfl
@[simp] theorem State.setTariff_pending (s : State) (x : Option Tariff) : (s.setTariff x).pending = s.pending := rfl

@[simp] theorem State.setPath_powered (s : State) (x : PathMonitor) : (s.setPath x).powered = s.powered := rfl
@[simp] theorem State.setPath_timeBase (s : State) (x : PathMonitor) : (s.setPath x).timeBase = s.timeBase := rfl
@[simp] theorem State.setPath_options (s : State) (x : PathMonitor) : (s.setPath x).options = s.options := rfl
@[simp] theorem State.setPath_port (s : State) (x : PathMonitor) : (s.setPath x).port = s.port := rfl
@[simp] theorem State.setPath_job (s : State) (x : PathMonitor) : (s.setPath x).job = s.job := rfl
@[simp] theorem State.setPath_tariff (s : State) (x : PathMonitor) : (s.setPath x).tariff = s.tariff := rfl
@[simp] theorem State.setPath_path (s : State) (x : PathMonitor) : (s.setPath x).path = x := rfl
@[simp] theorem State.setPath_card (s : State) (x : PathMonitor) : (s.setPath x).card = s.card := rfl
@[simp] theorem State.setPath_line (s : State) (x : PathMonitor) : (s.setPath x).line = s.line := rfl
@[simp] theorem State.setPath_accounts (s : State) (x : PathMonitor) : (s.setPath x).accounts = s.accounts := rfl
@[simp] theorem State.setPath_settle (s : State) (x : PathMonitor) : (s.setPath x).settle = s.settle := rfl
@[simp] theorem State.setPath_meter (s : State) (x : PathMonitor) : (s.setPath x).meter = s.meter := rfl
@[simp] theorem State.setPath_store (s : State) (x : PathMonitor) : (s.setPath x).store = s.store := rfl
@[simp] theorem State.setPath_free (s : State) (x : PathMonitor) : (s.setPath x).free = s.free := rfl
@[simp] theorem State.setPath_pending (s : State) (x : PathMonitor) : (s.setPath x).pending = s.pending := rfl

@[simp] theorem State.setCard_powered (s : State) (x : CardUnit) : (s.setCard x).powered = s.powered := rfl
@[simp] theorem State.setCard_timeBase (s : State) (x : CardUnit) : (s.setCard x).timeBase = s.timeBase := rfl
@[simp] theorem State.setCard_options (s : State) (x : CardUnit) : (s.setCard x).options = s.options := rfl
@[simp] theorem State.setCard_port (s : State) (x : CardUnit) : (s.setCard x).port = s.port := rfl
@[simp] theorem State.setCard_job (s : State) (x : CardUnit) : (s.setCard x).job = s.job := rfl
@[simp] theorem State.setCard_tariff (s : State) (x : CardUnit) : (s.setCard x).tariff = s.tariff := rfl
@[simp] theorem State.setCard_path (s : State) (x : CardUnit) : (s.setCard x).path = s.path := rfl
@[simp] theorem State.setCard_card (s : State) (x : CardUnit) : (s.setCard x).card = x := rfl
@[simp] theorem State.setCard_line (s : State) (x : CardUnit) : (s.setCard x).line = s.line := rfl
@[simp] theorem State.setCard_accounts (s : State) (x : CardUnit) : (s.setCard x).accounts = s.accounts := rfl
@[simp] theorem State.setCard_settle (s : State) (x : CardUnit) : (s.setCard x).settle = s.settle := rfl
@[simp] theorem State.setCard_meter (s : State) (x : CardUnit) : (s.setCard x).meter = s.meter := rfl
@[simp] theorem State.setCard_store (s : State) (x : CardUnit) : (s.setCard x).store = s.store := rfl
@[simp] theorem State.setCard_free (s : State) (x : CardUnit) : (s.setCard x).free = s.free := rfl
@[simp] theorem State.setCard_pending (s : State) (x : CardUnit) : (s.setCard x).pending = s.pending := rfl

@[simp] theorem State.setLine_powered (s : State) (x : LineUnit) : (s.setLine x).powered = s.powered := rfl
@[simp] theorem State.setLine_timeBase (s : State) (x : LineUnit) : (s.setLine x).timeBase = s.timeBase := rfl
@[simp] theorem State.setLine_options (s : State) (x : LineUnit) : (s.setLine x).options = s.options := rfl
@[simp] theorem State.setLine_port (s : State) (x : LineUnit) : (s.setLine x).port = s.port := rfl
@[simp] theorem State.setLine_job (s : State) (x : LineUnit) : (s.setLine x).job = s.job := rfl
@[simp] theorem State.setLine_tariff (s : State) (x : LineUnit) : (s.setLine x).tariff = s.tariff := rfl
@[simp] theorem State.setLine_path (s : State) (x : LineUnit) : (s.setLine x).path = s.path := rfl
@[simp] theorem State.setLine_card (s : State) (x : LineUnit) : (s.setLine x).card = s.card := rfl
@[simp] theorem State.setLine_line (s : State) (x : LineUnit) : (s.setLine x).line = x := rfl
@[simp] theorem State.setLine_accounts (s : State) (x : LineUnit) : (s.setLine x).accounts = s.accounts := rfl
@[simp] theorem State.setLine_settle (s : State) (x : LineUnit) : (s.setLine x).settle = s.settle := rfl
@[simp] theorem State.setLine_meter (s : State) (x : LineUnit) : (s.setLine x).meter = s.meter := rfl
@[simp] theorem State.setLine_store (s : State) (x : LineUnit) : (s.setLine x).store = s.store := rfl
@[simp] theorem State.setLine_free (s : State) (x : LineUnit) : (s.setLine x).free = s.free := rfl
@[simp] theorem State.setLine_pending (s : State) (x : LineUnit) : (s.setLine x).pending = s.pending := rfl

@[simp] theorem State.setAccounts_powered (s : State) (x : AccountUnit) : (s.setAccounts x).powered = s.powered := rfl
@[simp] theorem State.setAccounts_timeBase (s : State) (x : AccountUnit) : (s.setAccounts x).timeBase = s.timeBase := rfl
@[simp] theorem State.setAccounts_options (s : State) (x : AccountUnit) : (s.setAccounts x).options = s.options := rfl
@[simp] theorem State.setAccounts_port (s : State) (x : AccountUnit) : (s.setAccounts x).port = s.port := rfl
@[simp] theorem State.setAccounts_job (s : State) (x : AccountUnit) : (s.setAccounts x).job = s.job := rfl
@[simp] theorem State.setAccounts_tariff (s : State) (x : AccountUnit) : (s.setAccounts x).tariff = s.tariff := rfl
@[simp] theorem State.setAccounts_path (s : State) (x : AccountUnit) : (s.setAccounts x).path = s.path := rfl
@[simp] theorem State.setAccounts_card (s : State) (x : AccountUnit) : (s.setAccounts x).card = s.card := rfl
@[simp] theorem State.setAccounts_line (s : State) (x : AccountUnit) : (s.setAccounts x).line = s.line := rfl
@[simp] theorem State.setAccounts_accounts (s : State) (x : AccountUnit) : (s.setAccounts x).accounts = x := rfl
@[simp] theorem State.setAccounts_settle (s : State) (x : AccountUnit) : (s.setAccounts x).settle = s.settle := rfl
@[simp] theorem State.setAccounts_meter (s : State) (x : AccountUnit) : (s.setAccounts x).meter = s.meter := rfl
@[simp] theorem State.setAccounts_store (s : State) (x : AccountUnit) : (s.setAccounts x).store = s.store := rfl
@[simp] theorem State.setAccounts_free (s : State) (x : AccountUnit) : (s.setAccounts x).free = s.free := rfl
@[simp] theorem State.setAccounts_pending (s : State) (x : AccountUnit) : (s.setAccounts x).pending = s.pending := rfl

@[simp] theorem State.setSettle_powered (s : State) (x : SettlementUnit) : (s.setSettle x).powered = s.powered := rfl
@[simp] theorem State.setSettle_timeBase (s : State) (x : SettlementUnit) : (s.setSettle x).timeBase = s.timeBase := rfl
@[simp] theorem State.setSettle_options (s : State) (x : SettlementUnit) : (s.setSettle x).options = s.options := rfl
@[simp] theorem State.setSettle_port (s : State) (x : SettlementUnit) : (s.setSettle x).port = s.port := rfl
@[simp] theorem State.setSettle_job (s : State) (x : SettlementUnit) : (s.setSettle x).job = s.job := rfl
@[simp] theorem State.setSettle_tariff (s : State) (x : SettlementUnit) : (s.setSettle x).tariff = s.tariff := rfl
@[simp] theorem State.setSettle_path (s : State) (x : SettlementUnit) : (s.setSettle x).path = s.path := rfl
@[simp] theorem State.setSettle_card (s : State) (x : SettlementUnit) : (s.setSettle x).card = s.card := rfl
@[simp] theorem State.setSettle_line (s : State) (x : SettlementUnit) : (s.setSettle x).line = s.line := rfl
@[simp] theorem State.setSettle_accounts (s : State) (x : SettlementUnit) : (s.setSettle x).accounts = s.accounts := rfl
@[simp] theorem State.setSettle_settle (s : State) (x : SettlementUnit) : (s.setSettle x).settle = x := rfl
@[simp] theorem State.setSettle_meter (s : State) (x : SettlementUnit) : (s.setSettle x).meter = s.meter := rfl
@[simp] theorem State.setSettle_store (s : State) (x : SettlementUnit) : (s.setSettle x).store = s.store := rfl
@[simp] theorem State.setSettle_free (s : State) (x : SettlementUnit) : (s.setSettle x).free = s.free := rfl
@[simp] theorem State.setSettle_pending (s : State) (x : SettlementUnit) : (s.setSettle x).pending = s.pending := rfl

@[simp] theorem State.setMeter_powered (s : State) (x : MeterUnit) : (s.setMeter x).powered = s.powered := rfl
@[simp] theorem State.setMeter_timeBase (s : State) (x : MeterUnit) : (s.setMeter x).timeBase = s.timeBase := rfl
@[simp] theorem State.setMeter_options (s : State) (x : MeterUnit) : (s.setMeter x).options = s.options := rfl
@[simp] theorem State.setMeter_port (s : State) (x : MeterUnit) : (s.setMeter x).port = s.port := rfl
@[simp] theorem State.setMeter_job (s : State) (x : MeterUnit) : (s.setMeter x).job = s.job := rfl
@[simp] theorem State.setMeter_tariff (s : State) (x : MeterUnit) : (s.setMeter x).tariff = s.tariff := rfl
@[simp] theorem State.setMeter_path (s : State) (x : MeterUnit) : (s.setMeter x).path = s.path := rfl
@[simp] theorem State.setMeter_card (s : State) (x : MeterUnit) : (s.setMeter x).card = s.card := rfl
@[simp] theorem State.setMeter_line (s : State) (x : MeterUnit) : (s.setMeter x).line = s.line := rfl
@[simp] theorem State.setMeter_accounts (s : State) (x : MeterUnit) : (s.setMeter x).accounts = s.accounts := rfl
@[simp] theorem State.setMeter_settle (s : State) (x : MeterUnit) : (s.setMeter x).settle = s.settle := rfl
@[simp] theorem State.setMeter_meter (s : State) (x : MeterUnit) : (s.setMeter x).meter = x := rfl
@[simp] theorem State.setMeter_store (s : State) (x : MeterUnit) : (s.setMeter x).store = s.store := rfl
@[simp] theorem State.setMeter_free (s : State) (x : MeterUnit) : (s.setMeter x).free = s.free := rfl
@[simp] theorem State.setMeter_pending (s : State) (x : MeterUnit) : (s.setMeter x).pending = s.pending := rfl

@[simp] theorem State.setStore_powered (s : State) (x : Store) : (s.setStore x).powered = s.powered := rfl
@[simp] theorem State.setStore_timeBase (s : State) (x : Store) : (s.setStore x).timeBase = s.timeBase := rfl
@[simp] theorem State.setStore_options (s : State) (x : Store) : (s.setStore x).options = s.options := rfl
@[simp] theorem State.setStore_port (s : State) (x : Store) : (s.setStore x).port = s.port := rfl
@[simp] theorem State.setStore_job (s : State) (x : Store) : (s.setStore x).job = s.job := rfl
@[simp] theorem State.setStore_tariff (s : State) (x : Store) : (s.setStore x).tariff = s.tariff := rfl
@[simp] theorem State.setStore_path (s : State) (x : Store) : (s.setStore x).path = s.path := rfl
@[simp] theorem State.setStore_card (s : State) (x : Store) : (s.setStore x).card = s.card := rfl
@[simp] theorem State.setStore_line (s : State) (x : Store) : (s.setStore x).line = s.line := rfl
@[simp] theorem State.setStore_accounts (s : State) (x : Store) : (s.setStore x).accounts = s.accounts := rfl
@[simp] theorem State.setStore_settle (s : State) (x : Store) : (s.setStore x).settle = s.settle := rfl
@[simp] theorem State.setStore_meter (s : State) (x : Store) : (s.setStore x).meter = s.meter := rfl
@[simp] theorem State.setStore_store (s : State) (x : Store) : (s.setStore x).store = x := rfl
@[simp] theorem State.setStore_free (s : State) (x : Store) : (s.setStore x).free = s.free := rfl
@[simp] theorem State.setStore_pending (s : State) (x : Store) : (s.setStore x).pending = s.pending := rfl

@[simp] theorem State.setFree_powered (s : State) (x : Nat) : (s.setFree x).powered = s.powered := rfl
@[simp] theorem State.setFree_timeBase (s : State) (x : Nat) : (s.setFree x).timeBase = s.timeBase := rfl
@[simp] theorem State.setFree_options (s : State) (x : Nat) : (s.setFree x).options = s.options := rfl
@[simp] theorem State.setFree_port (s : State) (x : Nat) : (s.setFree x).port = s.port := rfl
@[simp] theorem State.setFree_job (s : State) (x : Nat) : (s.setFree x).job = s.job := rfl
@[simp] theorem State.setFree_tariff (s : State) (x : Nat) : (s.setFree x).tariff = s.tariff := rfl
@[simp] theorem State.setFree_path (s : State) (x : Nat) : (s.setFree x).path = s.path := rfl
@[simp] theorem State.setFree_card (s : State) (x : Nat) : (s.setFree x).card = s.card := rfl
@[simp] theorem State.setFree_line (s : State) (x : Nat) : (s.setFree x).line = s.line := rfl
@[simp] theorem State.setFree_accounts (s : State) (x : Nat) : (s.setFree x).accounts = s.accounts := rfl
@[simp] theorem State.setFree_settle (s : State) (x : Nat) : (s.setFree x).settle = s.settle := rfl
@[simp] theorem State.setFree_meter (s : State) (x : Nat) : (s.setFree x).meter = s.meter := rfl
@[simp] theorem State.setFree_store (s : State) (x : Nat) : (s.setFree x).store = s.store := rfl
@[simp] theorem State.setFree_free (s : State) (x : Nat) : (s.setFree x).free = x := rfl
@[simp] theorem State.setFree_pending (s : State) (x : Nat) : (s.setFree x).pending = s.pending := rfl

@[simp] theorem State.setPending_powered (s : State) (x : List Instr) : (s.setPending x).powered = s.powered := rfl
@[simp] theorem State.setPending_timeBase (s : State) (x : List Instr) : (s.setPending x).timeBase = s.timeBase := rfl
@[simp] theorem State.setPending_options (s : State) (x : List Instr) : (s.setPending x).options = s.options := rfl
@[simp] theorem State.setPending_port (s : State) (x : List Instr) : (s.setPending x).port = s.port := rfl
@[simp] theorem State.setPending_job (s : State) (x : List Instr) : (s.setPending x).job = s.job := rfl
@[simp] theorem State.setPending_tariff (s : State) (x : List Instr) : (s.setPending x).tariff = s.tariff := rfl
@[simp] theorem State.setPending_path (s : State) (x : List Instr) : (s.setPending x).path = s.path := rfl
@[simp] theorem State.setPending_card (s : State) (x : List Instr) : (s.setPending x).card = s.card := rfl
@[simp] theorem State.setPending_line (s : State) (x : List Instr) : (s.setPending x).line = s.line := rfl
@[simp] theorem State.setPending_accounts (s : State) (x : List Instr) : (s.setPending x).accounts = s.accounts := rfl
@[simp] theorem State.setPending_settle (s : State) (x : List Instr) : (s.setPending x).settle = s.settle := rfl
@[simp] theorem State.setPending_meter (s : State) (x : List Instr) : (s.setPending x).meter = s.meter := rfl
@[simp] theorem State.setPending_store (s : State) (x : List Instr) : (s.setPending x).store = s.store := rfl
@[simp] theorem State.setPending_free (s : State) (x : List Instr) : (s.setPending x).free = s.free := rfl
@[simp] theorem State.setPending_pending (s : State) (x : List Instr) : (s.setPending x).pending = x := rfl

@[simp] theorem State.setCtx_powered (s : State) (c : JobContext) : (s.setCtx c).powered = s.powered := rfl
@[simp] theorem State.setCtx_timeBase (s : State) (c : JobContext) : (s.setCtx c).timeBase = s.timeBase := rfl
@[simp] theorem State.setCtx_options (s : State) (c : JobContext) : (s.setCtx c).options = s.options := rfl
@[simp] theorem State.setCtx_port (s : State) (c : JobContext) : (s.setCtx c).port = s.port := rfl
@[simp] theorem State.setCtx_job (s : State) (c : JobContext) : (s.setCtx c).job = { s.job with ctx := c } := rfl
@[simp] theorem State.setCtx_tariff (s : State) (c : JobContext) : (s.setCtx c).tariff = s.tariff := rfl
@[simp] theorem State.setCtx_path (s : State) (c : JobContext) : (s.setCtx c).path = s.path := rfl
@[simp] theorem State.setCtx_card (s : State) (c : JobContext) : (s.setCtx c).card = s.card := rfl
@[simp] theorem State.setCtx_line (s : State) (c : JobContext) : (s.setCtx c).line = s.line := rfl
@[simp] theorem State.setCtx_accounts (s : State) (c : JobContext) : (s.setCtx c).accounts = s.accounts := rfl
@[simp] theorem State.setCtx_settle (s : State) (c : JobContext) : (s.setCtx c).settle = s.settle := rfl
@[simp] theorem State.setCtx_meter (s : State) (c : JobContext) : (s.setCtx c).meter = s.meter := rfl
@[simp] theorem State.setCtx_store (s : State) (c : JobContext) : (s.setCtx c).store = s.store := rfl
@[simp] theorem State.setCtx_free (s : State) (c : JobContext) : (s.setCtx c).free = s.free := rfl
@[simp] theorem State.setCtx_pending (s : State) (c : JobContext) : (s.setCtx c).pending = s.pending := rfl

end Sys2Proof.Machine
end

