-- ==== Sys2Proof/Laws/Frames.lean ====
section
/-! SUPPORT. What the operations of Ops.lean leave unchanged, block by block. -/

namespace Sys2Proof.Machine

@[simp] theorem raiseNotice_powered (b : NoticeBody) (s : State) : (raiseNotice b s).powered = s.powered := by
  unfold raiseNotice; split <;> rfl
@[simp] theorem raiseNotice_timeBase (b : NoticeBody) (s : State) : (raiseNotice b s).timeBase = s.timeBase := by
  unfold raiseNotice; split <;> rfl
@[simp] theorem raiseNotice_options (b : NoticeBody) (s : State) : (raiseNotice b s).options = s.options := by
  unfold raiseNotice; split <;> rfl
@[simp] theorem raiseNotice_job (b : NoticeBody) (s : State) : (raiseNotice b s).job = s.job := by
  unfold raiseNotice; split <;> rfl
@[simp] theorem raiseNotice_tariff (b : NoticeBody) (s : State) : (raiseNotice b s).tariff = s.tariff := by
  unfold raiseNotice; split <;> rfl
@[simp] theorem raiseNotice_path (b : NoticeBody) (s : State) : (raiseNotice b s).path = s.path := by
  unfold raiseNotice; split <;> rfl
@[simp] theorem raiseNotice_card (b : NoticeBody) (s : State) : (raiseNotice b s).card = s.card := by
  unfold raiseNotice; split <;> rfl
@[simp] theorem raiseNotice_line (b : NoticeBody) (s : State) : (raiseNotice b s).line = s.line := by
  unfold raiseNotice; split <;> rfl
@[simp] theorem raiseNotice_accounts (b : NoticeBody) (s : State) : (raiseNotice b s).accounts = s.accounts := by
  unfold raiseNotice; split <;> rfl
@[simp] theorem raiseNotice_settle (b : NoticeBody) (s : State) : (raiseNotice b s).settle = s.settle := by
  unfold raiseNotice; split <;> rfl
@[simp] theorem raiseNotice_meter (b : NoticeBody) (s : State) : (raiseNotice b s).meter = s.meter := by
  unfold raiseNotice; split <;> rfl
@[simp] theorem raiseNotice_store (b : NoticeBody) (s : State) : (raiseNotice b s).store = s.store := by
  unfold raiseNotice; split <;> rfl
@[simp] theorem raiseNotice_free (b : NoticeBody) (s : State) : (raiseNotice b s).free = s.free := by
  unfold raiseNotice; split <;> rfl
@[simp] theorem raiseNotice_pending (b : NoticeBody) (s : State) : (raiseNotice b s).pending = s.pending := by
  unfold raiseNotice; split <;> rfl

@[simp] theorem placeResult_powered (r : Result) (s : State) : (placeResult r s).powered = s.powered := by
  rfl
@[simp] theorem placeResult_timeBase (r : Result) (s : State) : (placeResult r s).timeBase = s.timeBase := by
  rfl
@[simp] theorem placeResult_options (r : Result) (s : State) : (placeResult r s).options = s.options := by
  rfl
@[simp] theorem placeResult_job (r : Result) (s : State) : (placeResult r s).job = s.job := by
  rfl
@[simp] theorem placeResult_tariff (r : Result) (s : State) : (placeResult r s).tariff = s.tariff := by
  rfl
@[simp] theorem placeResult_path (r : Result) (s : State) : (placeResult r s).path = s.path := by
  rfl
@[simp] theorem placeResult_card (r : Result) (s : State) : (placeResult r s).card = s.card := by
  rfl
@[simp] theorem placeResult_line (r : Result) (s : State) : (placeResult r s).line = s.line := by
  rfl
@[simp] theorem placeResult_accounts (r : Result) (s : State) : (placeResult r s).accounts = s.accounts := by
  rfl
@[simp] theorem placeResult_settle (r : Result) (s : State) : (placeResult r s).settle = s.settle := by
  rfl
@[simp] theorem placeResult_meter (r : Result) (s : State) : (placeResult r s).meter = s.meter := by
  rfl
@[simp] theorem placeResult_store (r : Result) (s : State) : (placeResult r s).store = s.store := by
  rfl
@[simp] theorem placeResult_free (r : Result) (s : State) : (placeResult r s).free = s.free := by
  rfl
@[simp] theorem placeResult_pending (r : Result) (s : State) : (placeResult r s).pending = s.pending := by
  rfl

@[simp] theorem complete_powered (r : Reason) (v : Values) (s : State) : (complete r v s).powered = s.powered := by
  unfold complete; split <;> rfl
@[simp] theorem complete_timeBase (r : Reason) (v : Values) (s : State) : (complete r v s).timeBase = s.timeBase := by
  unfold complete; split <;> rfl
@[simp] theorem complete_options (r : Reason) (v : Values) (s : State) : (complete r v s).options = s.options := by
  unfold complete; split <;> rfl
@[simp] theorem complete_job (r : Reason) (v : Values) (s : State) : (complete r v s).job = s.job := by
  unfold complete; split <;> rfl
@[simp] theorem complete_tariff (r : Reason) (v : Values) (s : State) : (complete r v s).tariff = s.tariff := by
  unfold complete; split <;> rfl
@[simp] theorem complete_path (r : Reason) (v : Values) (s : State) : (complete r v s).path = s.path := by
  unfold complete; split <;> rfl
@[simp] theorem complete_card (r : Reason) (v : Values) (s : State) : (complete r v s).card = s.card := by
  unfold complete; split <;> rfl
@[simp] theorem complete_line (r : Reason) (v : Values) (s : State) : (complete r v s).line = s.line := by
  unfold complete; split <;> rfl
@[simp] theorem complete_accounts (r : Reason) (v : Values) (s : State) : (complete r v s).accounts = s.accounts := by
  unfold complete; split <;> rfl
@[simp] theorem complete_settle (r : Reason) (v : Values) (s : State) : (complete r v s).settle = s.settle := by
  unfold complete; split <;> rfl
@[simp] theorem complete_meter (r : Reason) (v : Values) (s : State) : (complete r v s).meter = s.meter := by
  unfold complete; split <;> rfl
@[simp] theorem complete_store (r : Reason) (v : Values) (s : State) : (complete r v s).store = s.store := by
  unfold complete; split <;> rfl
@[simp] theorem complete_free (r : Reason) (v : Values) (s : State) : (complete r v s).free = s.free := by
  unfold complete; split <;> rfl
@[simp] theorem complete_pending (r : Reason) (v : Values) (s : State) : (complete r v s).pending = s.pending := by
  unfold complete; split <;> rfl

@[simp] theorem holdResult_powered (r : Reason) (v : Values) (s : State) : (holdResult r v s).powered = s.powered := by
  unfold holdResult; split <;> rfl
@[simp] theorem holdResult_timeBase (r : Reason) (v : Values) (s : State) : (holdResult r v s).timeBase = s.timeBase := by
  unfold holdResult; split <;> rfl
@[simp] theorem holdResult_options (r : Reason) (v : Values) (s : State) : (holdResult r v s).options = s.options := by
  unfold holdResult; split <;> rfl
@[simp] theorem holdResult_job (r : Reason) (v : Values) (s : State) : (holdResult r v s).job = s.job := by
  unfold holdResult; split <;> rfl
@[simp] theorem holdResult_tariff (r : Reason) (v : Values) (s : State) : (holdResult r v s).tariff = s.tariff := by
  unfold holdResult; split <;> rfl
@[simp] theorem holdResult_path (r : Reason) (v : Values) (s : State) : (holdResult r v s).path = s.path := by
  unfold holdResult; split <;> rfl
@[simp] theorem holdResult_card (r : Reason) (v : Values) (s : State) : (holdResult r v s).card = s.card := by
  unfold holdResult; split <;> rfl
@[simp] theorem holdResult_line (r : Reason) (v : Values) (s : State) : (holdResult r v s).line = s.line := by
  unfold holdResult; split <;> rfl
@[simp] theorem holdResult_accounts (r : Reason) (v : Values) (s : State) : (holdResult r v s).accounts = s.accounts := by
  unfold holdResult; split <;> rfl
@[simp] theorem holdResult_settle (r : Reason) (v : Values) (s : State) : (holdResult r v s).settle = s.settle := by
  unfold holdResult; split <;> rfl
@[simp] theorem holdResult_meter (r : Reason) (v : Values) (s : State) : (holdResult r v s).meter = s.meter := by
  unfold holdResult; split <;> rfl
@[simp] theorem holdResult_store (r : Reason) (v : Values) (s : State) : (holdResult r v s).store = s.store := by
  unfold holdResult; split <;> rfl
@[simp] theorem holdResult_free (r : Reason) (v : Values) (s : State) : (holdResult r v s).free = s.free := by
  unfold holdResult; split <;> rfl
@[simp] theorem holdResult_pending (r : Reason) (v : Values) (s : State) : (holdResult r v s).pending = s.pending := by
  unfold holdResult; split <;> rfl

@[simp] theorem releaseHeld_powered  (s : State) : (releaseHeld s).powered = s.powered := by
  unfold releaseHeld; split <;> rfl
@[simp] theorem releaseHeld_timeBase  (s : State) : (releaseHeld s).timeBase = s.timeBase := by
  unfold releaseHeld; split <;> rfl
@[simp] theorem releaseHeld_options  (s : State) : (releaseHeld s).options = s.options := by
  unfold releaseHeld; split <;> rfl
@[simp] theorem releaseHeld_job  (s : State) : (releaseHeld s).job = s.job := by
  unfold releaseHeld; split <;> rfl
@[simp] theorem releaseHeld_tariff  (s : State) : (releaseHeld s).tariff = s.tariff := by
  unfold releaseHeld; split <;> rfl
@[simp] theorem releaseHeld_path  (s : State) : (releaseHeld s).path = s.path := by
  unfold releaseHeld; split <;> rfl
@[simp] theorem releaseHeld_card  (s : State) : (releaseHeld s).card = s.card := by
  unfold releaseHeld; split <;> rfl
@[simp] theorem releaseHeld_line  (s : State) : (releaseHeld s).line = s.line := by
  unfold releaseHeld; split <;> rfl
@[simp] theorem releaseHeld_accounts  (s : State) : (releaseHeld s).accounts = s.accounts := by
  unfold releaseHeld; split <;> rfl
@[simp] theorem releaseHeld_settle  (s : State) : (releaseHeld s).settle = s.settle := by
  unfold releaseHeld; split <;> rfl
@[simp] theorem releaseHeld_meter  (s : State) : (releaseHeld s).meter = s.meter := by
  unfold releaseHeld; split <;> rfl
@[simp] theorem releaseHeld_store  (s : State) : (releaseHeld s).store = s.store := by
  unfold releaseHeld; split <;> rfl
@[simp] theorem releaseHeld_free  (s : State) : (releaseHeld s).free = s.free := by
  unfold releaseHeld; split <;> rfl
@[simp] theorem releaseHeld_pending  (s : State) : (releaseHeld s).pending = s.pending := by
  unfold releaseHeld; split <;> rfl

@[simp] theorem discardResult_powered  (s : State) : (discardResult s).powered = s.powered := by
  unfold discardResult; split <;> rfl
@[simp] theorem discardResult_timeBase  (s : State) : (discardResult s).timeBase = s.timeBase := by
  unfold discardResult; split <;> rfl
@[simp] theorem discardResult_options  (s : State) : (discardResult s).options = s.options := by
  unfold discardResult; split <;> rfl
@[simp] theorem discardResult_job  (s : State) : (discardResult s).job = s.job := by
  unfold discardResult; split <;> rfl
@[simp] theorem discardResult_tariff  (s : State) : (discardResult s).tariff = s.tariff := by
  unfold discardResult; split <;> rfl
@[simp] theorem discardResult_path  (s : State) : (discardResult s).path = s.path := by
  unfold discardResult; split <;> rfl
@[simp] theorem discardResult_card  (s : State) : (discardResult s).card = s.card := by
  unfold discardResult; split <;> rfl
@[simp] theorem discardResult_line  (s : State) : (discardResult s).line = s.line := by
  unfold discardResult; split <;> rfl
@[simp] theorem discardResult_settle  (s : State) : (discardResult s).settle = s.settle := by
  unfold discardResult; split <;> rfl
@[simp] theorem discardResult_store  (s : State) : (discardResult s).store = s.store := by
  unfold discardResult; split <;> rfl
@[simp] theorem discardResult_free  (s : State) : (discardResult s).free = s.free := by
  unfold discardResult; split <;> rfl
@[simp] theorem discardResult_pending  (s : State) : (discardResult s).pending = s.pending := by
  unfold discardResult; split <;> rfl

@[simp] theorem beginWrite_powered  (s : State) : (beginWrite s).powered = s.powered := by
  unfold beginWrite; split <;> rfl
@[simp] theorem beginWrite_timeBase  (s : State) : (beginWrite s).timeBase = s.timeBase := by
  unfold beginWrite; split <;> rfl
@[simp] theorem beginWrite_options  (s : State) : (beginWrite s).options = s.options := by
  unfold beginWrite; split <;> rfl
@[simp] theorem beginWrite_port  (s : State) : (beginWrite s).port = s.port := by
  unfold beginWrite; split <;> rfl
@[simp] theorem beginWrite_job  (s : State) : (beginWrite s).job = s.job := by
  unfold beginWrite; split <;> rfl
@[simp] theorem beginWrite_tariff  (s : State) : (beginWrite s).tariff = s.tariff := by
  unfold beginWrite; split <;> rfl
@[simp] theorem beginWrite_path  (s : State) : (beginWrite s).path = s.path := by
  unfold beginWrite; split <;> rfl
@[simp] theorem beginWrite_card  (s : State) : (beginWrite s).card = s.card := by
  unfold beginWrite; split <;> rfl
@[simp] theorem beginWrite_line  (s : State) : (beginWrite s).line = s.line := by
  unfold beginWrite; split <;> rfl
@[simp] theorem beginWrite_accounts  (s : State) : (beginWrite s).accounts = s.accounts := by
  unfold beginWrite; split <;> rfl
@[simp] theorem beginWrite_settle  (s : State) : (beginWrite s).settle = s.settle := by
  unfold beginWrite; split <;> rfl
@[simp] theorem beginWrite_meter  (s : State) : (beginWrite s).meter = s.meter := by
  unfold beginWrite; split <;> rfl
@[simp] theorem beginWrite_free  (s : State) : (beginWrite s).free = s.free := by
  unfold beginWrite; split <;> rfl
@[simp] theorem beginWrite_pending  (s : State) : (beginWrite s).pending = s.pending := by
  unfold beginWrite; split <;> rfl

@[simp] theorem submit_powered (t : WriteTag) (w : RecordWrite) (s : State) : (submit t w s).powered = s.powered := by
  unfold submit; split <;> simp
@[simp] theorem submit_timeBase (t : WriteTag) (w : RecordWrite) (s : State) : (submit t w s).timeBase = s.timeBase := by
  unfold submit; split <;> simp
@[simp] theorem submit_options (t : WriteTag) (w : RecordWrite) (s : State) : (submit t w s).options = s.options := by
  unfold submit; split <;> simp
@[simp] theorem submit_port (t : WriteTag) (w : RecordWrite) (s : State) : (submit t w s).port = s.port := by
  unfold submit; split <;> simp
@[simp] theorem submit_job (t : WriteTag) (w : RecordWrite) (s : State) : (submit t w s).job = s.job := by
  unfold submit; split <;> simp
@[simp] theorem submit_tariff (t : WriteTag) (w : RecordWrite) (s : State) : (submit t w s).tariff = s.tariff := by
  unfold submit; split <;> simp
@[simp] theorem submit_path (t : WriteTag) (w : RecordWrite) (s : State) : (submit t w s).path = s.path := by
  unfold submit; split <;> simp
@[simp] theorem submit_card (t : WriteTag) (w : RecordWrite) (s : State) : (submit t w s).card = s.card := by
  unfold submit; split <;> simp
@[simp] theorem submit_line (t : WriteTag) (w : RecordWrite) (s : State) : (submit t w s).line = s.line := by
  unfold submit; split <;> simp
@[simp] theorem submit_accounts (t : WriteTag) (w : RecordWrite) (s : State) : (submit t w s).accounts = s.accounts := by
  unfold submit; split <;> simp
@[simp] theorem submit_settle (t : WriteTag) (w : RecordWrite) (s : State) : (submit t w s).settle = s.settle := by
  unfold submit; split <;> simp
@[simp] theorem submit_meter (t : WriteTag) (w : RecordWrite) (s : State) : (submit t w s).meter = s.meter := by
  unfold submit; split <;> simp
@[simp] theorem submit_free (t : WriteTag) (w : RecordWrite) (s : State) : (submit t w s).free = s.free := by
  unfold submit; split <;> simp
@[simp] theorem submit_pending (t : WriteTag) (w : RecordWrite) (s : State) : (submit t w s).pending = s.pending := by
  unfold submit; split <;> simp

@[simp] theorem submitAndAnswer_powered (w : RecordWrite) (v : Values) (s : State) : (submitAndAnswer w v s).powered = s.powered := by
  unfold submitAndAnswer; split <;> simp
@[simp] theorem submitAndAnswer_timeBase (w : RecordWrite) (v : Values) (s : State) : (submitAndAnswer w v s).timeBase = s.timeBase := by
  unfold submitAndAnswer; split <;> simp
@[simp] theorem submitAndAnswer_options (w : RecordWrite) (v : Values) (s : State) : (submitAndAnswer w v s).options = s.options := by
  unfold submitAndAnswer; split <;> simp
@[simp] theorem submitAndAnswer_job (w : RecordWrite) (v : Values) (s : State) : (submitAndAnswer w v s).job = s.job := by
  unfold submitAndAnswer; split <;> simp
@[simp] theorem submitAndAnswer_tariff (w : RecordWrite) (v : Values) (s : State) : (submitAndAnswer w v s).tariff = s.tariff := by
  unfold submitAndAnswer; split <;> simp
@[simp] theorem submitAndAnswer_path (w : RecordWrite) (v : Values) (s : State) : (submitAndAnswer w v s).path = s.path := by
  unfold submitAndAnswer; split <;> simp
@[simp] theorem submitAndAnswer_card (w : RecordWrite) (v : Values) (s : State) : (submitAndAnswer w v s).card = s.card := by
  unfold submitAndAnswer; split <;> simp
@[simp] theorem submitAndAnswer_line (w : RecordWrite) (v : Values) (s : State) : (submitAndAnswer w v s).line = s.line := by
  unfold submitAndAnswer; split <;> simp
@[simp] theorem submitAndAnswer_accounts (w : RecordWrite) (v : Values) (s : State) : (submitAndAnswer w v s).accounts = s.accounts := by
  unfold submitAndAnswer; split <;> simp
@[simp] theorem submitAndAnswer_settle (w : RecordWrite) (v : Values) (s : State) : (submitAndAnswer w v s).settle = s.settle := by
  unfold submitAndAnswer; split <;> simp
@[simp] theorem submitAndAnswer_meter (w : RecordWrite) (v : Values) (s : State) : (submitAndAnswer w v s).meter = s.meter := by
  unfold submitAndAnswer; split <;> simp
@[simp] theorem submitAndAnswer_free (w : RecordWrite) (v : Values) (s : State) : (submitAndAnswer w v s).free = s.free := by
  unfold submitAndAnswer; split <;> simp
@[simp] theorem submitAndAnswer_pending (w : RecordWrite) (v : Values) (s : State) : (submitAndAnswer w v s).pending = s.pending := by
  unfold submitAndAnswer; split <;> simp

@[simp] theorem noteMeters_powered  (s : State) : (noteMeters s).powered = s.powered := by
  unfold noteMeters; (repeat' split) <;> simp
@[simp] theorem noteMeters_timeBase  (s : State) : (noteMeters s).timeBase = s.timeBase := by
  unfold noteMeters; (repeat' split) <;> simp
@[simp] theorem noteMeters_options  (s : State) : (noteMeters s).options = s.options := by
  unfold noteMeters; (repeat' split) <;> simp
@[simp] theorem noteMeters_port  (s : State) : (noteMeters s).port = s.port := by
  unfold noteMeters; (repeat' split) <;> simp
@[simp] theorem noteMeters_job  (s : State) : (noteMeters s).job = s.job := by
  unfold noteMeters; (repeat' split) <;> simp
@[simp] theorem noteMeters_tariff  (s : State) : (noteMeters s).tariff = s.tariff := by
  unfold noteMeters; (repeat' split) <;> simp
@[simp] theorem noteMeters_path  (s : State) : (noteMeters s).path = s.path := by
  unfold noteMeters; (repeat' split) <;> simp
@[simp] theorem noteMeters_card  (s : State) : (noteMeters s).card = s.card := by
  unfold noteMeters; (repeat' split) <;> simp
@[simp] theorem noteMeters_line  (s : State) : (noteMeters s).line = s.line := by
  unfold noteMeters; (repeat' split) <;> simp
@[simp] theorem noteMeters_accounts  (s : State) : (noteMeters s).accounts = s.accounts := by
  unfold noteMeters; (repeat' split) <;> simp
@[simp] theorem noteMeters_settle  (s : State) : (noteMeters s).settle = s.settle := by
  unfold noteMeters; (repeat' split) <;> simp
@[simp] theorem noteMeters_meter  (s : State) : (noteMeters s).meter = s.meter := by
  unfold noteMeters; (repeat' split) <;> simp
@[simp] theorem noteMeters_free  (s : State) : (noteMeters s).free = s.free := by
  unfold noteMeters; (repeat' split) <;> simp
@[simp] theorem noteMeters_pending  (s : State) : (noteMeters s).pending = s.pending := by
  unfold noteMeters; (repeat' split) <;> simp

@[simp] theorem addMeters_powered (n : MetersOf Nat) (s : State) : (addMeters n s).powered = s.powered := by
  unfold addMeters; split <;> simp
@[simp] theorem addMeters_timeBase (n : MetersOf Nat) (s : State) : (addMeters n s).timeBase = s.timeBase := by
  unfold addMeters; split <;> simp
@[simp] theorem addMeters_options (n : MetersOf Nat) (s : State) : (addMeters n s).options = s.options := by
  unfold addMeters; split <;> simp
@[simp] theorem addMeters_port (n : MetersOf Nat) (s : State) : (addMeters n s).port = s.port := by
  unfold addMeters; split <;> simp
@[simp] theorem addMeters_job (n : MetersOf Nat) (s : State) : (addMeters n s).job = s.job := by
  unfold addMeters; split <;> simp
@[simp] theorem addMeters_tariff (n : MetersOf Nat) (s : State) : (addMeters n s).tariff = s.tariff := by
  unfold addMeters; split <;> simp
@[simp] theorem addMeters_path (n : MetersOf Nat) (s : State) : (addMeters n s).path = s.path := by
  unfold addMeters; split <;> simp
@[simp] theorem addMeters_card (n : MetersOf Nat) (s : State) : (addMeters n s).card = s.card := by
  unfold addMeters; split <;> simp
@[simp] theorem addMeters_line (n : MetersOf Nat) (s : State) : (addMeters n s).line = s.line := by
  unfold addMeters; split <;> simp
@[simp] theorem addMeters_accounts (n : MetersOf Nat) (s : State) : (addMeters n s).accounts = s.accounts := by
  unfold addMeters; split <;> simp
@[simp] theorem addMeters_settle (n : MetersOf Nat) (s : State) : (addMeters n s).settle = s.settle := by
  unfold addMeters; split <;> simp
@[simp] theorem addMeters_free (n : MetersOf Nat) (s : State) : (addMeters n s).free = s.free := by
  unfold addMeters; split <;> simp
@[simp] theorem addMeters_pending (n : MetersOf Nat) (s : State) : (addMeters n s).pending = s.pending := by
  unfold addMeters; split <;> simp

@[simp] theorem advanceFree_powered  (s : State) : (advanceFree s).powered = s.powered := by
  rfl
@[simp] theorem advanceFree_timeBase  (s : State) : (advanceFree s).timeBase = s.timeBase := by
  rfl
@[simp] theorem advanceFree_options  (s : State) : (advanceFree s).options = s.options := by
  rfl
@[simp] theorem advanceFree_port  (s : State) : (advanceFree s).port = s.port := by
  rfl
@[simp] theorem advanceFree_job  (s : State) : (advanceFree s).job = s.job := by
  rfl
@[simp] theorem advanceFree_tariff  (s : State) : (advanceFree s).tariff = s.tariff := by
  rfl
@[simp] theorem advanceFree_path  (s : State) : (advanceFree s).path = s.path := by
  rfl
@[simp] theorem advanceFree_card  (s : State) : (advanceFree s).card = s.card := by
  rfl
@[simp] theorem advanceFree_line  (s : State) : (advanceFree s).line = s.line := by
  rfl
@[simp] theorem advanceFree_accounts  (s : State) : (advanceFree s).accounts = s.accounts := by
  rfl
@[simp] theorem advanceFree_settle  (s : State) : (advanceFree s).settle = s.settle := by
  rfl
@[simp] theorem advanceFree_meter  (s : State) : (advanceFree s).meter = s.meter := by
  rfl
@[simp] theorem advanceFree_store  (s : State) : (advanceFree s).store = s.store := by
  rfl
@[simp] theorem advanceFree_pending  (s : State) : (advanceFree s).pending = s.pending := by
  rfl

end Sys2Proof.Machine
end

