-- ==== Sys2Proof/Laws/Blocks.lean ====
section
/-! SUPPORT. What the requests between blocks and the job unit leave unchanged, block by block. -/

namespace Sys2Proof.Machine

@[simp] theorem askExchange_powered (x : Source) (d : Nat) (b : Payload) (n : Nat) (s : State) : (askExchange x d b n s).powered = s.powered := by
  rfl
@[simp] theorem askExchange_timeBase (x : Source) (d : Nat) (b : Payload) (n : Nat) (s : State) : (askExchange x d b n s).timeBase = s.timeBase := by
  rfl
@[simp] theorem askExchange_options (x : Source) (d : Nat) (b : Payload) (n : Nat) (s : State) : (askExchange x d b n s).options = s.options := by
  rfl
@[simp] theorem askExchange_port (x : Source) (d : Nat) (b : Payload) (n : Nat) (s : State) : (askExchange x d b n s).port = s.port := by
  rfl
@[simp] theorem askExchange_job (x : Source) (d : Nat) (b : Payload) (n : Nat) (s : State) : (askExchange x d b n s).job = s.job := by
  rfl
@[simp] theorem askExchange_tariff (x : Source) (d : Nat) (b : Payload) (n : Nat) (s : State) : (askExchange x d b n s).tariff = s.tariff := by
  rfl
@[simp] theorem askExchange_path (x : Source) (d : Nat) (b : Payload) (n : Nat) (s : State) : (askExchange x d b n s).path = s.path := by
  rfl
@[simp] theorem askExchange_card (x : Source) (d : Nat) (b : Payload) (n : Nat) (s : State) : (askExchange x d b n s).card = s.card := by
  rfl
@[simp] theorem askExchange_accounts (x : Source) (d : Nat) (b : Payload) (n : Nat) (s : State) : (askExchange x d b n s).accounts = s.accounts := by
  rfl
@[simp] theorem askExchange_settle (x : Source) (d : Nat) (b : Payload) (n : Nat) (s : State) : (askExchange x d b n s).settle = s.settle := by
  rfl
@[simp] theorem askExchange_meter (x : Source) (d : Nat) (b : Payload) (n : Nat) (s : State) : (askExchange x d b n s).meter = s.meter := by
  rfl
@[simp] theorem askExchange_store (x : Source) (d : Nat) (b : Payload) (n : Nat) (s : State) : (askExchange x d b n s).store = s.store := by
  rfl
@[simp] theorem askExchange_free (x : Source) (d : Nat) (b : Payload) (n : Nat) (s : State) : (askExchange x d b n s).free = s.free := by
  rfl
@[simp] theorem askExchange_pending (x : Source) (d : Nat) (b : Payload) (n : Nat) (s : State) : (askExchange x d b n s).pending = s.pending := by
  rfl

@[simp] theorem readyFrame_powered (p : Place) (f : Frame) (s : State) : (readyFrame p f s).powered = s.powered := by
  rfl
@[simp] theorem readyFrame_timeBase (p : Place) (f : Frame) (s : State) : (readyFrame p f s).timeBase = s.timeBase := by
  rfl
@[simp] theorem readyFrame_options (p : Place) (f : Frame) (s : State) : (readyFrame p f s).options = s.options := by
  rfl
@[simp] theorem readyFrame_port (p : Place) (f : Frame) (s : State) : (readyFrame p f s).port = s.port := by
  rfl
@[simp] theorem readyFrame_job (p : Place) (f : Frame) (s : State) : (readyFrame p f s).job = s.job := by
  rfl
@[simp] theorem readyFrame_tariff (p : Place) (f : Frame) (s : State) : (readyFrame p f s).tariff = s.tariff := by
  rfl
@[simp] theorem readyFrame_path (p : Place) (f : Frame) (s : State) : (readyFrame p f s).path = s.path := by
  rfl
@[simp] theorem readyFrame_card (p : Place) (f : Frame) (s : State) : (readyFrame p f s).card = s.card := by
  rfl
@[simp] theorem readyFrame_accounts (p : Place) (f : Frame) (s : State) : (readyFrame p f s).accounts = s.accounts := by
  rfl
@[simp] theorem readyFrame_settle (p : Place) (f : Frame) (s : State) : (readyFrame p f s).settle = s.settle := by
  rfl
@[simp] theorem readyFrame_meter (p : Place) (f : Frame) (s : State) : (readyFrame p f s).meter = s.meter := by
  rfl
@[simp] theorem readyFrame_store (p : Place) (f : Frame) (s : State) : (readyFrame p f s).store = s.store := by
  rfl
@[simp] theorem readyFrame_free (p : Place) (f : Frame) (s : State) : (readyFrame p f s).free = s.free := by
  rfl
@[simp] theorem readyFrame_pending (p : Place) (f : Frame) (s : State) : (readyFrame p f s).pending = s.pending := by
  rfl

@[simp] theorem emptyPlace_powered (p : Place) (s : State) : (emptyPlace p s).powered = s.powered := by
  rfl
@[simp] theorem emptyPlace_timeBase (p : Place) (s : State) : (emptyPlace p s).timeBase = s.timeBase := by
  rfl
@[simp] theorem emptyPlace_options (p : Place) (s : State) : (emptyPlace p s).options = s.options := by
  rfl
@[simp] theorem emptyPlace_port (p : Place) (s : State) : (emptyPlace p s).port = s.port := by
  rfl
@[simp] theorem emptyPlace_job (p : Place) (s : State) : (emptyPlace p s).job = s.job := by
  rfl
@[simp] theorem emptyPlace_tariff (p : Place) (s : State) : (emptyPlace p s).tariff = s.tariff := by
  rfl
@[simp] theorem emptyPlace_path (p : Place) (s : State) : (emptyPlace p s).path = s.path := by
  rfl
@[simp] theorem emptyPlace_card (p : Place) (s : State) : (emptyPlace p s).card = s.card := by
  rfl
@[simp] theorem emptyPlace_accounts (p : Place) (s : State) : (emptyPlace p s).accounts = s.accounts := by
  rfl
@[simp] theorem emptyPlace_settle (p : Place) (s : State) : (emptyPlace p s).settle = s.settle := by
  rfl
@[simp] theorem emptyPlace_meter (p : Place) (s : State) : (emptyPlace p s).meter = s.meter := by
  rfl
@[simp] theorem emptyPlace_store (p : Place) (s : State) : (emptyPlace p s).store = s.store := by
  rfl
@[simp] theorem emptyPlace_free (p : Place) (s : State) : (emptyPlace p s).free = s.free := by
  rfl
@[simp] theorem emptyPlace_pending (p : Place) (s : State) : (emptyPlace p s).pending = s.pending := by
  rfl

@[simp] theorem dropExchanges_powered (x : Source) (s : State) : (dropExchanges x s).powered = s.powered := by
  unfold dropExchanges; dsimp only; split <;> rfl
@[simp] theorem dropExchanges_timeBase (x : Source) (s : State) : (dropExchanges x s).timeBase = s.timeBase := by
  unfold dropExchanges; dsimp only; split <;> rfl
@[simp] theorem dropExchanges_options (x : Source) (s : State) : (dropExchanges x s).options = s.options := by
  unfold dropExchanges; dsimp only; split <;> rfl
@[simp] theorem dropExchanges_port (x : Source) (s : State) : (dropExchanges x s).port = s.port := by
  unfold dropExchanges; dsimp only; split <;> rfl
@[simp] theorem dropExchanges_job (x : Source) (s : State) : (dropExchanges x s).job = s.job := by
  unfold dropExchanges; dsimp only; split <;> rfl
@[simp] theorem dropExchanges_tariff (x : Source) (s : State) : (dropExchanges x s).tariff = s.tariff := by
  unfold dropExchanges; dsimp only; split <;> rfl
@[simp] theorem dropExchanges_path (x : Source) (s : State) : (dropExchanges x s).path = s.path := by
  unfold dropExchanges; dsimp only; split <;> rfl
@[simp] theorem dropExchanges_card (x : Source) (s : State) : (dropExchanges x s).card = s.card := by
  unfold dropExchanges; dsimp only; split <;> rfl
@[simp] theorem dropExchanges_accounts (x : Source) (s : State) : (dropExchanges x s).accounts = s.accounts := by
  unfold dropExchanges; dsimp only; split <;> rfl
@[simp] theorem dropExchanges_settle (x : Source) (s : State) : (dropExchanges x s).settle = s.settle := by
  unfold dropExchanges; dsimp only; split <;> rfl
@[simp] theorem dropExchanges_meter (x : Source) (s : State) : (dropExchanges x s).meter = s.meter := by
  unfold dropExchanges; dsimp only; split <;> rfl
@[simp] theorem dropExchanges_store (x : Source) (s : State) : (dropExchanges x s).store = s.store := by
  unfold dropExchanges; dsimp only; split <;> rfl
@[simp] theorem dropExchanges_free (x : Source) (s : State) : (dropExchanges x s).free = s.free := by
  unfold dropExchanges; dsimp only; split <;> rfl
@[simp] theorem dropExchanges_pending (x : Source) (s : State) : (dropExchanges x s).pending = s.pending := by
  unfold dropExchanges; dsimp only; split <;> rfl

@[simp] theorem markPresence_powered (n : Nat) (b : Bool) (s : State) : (markPresence n b s).powered = s.powered := by
  rfl
@[simp] theorem markPresence_timeBase (n : Nat) (b : Bool) (s : State) : (markPresence n b s).timeBase = s.timeBase := by
  rfl
@[simp] theorem markPresence_options (n : Nat) (b : Bool) (s : State) : (markPresence n b s).options = s.options := by
  rfl
@[simp] theorem markPresence_port (n : Nat) (b : Bool) (s : State) : (markPresence n b s).port = s.port := by
  rfl
@[simp] theorem markPresence_job (n : Nat) (b : Bool) (s : State) : (markPresence n b s).job = s.job := by
  rfl
@[simp] theorem markPresence_tariff (n : Nat) (b : Bool) (s : State) : (markPresence n b s).tariff = s.tariff := by
  rfl
@[simp] theorem markPresence_path (n : Nat) (b : Bool) (s : State) : (markPresence n b s).path = s.path := by
  rfl
@[simp] theorem markPresence_card (n : Nat) (b : Bool) (s : State) : (markPresence n b s).card = s.card := by
  rfl
@[simp] theorem markPresence_accounts (n : Nat) (b : Bool) (s : State) : (markPresence n b s).accounts = s.accounts := by
  rfl
@[simp] theorem markPresence_settle (n : Nat) (b : Bool) (s : State) : (markPresence n b s).settle = s.settle := by
  rfl
@[simp] theorem markPresence_meter (n : Nat) (b : Bool) (s : State) : (markPresence n b s).meter = s.meter := by
  rfl
@[simp] theorem markPresence_store (n : Nat) (b : Bool) (s : State) : (markPresence n b s).store = s.store := by
  rfl
@[simp] theorem markPresence_free (n : Nat) (b : Bool) (s : State) : (markPresence n b s).free = s.free := by
  rfl
@[simp] theorem markPresence_pending (n : Nat) (b : Bool) (s : State) : (markPresence n b s).pending = s.pending := by
  rfl

@[simp] theorem handOwn_powered (o : Origin) (b : Payload) (s : State) : (handOwn o b s).powered = s.powered := by
  rfl
@[simp] theorem handOwn_timeBase (o : Origin) (b : Payload) (s : State) : (handOwn o b s).timeBase = s.timeBase := by
  rfl
@[simp] theorem handOwn_options (o : Origin) (b : Payload) (s : State) : (handOwn o b s).options = s.options := by
  rfl
@[simp] theorem handOwn_port (o : Origin) (b : Payload) (s : State) : (handOwn o b s).port = s.port := by
  rfl
@[simp] theorem handOwn_job (o : Origin) (b : Payload) (s : State) : (handOwn o b s).job = s.job := by
  rfl
@[simp] theorem handOwn_tariff (o : Origin) (b : Payload) (s : State) : (handOwn o b s).tariff = s.tariff := by
  rfl
@[simp] theorem handOwn_path (o : Origin) (b : Payload) (s : State) : (handOwn o b s).path = s.path := by
  rfl
@[simp] theorem handOwn_card (o : Origin) (b : Payload) (s : State) : (handOwn o b s).card = s.card := by
  rfl
@[simp] theorem handOwn_line (o : Origin) (b : Payload) (s : State) : (handOwn o b s).line = s.line := by
  rfl
@[simp] theorem handOwn_settle (o : Origin) (b : Payload) (s : State) : (handOwn o b s).settle = s.settle := by
  rfl
@[simp] theorem handOwn_meter (o : Origin) (b : Payload) (s : State) : (handOwn o b s).meter = s.meter := by
  rfl
@[simp] theorem handOwn_store (o : Origin) (b : Payload) (s : State) : (handOwn o b s).store = s.store := by
  rfl
@[simp] theorem handOwn_free (o : Origin) (b : Payload) (s : State) : (handOwn o b s).free = s.free := by
  rfl
@[simp] theorem handOwn_pending (o : Origin) (b : Payload) (s : State) : (handOwn o b s).pending = s.pending := by
  rfl

@[simp] theorem setOutbound_powered (l : List OutEntry) (s : State) : (setOutbound l s).powered = s.powered := by
  unfold setOutbound; simp
@[simp] theorem setOutbound_timeBase (l : List OutEntry) (s : State) : (setOutbound l s).timeBase = s.timeBase := by
  unfold setOutbound; simp
@[simp] theorem setOutbound_options (l : List OutEntry) (s : State) : (setOutbound l s).options = s.options := by
  unfold setOutbound; simp
@[simp] theorem setOutbound_port (l : List OutEntry) (s : State) : (setOutbound l s).port = s.port := by
  unfold setOutbound; simp
@[simp] theorem setOutbound_job (l : List OutEntry) (s : State) : (setOutbound l s).job = s.job := by
  unfold setOutbound; simp
@[simp] theorem setOutbound_tariff (l : List OutEntry) (s : State) : (setOutbound l s).tariff = s.tariff := by
  unfold setOutbound; simp
@[simp] theorem setOutbound_path (l : List OutEntry) (s : State) : (setOutbound l s).path = s.path := by
  unfold setOutbound; simp
@[simp] theorem setOutbound_card (l : List OutEntry) (s : State) : (setOutbound l s).card = s.card := by
  unfold setOutbound; simp
@[simp] theorem setOutbound_line (l : List OutEntry) (s : State) : (setOutbound l s).line = s.line := by
  unfold setOutbound; simp
@[simp] theorem setOutbound_accounts (l : List OutEntry) (s : State) : (setOutbound l s).accounts = s.accounts := by
  unfold setOutbound; simp
@[simp] theorem setOutbound_meter (l : List OutEntry) (s : State) : (setOutbound l s).meter = s.meter := by
  unfold setOutbound; simp
@[simp] theorem setOutbound_free (l : List OutEntry) (s : State) : (setOutbound l s).free = s.free := by
  unfold setOutbound; simp
@[simp] theorem setOutbound_pending (l : List OutEntry) (s : State) : (setOutbound l s).pending = s.pending := by
  unfold setOutbound; simp

@[simp] theorem addOutbound_powered (e : OutEntry) (s : State) : (addOutbound e s).powered = s.powered := by
  unfold addOutbound; simp
@[simp] theorem addOutbound_timeBase (e : OutEntry) (s : State) : (addOutbound e s).timeBase = s.timeBase := by
  unfold addOutbound; simp
@[simp] theorem addOutbound_options (e : OutEntry) (s : State) : (addOutbound e s).options = s.options := by
  unfold addOutbound; simp
@[simp] theorem addOutbound_port (e : OutEntry) (s : State) : (addOutbound e s).port = s.port := by
  unfold addOutbound; simp
@[simp] theorem addOutbound_job (e : OutEntry) (s : State) : (addOutbound e s).job = s.job := by
  unfold addOutbound; simp
@[simp] theorem addOutbound_tariff (e : OutEntry) (s : State) : (addOutbound e s).tariff = s.tariff := by
  unfold addOutbound; simp
@[simp] theorem addOutbound_path (e : OutEntry) (s : State) : (addOutbound e s).path = s.path := by
  unfold addOutbound; simp
@[simp] theorem addOutbound_card (e : OutEntry) (s : State) : (addOutbound e s).card = s.card := by
  unfold addOutbound; simp
@[simp] theorem addOutbound_line (e : OutEntry) (s : State) : (addOutbound e s).line = s.line := by
  unfold addOutbound; simp
@[simp] theorem addOutbound_accounts (e : OutEntry) (s : State) : (addOutbound e s).accounts = s.accounts := by
  unfold addOutbound; simp
@[simp] theorem addOutbound_meter (e : OutEntry) (s : State) : (addOutbound e s).meter = s.meter := by
  unfold addOutbound; simp
@[simp] theorem addOutbound_free (e : OutEntry) (s : State) : (addOutbound e s).free = s.free := by
  unfold addOutbound; simp
@[simp] theorem addOutbound_pending (e : OutEntry) (s : State) : (addOutbound e s).pending = s.pending := by
  unfold addOutbound; simp

@[simp] theorem setRefunds_powered (t : WriteTag) (l : List RefundEntry) (s : State) : (setRefunds t l s).powered = s.powered := by
  unfold setRefunds; simp
@[simp] theorem setRefunds_timeBase (t : WriteTag) (l : List RefundEntry) (s : State) : (setRefunds t l s).timeBase = s.timeBase := by
  unfold setRefunds; simp
@[simp] theorem setRefunds_options (t : WriteTag) (l : List RefundEntry) (s : State) : (setRefunds t l s).options = s.options := by
  unfold setRefunds; simp
@[simp] theorem setRefunds_port (t : WriteTag) (l : List RefundEntry) (s : State) : (setRefunds t l s).port = s.port := by
  unfold setRefunds; simp
@[simp] theorem setRefunds_job (t : WriteTag) (l : List RefundEntry) (s : State) : (setRefunds t l s).job = s.job := by
  unfold setRefunds; simp
@[simp] theorem setRefunds_tariff (t : WriteTag) (l : List RefundEntry) (s : State) : (setRefunds t l s).tariff = s.tariff := by
  unfold setRefunds; simp
@[simp] theorem setRefunds_path (t : WriteTag) (l : List RefundEntry) (s : State) : (setRefunds t l s).path = s.path := by
  unfold setRefunds; simp
@[simp] theorem setRefunds_line (t : WriteTag) (l : List RefundEntry) (s : State) : (setRefunds t l s).line = s.line := by
  unfold setRefunds; simp
@[simp] theorem setRefunds_accounts (t : WriteTag) (l : List RefundEntry) (s : State) : (setRefunds t l s).accounts = s.accounts := by
  unfold setRefunds; simp
@[simp] theorem setRefunds_settle (t : WriteTag) (l : List RefundEntry) (s : State) : (setRefunds t l s).settle = s.settle := by
  unfold setRefunds; simp
@[simp] theorem setRefunds_meter (t : WriteTag) (l : List RefundEntry) (s : State) : (setRefunds t l s).meter = s.meter := by
  unfold setRefunds; simp
@[simp] theorem setRefunds_free (t : WriteTag) (l : List RefundEntry) (s : State) : (setRefunds t l s).free = s.free := by
  unfold setRefunds; simp
@[simp] theorem setRefunds_pending (t : WriteTag) (l : List RefundEntry) (s : State) : (setRefunds t l s).pending = s.pending := by
  unfold setRefunds; simp

@[simp] theorem fillRefund_powered (a b c : Nat) (s : State) : (fillRefund a b c s).powered = s.powered := by
  unfold fillRefund; simp
@[simp] theorem fillRefund_timeBase (a b c : Nat) (s : State) : (fillRefund a b c s).timeBase = s.timeBase := by
  unfold fillRefund; simp
@[simp] theorem fillRefund_options (a b c : Nat) (s : State) : (fillRefund a b c s).options = s.options := by
  unfold fillRefund; simp
@[simp] theorem fillRefund_port (a b c : Nat) (s : State) : (fillRefund a b c s).port = s.port := by
  unfold fillRefund; simp
@[simp] theorem fillRefund_job (a b c : Nat) (s : State) : (fillRefund a b c s).job = s.job := by
  unfold fillRefund; simp
@[simp] theorem fillRefund_tariff (a b c : Nat) (s : State) : (fillRefund a b c s).tariff = s.tariff := by
  unfold fillRefund; simp
@[simp] theorem fillRefund_path (a b c : Nat) (s : State) : (fillRefund a b c s).path = s.path := by
  unfold fillRefund; simp
@[simp] theorem fillRefund_line (a b c : Nat) (s : State) : (fillRefund a b c s).line = s.line := by
  unfold fillRefund; simp
@[simp] theorem fillRefund_accounts (a b c : Nat) (s : State) : (fillRefund a b c s).accounts = s.accounts := by
  unfold fillRefund; simp
@[simp] theorem fillRefund_settle (a b c : Nat) (s : State) : (fillRefund a b c s).settle = s.settle := by
  unfold fillRefund; simp
@[simp] theorem fillRefund_meter (a b c : Nat) (s : State) : (fillRefund a b c s).meter = s.meter := by
  unfold fillRefund; simp
@[simp] theorem fillRefund_free (a b c : Nat) (s : State) : (fillRefund a b c s).free = s.free := by
  unfold fillRefund; simp
@[simp] theorem fillRefund_pending (a b c : Nat) (s : State) : (fillRefund a b c s).pending = s.pending := by
  unfold fillRefund; simp

@[simp] theorem removeRefund_powered (a b : Nat) (s : State) : (removeRefund a b s).powered = s.powered := by
  unfold removeRefund; split <;> simp
@[simp] theorem removeRefund_timeBase (a b : Nat) (s : State) : (removeRefund a b s).timeBase = s.timeBase := by
  unfold removeRefund; split <;> simp
@[simp] theorem removeRefund_options (a b : Nat) (s : State) : (removeRefund a b s).options = s.options := by
  unfold removeRefund; split <;> simp
@[simp] theorem removeRefund_port (a b : Nat) (s : State) : (removeRefund a b s).port = s.port := by
  unfold removeRefund; split <;> simp
@[simp] theorem removeRefund_job (a b : Nat) (s : State) : (removeRefund a b s).job = s.job := by
  unfold removeRefund; split <;> simp
@[simp] theorem removeRefund_tariff (a b : Nat) (s : State) : (removeRefund a b s).tariff = s.tariff := by
  unfold removeRefund; split <;> simp
@[simp] theorem removeRefund_path (a b : Nat) (s : State) : (removeRefund a b s).path = s.path := by
  unfold removeRefund; split <;> simp
@[simp] theorem removeRefund_line (a b : Nat) (s : State) : (removeRefund a b s).line = s.line := by
  unfold removeRefund; split <;> simp
@[simp] theorem removeRefund_accounts (a b : Nat) (s : State) : (removeRefund a b s).accounts = s.accounts := by
  unfold removeRefund; split <;> simp
@[simp] theorem removeRefund_settle (a b : Nat) (s : State) : (removeRefund a b s).settle = s.settle := by
  unfold removeRefund; split <;> simp
@[simp] theorem removeRefund_meter (a b : Nat) (s : State) : (removeRefund a b s).meter = s.meter := by
  unfold removeRefund; split <;> simp
@[simp] theorem removeRefund_free (a b : Nat) (s : State) : (removeRefund a b s).free = s.free := by
  unfold removeRefund; split <;> simp
@[simp] theorem removeRefund_pending (a b : Nat) (s : State) : (removeRefund a b s).pending = s.pending := by
  unfold removeRefund; split <;> simp

@[simp] theorem startWrite_powered (p : WritePurpose) (i : PurseImage) (q : Purse) (s : State) : (startWrite p i q s).powered = s.powered := by
  rfl
@[simp] theorem startWrite_timeBase (p : WritePurpose) (i : PurseImage) (q : Purse) (s : State) : (startWrite p i q s).timeBase = s.timeBase := by
  rfl
@[simp] theorem startWrite_options (p : WritePurpose) (i : PurseImage) (q : Purse) (s : State) : (startWrite p i q s).options = s.options := by
  rfl
@[simp] theorem startWrite_port (p : WritePurpose) (i : PurseImage) (q : Purse) (s : State) : (startWrite p i q s).port = s.port := by
  rfl
@[simp] theorem startWrite_job (p : WritePurpose) (i : PurseImage) (q : Purse) (s : State) : (startWrite p i q s).job = s.job := by
  rfl
@[simp] theorem startWrite_tariff (p : WritePurpose) (i : PurseImage) (q : Purse) (s : State) : (startWrite p i q s).tariff = s.tariff := by
  rfl
@[simp] theorem startWrite_path (p : WritePurpose) (i : PurseImage) (q : Purse) (s : State) : (startWrite p i q s).path = s.path := by
  rfl
@[simp] theorem startWrite_line (p : WritePurpose) (i : PurseImage) (q : Purse) (s : State) : (startWrite p i q s).line = s.line := by
  rfl
@[simp] theorem startWrite_accounts (p : WritePurpose) (i : PurseImage) (q : Purse) (s : State) : (startWrite p i q s).accounts = s.accounts := by
  rfl
@[simp] theorem startWrite_settle (p : WritePurpose) (i : PurseImage) (q : Purse) (s : State) : (startWrite p i q s).settle = s.settle := by
  rfl
@[simp] theorem startWrite_meter (p : WritePurpose) (i : PurseImage) (q : Purse) (s : State) : (startWrite p i q s).meter = s.meter := by
  rfl
@[simp] theorem startWrite_store (p : WritePurpose) (i : PurseImage) (q : Purse) (s : State) : (startWrite p i q s).store = s.store := by
  rfl
@[simp] theorem startWrite_free (p : WritePurpose) (i : PurseImage) (q : Purse) (s : State) : (startWrite p i q s).free = s.free := by
  rfl
@[simp] theorem startWrite_pending (p : WritePurpose) (i : PurseImage) (q : Purse) (s : State) : (startWrite p i q s).pending = s.pending := by
  rfl

@[simp] theorem enterPath_powered (p : PathState) (s : State) : (enterPath p s).powered = s.powered := by
  unfold enterPath; split <;> rfl
@[simp] theorem enterPath_timeBase (p : PathState) (s : State) : (enterPath p s).timeBase = s.timeBase := by
  unfold enterPath; split <;> rfl
@[simp] theorem enterPath_options (p : PathState) (s : State) : (enterPath p s).options = s.options := by
  unfold enterPath; split <;> rfl
@[simp] theorem enterPath_port (p : PathState) (s : State) : (enterPath p s).port = s.port := by
  unfold enterPath; split <;> rfl
@[simp] theorem enterPath_job (p : PathState) (s : State) : (enterPath p s).job = s.job := by
  unfold enterPath; split <;> rfl
@[simp] theorem enterPath_tariff (p : PathState) (s : State) : (enterPath p s).tariff = s.tariff := by
  unfold enterPath; split <;> rfl
@[simp] theorem enterPath_card (p : PathState) (s : State) : (enterPath p s).card = s.card := by
  unfold enterPath; split <;> rfl
@[simp] theorem enterPath_line (p : PathState) (s : State) : (enterPath p s).line = s.line := by
  unfold enterPath; split <;> rfl
@[simp] theorem enterPath_accounts (p : PathState) (s : State) : (enterPath p s).accounts = s.accounts := by
  unfold enterPath; split <;> rfl
@[simp] theorem enterPath_settle (p : PathState) (s : State) : (enterPath p s).settle = s.settle := by
  unfold enterPath; split <;> rfl
@[simp] theorem enterPath_meter (p : PathState) (s : State) : (enterPath p s).meter = s.meter := by
  unfold enterPath; split <;> rfl
@[simp] theorem enterPath_store (p : PathState) (s : State) : (enterPath p s).store = s.store := by
  unfold enterPath; split <;> rfl
@[simp] theorem enterPath_free (p : PathState) (s : State) : (enterPath p s).free = s.free := by
  unfold enterPath; split <;> rfl
@[simp] theorem enterPath_pending (p : PathState) (s : State) : (enterPath p s).pending = s.pending := by
  unfold enterPath; split <;> rfl

@[simp] theorem writeCheckpoint_powered  (s : State) : (writeCheckpoint s).powered = s.powered := by
  unfold writeCheckpoint; split <;> simp
@[simp] theorem writeCheckpoint_timeBase  (s : State) : (writeCheckpoint s).timeBase = s.timeBase := by
  unfold writeCheckpoint; split <;> simp
@[simp] theorem writeCheckpoint_options  (s : State) : (writeCheckpoint s).options = s.options := by
  unfold writeCheckpoint; split <;> simp
@[simp] theorem writeCheckpoint_port  (s : State) : (writeCheckpoint s).port = s.port := by
  unfold writeCheckpoint; split <;> simp
@[simp] theorem writeCheckpoint_job  (s : State) : (writeCheckpoint s).job = s.job := by
  unfold writeCheckpoint; split <;> simp
@[simp] theorem writeCheckpoint_tariff  (s : State) : (writeCheckpoint s).tariff = s.tariff := by
  unfold writeCheckpoint; split <;> simp
@[simp] theorem writeCheckpoint_path  (s : State) : (writeCheckpoint s).path = s.path := by
  unfold writeCheckpoint; split <;> simp
@[simp] theorem writeCheckpoint_card  (s : State) : (writeCheckpoint s).card = s.card := by
  unfold writeCheckpoint; split <;> simp
@[simp] theorem writeCheckpoint_line  (s : State) : (writeCheckpoint s).line = s.line := by
  unfold writeCheckpoint; split <;> simp
@[simp] theorem writeCheckpoint_accounts  (s : State) : (writeCheckpoint s).accounts = s.accounts := by
  unfold writeCheckpoint; split <;> simp
@[simp] theorem writeCheckpoint_settle  (s : State) : (writeCheckpoint s).settle = s.settle := by
  unfold writeCheckpoint; split <;> simp
@[simp] theorem writeCheckpoint_meter  (s : State) : (writeCheckpoint s).meter = s.meter := by
  unfold writeCheckpoint; split <;> simp
@[simp] theorem writeCheckpoint_free  (s : State) : (writeCheckpoint s).free = s.free := by
  unfold writeCheckpoint; split <;> simp
@[simp] theorem writeCheckpoint_pending  (s : State) : (writeCheckpoint s).pending = s.pending := by
  unfold writeCheckpoint; split <;> simp

@[simp] theorem takeSerial_powered (t : WriteTag) (s : State) : (takeSerial t s).powered = s.powered := by
  unfold takeSerial; simp
@[simp] theorem takeSerial_timeBase (t : WriteTag) (s : State) : (takeSerial t s).timeBase = s.timeBase := by
  unfold takeSerial; simp
@[simp] theorem takeSerial_options (t : WriteTag) (s : State) : (takeSerial t s).options = s.options := by
  unfold takeSerial; simp
@[simp] theorem takeSerial_port (t : WriteTag) (s : State) : (takeSerial t s).port = s.port := by
  unfold takeSerial; simp
@[simp] theorem takeSerial_tariff (t : WriteTag) (s : State) : (takeSerial t s).tariff = s.tariff := by
  unfold takeSerial; simp
@[simp] theorem takeSerial_path (t : WriteTag) (s : State) : (takeSerial t s).path = s.path := by
  unfold takeSerial; simp
@[simp] theorem takeSerial_card (t : WriteTag) (s : State) : (takeSerial t s).card = s.card := by
  unfold takeSerial; simp
@[simp] theorem takeSerial_line (t : WriteTag) (s : State) : (takeSerial t s).line = s.line := by
  unfold takeSerial; simp
@[simp] theorem takeSerial_accounts (t : WriteTag) (s : State) : (takeSerial t s).accounts = s.accounts := by
  unfold takeSerial; simp
@[simp] theorem takeSerial_settle (t : WriteTag) (s : State) : (takeSerial t s).settle = s.settle := by
  unfold takeSerial; simp
@[simp] theorem takeSerial_meter (t : WriteTag) (s : State) : (takeSerial t s).meter = s.meter := by
  unfold takeSerial; simp
@[simp] theorem takeSerial_free (t : WriteTag) (s : State) : (takeSerial t s).free = s.free := by
  unfold takeSerial; simp
@[simp] theorem takeSerial_pending (t : WriteTag) (s : State) : (takeSerial t s).pending = s.pending := by
  unfold takeSerial; simp

@[simp] theorem jobToNone_powered  (s : State) : (jobToNone s).powered = s.powered := by
  unfold jobToNone; simp
@[simp] theorem jobToNone_timeBase  (s : State) : (jobToNone s).timeBase = s.timeBase := by
  unfold jobToNone; simp
@[simp] theorem jobToNone_options  (s : State) : (jobToNone s).options = s.options := by
  unfold jobToNone; simp
@[simp] theorem jobToNone_port  (s : State) : (jobToNone s).port = s.port := by
  unfold jobToNone; simp
@[simp] theorem jobToNone_tariff  (s : State) : (jobToNone s).tariff = s.tariff := by
  unfold jobToNone; simp
@[simp] theorem jobToNone_path  (s : State) : (jobToNone s).path = s.path := by
  unfold jobToNone; simp
@[simp] theorem jobToNone_accounts  (s : State) : (jobToNone s).accounts = s.accounts := by
  unfold jobToNone; simp
@[simp] theorem jobToNone_meter  (s : State) : (jobToNone s).meter = s.meter := by
  unfold jobToNone; simp
@[simp] theorem jobToNone_store  (s : State) : (jobToNone s).store = s.store := by
  unfold jobToNone; simp
@[simp] theorem jobToNone_free  (s : State) : (jobToNone s).free = s.free := by
  unfold jobToNone; simp
@[simp] theorem jobToNone_pending  (s : State) : (jobToNone s).pending = s.pending := by
  unfold jobToNone; simp

@[simp] theorem endJob_powered (r : Route) (s : State) : (endJob r s).powered = s.powered := by
  unfold endJob; dsimp only; split <;> simp
@[simp] theorem endJob_timeBase (r : Route) (s : State) : (endJob r s).timeBase = s.timeBase := by
  unfold endJob; dsimp only; split <;> simp
@[simp] theorem endJob_options (r : Route) (s : State) : (endJob r s).options = s.options := by
  unfold endJob; dsimp only; split <;> simp
@[simp] theorem endJob_tariff (r : Route) (s : State) : (endJob r s).tariff = s.tariff := by
  unfold endJob; dsimp only; split <;> simp
@[simp] theorem endJob_accounts (r : Route) (s : State) : (endJob r s).accounts = s.accounts := by
  unfold endJob; dsimp only; split <;> simp
@[simp] theorem endJob_free (r : Route) (s : State) : (endJob r s).free = s.free := by
  unfold endJob; dsimp only; split <;> simp
@[simp] theorem endJob_pending (r : Route) (s : State) : (endJob r s).pending = s.pending := by
  unfold endJob; dsimp only; split <;> simp

@[simp] theorem loseSheet_powered (r : SheetRecord) (s : State) : (loseSheet s r).powered = s.powered := by
  unfold loseSheet; simp
@[simp] theorem loseSheet_timeBase (r : SheetRecord) (s : State) : (loseSheet s r).timeBase = s.timeBase := by
  unfold loseSheet; simp
@[simp] theorem loseSheet_options (r : SheetRecord) (s : State) : (loseSheet s r).options = s.options := by
  unfold loseSheet; simp
@[simp] theorem loseSheet_port (r : SheetRecord) (s : State) : (loseSheet s r).port = s.port := by
  unfold loseSheet; simp
@[simp] theorem loseSheet_tariff (r : SheetRecord) (s : State) : (loseSheet s r).tariff = s.tariff := by
  unfold loseSheet; simp
@[simp] theorem loseSheet_path (r : SheetRecord) (s : State) : (loseSheet s r).path = s.path := by
  unfold loseSheet; simp
@[simp] theorem loseSheet_card (r : SheetRecord) (s : State) : (loseSheet s r).card = s.card := by
  unfold loseSheet; simp
@[simp] theorem loseSheet_line (r : SheetRecord) (s : State) : (loseSheet s r).line = s.line := by
  unfold loseSheet; simp
@[simp] theorem loseSheet_accounts (r : SheetRecord) (s : State) : (loseSheet s r).accounts = s.accounts := by
  unfold loseSheet; simp
@[simp] theorem loseSheet_settle (r : SheetRecord) (s : State) : (loseSheet s r).settle = s.settle := by
  unfold loseSheet; simp
@[simp] theorem loseSheet_free (r : SheetRecord) (s : State) : (loseSheet s r).free = s.free := by
  unfold loseSheet; simp
@[simp] theorem loseSheet_pending (r : SheetRecord) (s : State) : (loseSheet s r).pending = s.pending := by
  unfold loseSheet; simp

@[simp] theorem faultJob_powered  (s : State) : (faultJob s).powered = s.powered := by
  unfold faultJob; split <;> rfl
@[simp] theorem faultJob_timeBase  (s : State) : (faultJob s).timeBase = s.timeBase := by
  unfold faultJob; split <;> rfl
@[simp] theorem faultJob_options  (s : State) : (faultJob s).options = s.options := by
  unfold faultJob; split <;> rfl
@[simp] theorem faultJob_port  (s : State) : (faultJob s).port = s.port := by
  unfold faultJob; split <;> rfl
@[simp] theorem faultJob_tariff  (s : State) : (faultJob s).tariff = s.tariff := by
  unfold faultJob; split <;> rfl
@[simp] theorem faultJob_path  (s : State) : (faultJob s).path = s.path := by
  unfold faultJob; split <;> rfl
@[simp] theorem faultJob_card  (s : State) : (faultJob s).card = s.card := by
  unfold faultJob; split <;> rfl
@[simp] theorem faultJob_line  (s : State) : (faultJob s).line = s.line := by
  unfold faultJob; split <;> rfl
@[simp] theorem faultJob_accounts  (s : State) : (faultJob s).accounts = s.accounts := by
  unfold faultJob; split <;> rfl
@[simp] theorem faultJob_settle  (s : State) : (faultJob s).settle = s.settle := by
  unfold faultJob; split <;> rfl
@[simp] theorem faultJob_meter  (s : State) : (faultJob s).meter = s.meter := by
  unfold faultJob; split <;> rfl
@[simp] theorem faultJob_store  (s : State) : (faultJob s).store = s.store := by
  unfold faultJob; split <;> rfl
@[simp] theorem faultJob_free  (s : State) : (faultJob s).free = s.free := by
  unfold faultJob; split <;> rfl
@[simp] theorem faultJob_pending  (s : State) : (faultJob s).pending = s.pending := by
  unfold faultJob; split <;> rfl

end Sys2Proof.Machine
end

