-- ==== Sys2Proof/Laws/Ops.lean ====
section
/-! SUPPORT. For the shared operations one lemma each that says once what it does; later proofs cite it instead of
unfolding the operation. -/

namespace Sys2Proof.Machine

/-! ## Power and due times -/

@[simp] theorem whenPowered_on (s : State) (f : State → State) (h : s.powered = true) :
    whenPowered s f = .next (f s) := by simp [whenPowered, h]

@[simp] theorem whenPowered_off (s : State) (f : State → State) (h : s.powered = false) :
    whenPowered s f = .next s := by simp [whenPowered, h]

theorem whenDue_on (d : State → Bool) (s : State) (f : State → State) (h : s.powered = true) (hd : d s = true) :
    whenDue d s f = .next (f s) := by simp [whenDue, h, hd]

theorem whenDue_not (d : State → Bool) (s : State) (f : State → State) (hd : d s = false) :
    whenDue d s f = .next s := by
  unfold whenDue whenPowered
  cases s.powered <;> simp [hd]

/-! ## The port -/

/-- A notice joins the queue, or is lost and leaves the mark (R179). -/
theorem raiseNotice_port (b : NoticeBody) (s : State) :
    (raiseNotice b s).port =
      if s.port.notices.length < 16 then
        { s.port with notices := s.port.notices ++ [{ time := s.timeBase, body := b }] }
      else { s.port with overflow := true } := by
  unfold raiseNotice; split <;> rfl

@[simp] theorem raiseNotice_port_state (b : NoticeBody) (s : State) :
    (raiseNotice b s).port.state = s.port.state := by
  rw [raiseNotice_port]; split <;> rfl

/-- The result of the command in hand (R174). -/
theorem complete_executing (r : Reason) (v : Values) (s : State) (c : Opcode) (h : s.port.state = .executing c) :
    complete r v s = placeResult { command := some c, reason := r, values := v } s := by
  simp [complete, h]

theorem complete_idle (r : Reason) (v : Values) (s : State) (h : ∀ c, s.port.state ≠ .executing c) :
    complete r v s = s := by
  unfold complete; split
  · rename_i c hc; exact absurd hc (h c)
  · rfl

/-- A command in EXECUTING raises the refused count and does nothing else (R173). -/
theorem takeCommand_busy (o : Opcode) (ps : List Byte) (f : State → State) (s : State) (c : Opcode)
    (h : s.port.state = .executing c) :
    takeCommand o ps f s = s.setPort { s.port with refused := min 255 (s.port.refused + 1) } := by
  simp [takeCommand, h]

/-- A command taken in IDLE or RESULT: an unread result is discarded, and the owner runs in EXECUTING (R173). -/
theorem takeCommand_taken (o : Opcode) (ps : List Byte) (f : State → State) (s : State)
    (h : ∀ c, s.port.state ≠ .executing c) (hp : ps.length ≤ 240) :
    takeCommand o ps f s = f ((discardResult s).setPort { (discardResult s).port with state := .executing o }) := by
  unfold takeCommand; split
  · rename_i c hc; exact absurd hc (h c)
  · simp [Nat.not_lt.mpr hp]

theorem takeBare_taken (o : Opcode) (f : State → State) (s : State) (h : ∀ c, s.port.state ≠ .executing c) :
    takeBare o [] f s = f ((discardResult s).setPort { (discardResult s).port with state := .executing o }) := by
  unfold takeBare
  rw [takeCommand_taken o [] _ s h (by simp)]
  simp

/-! ## The store -/

/-- A write joins the queue and begins where none is in progress, or waits for a place (R181). -/
theorem submit_room (t : WriteTag) (w : RecordWrite) (s : State) (h : s.store.taken < 8) :
    submit t w s = beginWrite (s.setStore { s.store with queue := s.store.queue ++ [{ what := w, tag := t }] }) := by
  simp [submit, h]

theorem submit_full (t : WriteTag) (w : RecordWrite) (s : State) (h : ¬ s.store.taken < 8) :
    submit t w s = s.setStore { s.store with waiting := s.store.waiting ++ [{ what := w, tag := t }] } := by
  simp [submit, h]

@[simp] theorem beginWrite_records (s : State) : (beginWrite s).store.records = s.store.records := by
  unfold beginWrite; split <;> rfl

/-- No submission changes the stored records: only a completed write does (R181). -/
@[simp] theorem submit_records (t : WriteTag) (w : RecordWrite) (s : State) :
    (submit t w s).store.records = s.store.records := by
  unfold submit; split <;> simp

/-! ## The path monitor -/

@[simp] theorem enterPath_state (p : PathState) (s : State) : (enterPath p s).path.state = p := by
  unfold enterPath; split <;> rfl

@[simp] theorem enterPath_queue (p : PathState) (s : State) : (enterPath p s).path.queue = s.path.queue := by
  unfold enterPath; split <;> rfl

/-- A filter's count never passes 2 (R43). -/
theorem Filter.sample_count (r : Bool) (t : TimePoint) (f : Filter) (h : f.count ≤ 2) :
    (f.sample r t).count ≤ 2 := by
  unfold Filter.sample; split
  · simp
  · split
    · dsimp only; omega
    · simp

/-! ## Lists in key order -/

theorem mem_putSorted {α : Type} (key : α → Nat) (a b : α) (l : List α) (h : b ∈ putSorted key a l) :
    b = a ∨ b ∈ l := by
  induction l with
  | nil => simp [putSorted] at h; exact .inl h
  | cons x rest ih =>
    unfold putSorted at h
    split at h
    · rcases List.mem_cons.mp h with h | h
      · exact .inl h
      · exact .inr h
    · split at h
      · rcases List.mem_cons.mp h with h | h
        · exact .inl h
        · exact .inr (List.mem_cons_of_mem _ h)
      · rcases List.mem_cons.mp h with h | h
        · exact .inr (by simp [h])
        · rcases ih h with h | h
          · exact .inl h
          · exact .inr (List.mem_cons_of_mem _ h)

theorem mem_dropKey {α : Type} (key : α → Nat) (k : Nat) (b : α) (l : List α) (h : b ∈ dropKey key k l) : b ∈ l := by
  unfold dropKey at h; exact List.mem_of_mem_filter h

end Sys2Proof.Machine
end

