-- ==== Sys2Proof/Laws/PerInstr.lean ====
section
/-! SUPPORT. The family `Wire` of LAWS.json, a statement about each command as syntax: a well-formed command that a
message carries has an opcode of the catalogue that reads back and at most 240 parameter bytes (R190); one that a
frame carries has the payload length of its kind (R188). -/

namespace Sys2Proof.Laws.Wire

/-- What the family says of a command. -/
def Statement (i : Instr) : Prop :=
  i.wf = true →
    (∀ o ps, i = Instr.ofMessage o ps → Machine.Opcode.ofCode (Machine.Opcode.code o) = some o ∧ ps.length ≤ 240) ∧
    (∀ f, i = Instr.ofFrame f → kindLength f.body.kind = some f.body.bytes.length)

/-- Every opcode reads back (R190). -/
theorem opcode_reads_back (o : Machine.Opcode) : Machine.Opcode.ofCode (Machine.Opcode.code o) = some o := by
  cases o <;> rfl

theorem spell_length (width n : Nat) : (spell width n).length = width := by
  induction width with
  | zero => rfl
  | succ w ih => simp [spell, ih]

/-- Every payload has the length of its kind (R188). -/
theorem payload_length (p : Payload) : kindLength p.kind = some p.bytes.length := by
  cases p <;> simp [Payload.kind, Payload.bytes, kindLength, spell_length]

/-- A command that no message carries. -/
theorem of_no_message (i : Instr) (h : ∀ o ps, i ≠ Instr.ofMessage o ps) : Statement i :=
  fun _ => ⟨fun o ps e => absurd e (h o ps), fun f _ => payload_length f.body⟩

/-- A command that a message carries with parameters that fit. -/
theorem of_message (i : Instr) (h : i.wf = true → ∀ o ps, i = Instr.ofMessage o ps → ps.length ≤ 240) : Statement i :=
  fun w => ⟨fun o ps e => ⟨opcode_reads_back o, h w o ps e⟩, fun f _ => payload_length f.body⟩

theorem powerOn : Statement .powerOn :=
  of_no_message _ fun o _ e => by cases o <;> cases e

theorem powerLoss : Statement .powerLoss :=
  of_no_message _ fun o _ e => by cases o <;> cases e

theorem interruptedCardWaitEnd : Statement .interruptedCardWaitEnd :=
  of_no_message _ fun o _ e => by cases o <;> cases e

theorem status (params : List Byte) : Statement (.status params) :=
  of_message _ fun w o ps e => by
    cases o <;> cases e
    simpa [Instr.wf, paramsFit] using w

theorem readNotice (params : List Byte) : Statement (.readNotice params) :=
  of_message _ fun w o ps e => by
    cases o <;> cases e
    simpa [Instr.wf, paramsFit] using w

theorem setOptions (params : List Byte) : Statement (.setOptions params) :=
  of_message _ fun w o ps e => by
    cases o <;> cases e
    simpa [Instr.wf, paramsFit] using w

theorem loadTariff (params : List Byte) : Statement (.loadTariff params) :=
  of_message _ fun w o ps e => by
    cases o <;> cases e
    simpa [Instr.wf, paramsFit] using w

theorem loadProfile (params : List Byte) : Statement (.loadProfile params) :=
  of_message _ fun w o ps e => by
    cases o <;> cases e
    simpa [Instr.wf, paramsFit] using w

theorem openJob (params : List Byte) : Statement (.openJob params) :=
  of_message _ fun w o ps e => by
    cases o <;> cases e
    simpa [Instr.wf, paramsFit] using w

theorem feed (params : List Byte) : Statement (.feed params) :=
  of_message _ fun w o ps e => by
    cases o <;> cases e
    simpa [Instr.wf, paramsFit] using w

theorem closeJob (params : List Byte) : Statement (.closeJob params) :=
  of_message _ fun w o ps e => by
    cases o <;> cases e
    simpa [Instr.wf, paramsFit] using w

theorem readLost (params : List Byte) : Statement (.readLost params) :=
  of_message _ fun w o ps e => by
    cases o <;> cases e
    simpa [Instr.wf, paramsFit] using w

theorem resume (params : List Byte) : Statement (.resume params) :=
  of_message _ fun w o ps e => by
    cases o <;> cases e
    simpa [Instr.wf, paramsFit] using w

theorem purgeStart (params : List Byte) : Statement (.purgeStart params) :=
  of_message _ fun w o ps e => by
    cases o <;> cases e
    simpa [Instr.wf, paramsFit] using w

theorem purgeEnd (params : List Byte) : Statement (.purgeEnd params) :=
  of_message _ fun w o ps e => by
    cases o <;> cases e
    simpa [Instr.wf, paramsFit] using w

theorem serviceClear (params : List Byte) : Statement (.serviceClear params) :=
  of_message _ fun w o ps e => by
    cases o <;> cases e
    simpa [Instr.wf, paramsFit] using w

theorem readMeters (params : List Byte) : Statement (.readMeters params) :=
  of_message _ fun w o ps e => by
    cases o <;> cases e
    simpa [Instr.wf, paramsFit] using w

theorem readRoster (params : List Byte) : Statement (.readRoster params) :=
  of_message _ fun w o ps e => by
    cases o <;> cases e
    simpa [Instr.wf, paramsFit] using w

theorem accountAdd (params : List Byte) : Statement (.accountAdd params) :=
  of_message _ fun w o ps e => by
    cases o <;> cases e
    simpa [Instr.wf, paramsFit] using w

theorem accountCredit (params : List Byte) : Statement (.accountCredit params) :=
  of_message _ fun w o ps e => by
    cases o <;> cases e
    simpa [Instr.wf, paramsFit] using w

theorem accountSet (params : List Byte) : Statement (.accountSet params) :=
  of_message _ fun w o ps e => by
    cases o <;> cases e
    simpa [Instr.wf, paramsFit] using w

theorem accountRemove (params : List Byte) : Statement (.accountRemove params) :=
  of_message _ fun w o ps e => by
    cases o <;> cases e
    simpa [Instr.wf, paramsFit] using w

theorem readAccount (params : List Byte) : Statement (.readAccount params) :=
  of_message _ fun w o ps e => by
    cases o <;> cases e
    simpa [Instr.wf, paramsFit] using w

theorem listAccounts (params : List Byte) : Statement (.listAccounts params) :=
  of_message _ fun w o ps e => by
    cases o <;> cases e
    simpa [Instr.wf, paramsFit] using w

theorem readStatement (params : List Byte) : Statement (.readStatement params) :=
  of_message _ fun w o ps e => by
    cases o <;> cases e
    simpa [Instr.wf, paramsFit] using w

theorem readRefunds (params : List Byte) : Statement (.readRefunds params) :=
  of_message _ fun w o ps e => by
    cases o <;> cases e
    simpa [Instr.wf, paramsFit] using w

theorem discardRefund (params : List Byte) : Statement (.discardRefund params) :=
  of_message _ fun w o ps e => by
    cases o <;> cases e
    simpa [Instr.wf, paramsFit] using w

theorem releaseEscrow (params : List Byte) : Statement (.releaseEscrow params) :=
  of_message _ fun w o ps e => by
    cases o <;> cases e
    simpa [Instr.wf, paramsFit] using w

theorem restart (params : List Byte) : Statement (.restart params) :=
  of_message _ fun w o ps e => by
    cases o <;> cases e
    simpa [Instr.wf, paramsFit] using w

theorem unknownCommandMessage (bytes : List Byte) : Statement (.unknownCommandMessage bytes) :=
  of_no_message _ fun o _ e => by cases o <;> cases e

theorem readTransaction (clocked : Nat) : Statement (.readTransaction clocked) :=
  of_no_message _ fun o _ e => by cases o <;> cases e

theorem storeWriteComplete : Statement .storeWriteComplete :=
  of_no_message _ fun o _ e => by cases o <;> cases e

theorem leadingEdge (sensor : PathSensor) : Statement (.leadingEdge sensor) :=
  of_no_message _ fun o _ e => by cases o <;> cases e

theorem trailingEdge (sensor : PathSensor) : Statement (.trailingEdge sensor) :=
  of_no_message _ fun o _ e => by cases o <;> cases e

theorem doorOpenEdge : Statement .doorOpenEdge :=
  of_no_message _ fun o _ e => by cases o <;> cases e

theorem doorClosedEdge : Statement .doorClosedEdge :=
  of_no_message _ fun o _ e => by cases o <;> cases e

theorem windowDeadline (sheet : Nat) : Statement (.windowDeadline sheet) :=
  of_no_message _ fun o _ e => by cases o <;> cases e

theorem purgeSettlingWaitEnd : Statement .purgeSettlingWaitEnd :=
  of_no_message _ fun o _ e => by cases o <;> cases e

theorem periodicPostDue : Statement .periodicPostDue :=
  of_no_message _ fun o _ e => by cases o <;> cases e

theorem cardInsertion : Statement .cardInsertion :=
  of_no_message _ fun o _ e => by cases o <;> cases e

theorem cardRemoval : Statement .cardRemoval :=
  of_no_message _ fun o _ e => by cases o <;> cases e

theorem cardReadAnswer (bytes : List Byte) : Statement (.cardReadAnswer bytes) :=
  of_no_message _ fun o _ e => by cases o <;> cases e

theorem cardWriteAck : Statement .cardWriteAck :=
  of_no_message _ fun o _ e => by cases o <;> cases e

theorem cardAnswerDeadline : Statement .cardAnswerDeadline :=
  of_no_message _ fun o _ e => by cases o <;> cases e

theorem roll (head : FrameHead) (fields : RollFields) : Statement (.roll head fields) :=
  of_no_message _ fun o _ e => by cases o <;> cases e

theorem holdRequest (head : FrameHead) (fields : HoldRequestFields) : Statement (.holdRequest head fields) :=
  of_no_message _ fun o _ e => by cases o <;> cases e

theorem topUpRequest (head : FrameHead) (fields : TopUpRequestFields) : Statement (.topUpRequest head fields) :=
  of_no_message _ fun o _ e => by cases o <;> cases e

theorem post (head : FrameHead) (fields : PostFields) : Statement (.post head fields) :=
  of_no_message _ fun o _ e => by cases o <;> cases e

theorem holdAnswer (head : FrameHead) (fields : HoldAnswerFields) : Statement (.holdAnswer head fields) :=
  of_no_message _ fun o _ e => by cases o <;> cases e

theorem postAnswer (head : FrameHead) (fields : PostAnswerFields) : Statement (.postAnswer head fields) :=
  of_no_message _ fun o _ e => by cases o <;> cases e

theorem escrowQuery (head : FrameHead) (fields : EscrowFields) : Statement (.escrowQuery head fields) :=
  of_no_message _ fun o _ e => by cases o <;> cases e

theorem escrowAnswer (head : FrameHead) (fields : EscrowAnswerFields) : Statement (.escrowAnswer head fields) :=
  of_no_message _ fun o _ e => by cases o <;> cases e

theorem escrowRelease (head : FrameHead) (fields : EscrowFields) : Statement (.escrowRelease head fields) :=
  of_no_message _ fun o _ e => by cases o <;> cases e

theorem releaseAnswer (head : FrameHead) (fields : ReleaseAnswerFields) : Statement (.releaseAnswer head fields) :=
  of_no_message _ fun o _ e => by cases o <;> cases e

theorem frameDiscarded (bytes : List Byte) : Statement (.frameDiscarded bytes) :=
  of_no_message _ fun o _ e => by cases o <;> cases e

theorem frameSendStart (idle : Nat) : Statement (.frameSendStart idle) :=
  of_no_message _ fun o _ e => by cases o <;> cases e

theorem frameSent : Statement .frameSent :=
  of_no_message _ fun o _ e => by cases o <;> cases e

theorem collision : Statement .collision :=
  of_no_message _ fun o _ e => by cases o <;> cases e

theorem exchangeAnswerDeadline : Statement .exchangeAnswerDeadline :=
  of_no_message _ fun o _ e => by cases o <;> cases e

theorem exchangeStart : Statement .exchangeStart :=
  of_no_message _ fun o _ e => by cases o <;> cases e

theorem joiningWindowEnd : Statement .joiningWindowEnd :=
  of_no_message _ fun o _ e => by cases o <;> cases e

theorem rollAnswerDelayEnd : Statement .rollAnswerDelayEnd :=
  of_no_message _ fun o _ e => by cases o <;> cases e

theorem accountRequestTaken : Statement .accountRequestTaken :=
  of_no_message _ fun o _ e => by cases o <;> cases e

theorem holdLapse (hold : HoldId) : Statement (.holdLapse hold) :=
  of_no_message _ fun o _ e => by cases o <;> cases e

theorem outboundRound : Statement .outboundRound :=
  of_no_message _ fun o _ e => by cases o <;> cases e

theorem sensorSample (levels : Levels) (door : DoorReading) : Statement (.sensorSample levels door) :=
  of_no_message _ fun o _ e => by cases o <;> cases e

theorem cardPresenceSample (presence : Presence) : Statement (.cardPresenceSample presence) :=
  of_no_message _ fun o _ e => by cases o <;> cases e

theorem lineBusy : Statement .lineBusy :=
  of_no_message _ fun o _ e => by cases o <;> cases e

end Sys2Proof.Laws.Wire
end

