-- ==== Sys2Proof/Laws/Store.lean ====
section
/-! SUPPORT. The store write queue in order (R181): what a submission does to the writes in hand, and to the
records that a start would find. -/

namespace Sys2Proof.Machine

/-- The store begins a write only with none in progress, so a queue in order stays as it is or begins its first write. -/
theorem beginWrite_writes (s : State) (h : ∀ w ∈ s.store.queue, w.what.begun s.meter.record = w.what) :
    (beginWrite s).store.writes = s.store.writes := by
  unfold beginWrite
  split
  · rename_i w rest hc hq
    have := h w (by simp [hq])
    simp [Store.writes, State.setStore, hc, hq, this]
  · rfl

/-- A write other than the meters' is begun with the contents it was submitted with (R165). -/
theorem begun_of_not_meters (m : MeterRecord) (w : RecordWrite) (h : w.isMeters = false) : w.begun m = w := by
  cases w <;> simp_all [RecordWrite.begun, RecordWrite.isMeters]

/-- The write of the present counters is begun with them (R165). -/
theorem begun_meters (m : MeterRecord) : RecordWrite.begun m (.meters m) = .meters m := rfl

/-- A submission to a store in order puts the write at the end of the writes in hand, with room or without (R181). -/
theorem submit_writes (t : WriteTag) (w : RecordWrite) (s : State) (ho : s.store.orderly)
    (hw : w.begun s.meter.record = w) : (submit t w s).store.writes = s.store.writes ++ [w] := by
  obtain ⟨h1, h2, h3⟩ := ho
  by_cases hr : s.store.taken < 8
  · have hn : s.store.waiting = [] := by
      by_contra hne; have := h3 hne; omega
    rw [submit_room _ _ _ hr]
    unfold beginWrite
    cases hc : s.store.current with
    | none =>
      simp [Store.writes, State.setStore, hc, h1 hc, hn, hw]
    | some c =>
      simp [Store.writes, State.setStore, hc, hn]
  · rw [submit_full _ _ _ hr]
    simp [Store.writes, State.setStore]

/-- A submission keeps the store in order (R181). -/
theorem submit_orderly (t : WriteTag) (w : RecordWrite) (s : State) (ho : s.store.orderly) :
    (submit t w s).store.orderly := by
  obtain ⟨h1, h2, h3⟩ := ho
  by_cases hr : s.store.taken < 8
  · have hn : s.store.waiting = [] := by
      by_contra hne; have := h3 hne; omega
    rw [submit_room _ _ _ hr]
    unfold beginWrite
    cases hc : s.store.current with
    | none => simp [Store.orderly, Store.taken, State.setStore, hc, h1 hc, hn]
    | some c =>
      simp [Store.taken, hc] at hr
      simp [Store.orderly, Store.taken, State.setStore, hc, hn]
      omega
  · rw [submit_full _ _ _ hr]
    exact ⟨h1, h2, fun _ => by have h2' := h2; show s.store.taken = 8; omega⟩

/-- A submission changes the store alone (R181). -/
theorem submit_store_only (t : WriteTag) (w : RecordWrite) (s : State) :
    ∃ x, submit t w s = s.setStore x := by
  unfold submit
  split
  · unfold beginWrite; split
    · exact ⟨_, rfl⟩
    · exact ⟨_, rfl⟩
  · exact ⟨_, rfl⟩

/-- The places taken rise by one with room in a store in order (R181). -/
theorem submit_taken (t : WriteTag) (w : RecordWrite) (s : State) (ho : s.store.orderly) (h : s.store.taken < 8) :
    (submit t w s).store.taken = s.store.taken + 1 := by
  rw [submit_room _ _ _ h]
  unfold beginWrite
  cases hc : s.store.current with
  | none => simp [Store.taken, State.setStore, hc, ho.1 hc]
  | some c => simp [Store.taken, State.setStore, hc]

/-- The settled records, every write in hand on top of the stored ones in order (R181). -/
theorem Store.settled_eq (x : Store) : x.settled = x.writes.foldl (fun r w => w.apply r) x.records := by
  simp [Store.settled, Store.after]

/-- Past the last write in hand a start finds the settled records (R182). -/
theorem Store.after_of_le (x : Store) (n : Nat) (h : x.writes.length ≤ n) : x.after n = x.settled := by
  rw [Store.settled_eq, Store.after, List.take_of_length_le h]

/-- A store with no write in hand is settled (R182). -/
@[simp] theorem Store.after_quiet (r : StoreRecords) (n : Nat) : (Store.quiet r).after n = r := by
  simp [Store.after, Store.writes, Store.quiet]

/-- With one more write in hand, a start finds what it would have found, or that write on top of the settled records
(R181, R182). -/
theorem Store.after_of_writes {x y : Store} {w : RecordWrite} (hr : y.records = x.records)
    (hw : y.writes = x.writes ++ [w]) (n : Nat) :
    y.after n = if n ≤ x.writes.length then x.after n else w.apply x.settled := by
  split
  · rename_i h
    simp [Store.after, hr, hw, List.take_append_of_le_length h]
  · rename_i h
    rw [Store.after_of_le y n (by rw [hw]; simp; omega)]
    simp [Store.settled_eq, hr, hw, List.foldl_append]

/-- A submission to a store in order adds its write to the records that a start would find (R181, R182). -/
theorem submit_after (t : WriteTag) (w : RecordWrite) (s : State) (ho : s.store.orderly)
    (hw : w.begun s.meter.record = w) (n : Nat) :
    (submit t w s).store.after n = if n ≤ s.store.writes.length then s.store.after n else w.apply s.store.settled :=
  Store.after_of_writes (submit_records t w s) (submit_writes t w s ho hw) n

/-- Once every write in hand has completed, the records are the settled ones with the submitted write on top (R181). -/
theorem submit_settled (t : WriteTag) (w : RecordWrite) (s : State) (ho : s.store.orderly)
    (hw : w.begun s.meter.record = w) : (submit t w s).store.settled = w.apply s.store.settled := by
  simp [Store.settled_eq, submit_writes t w s ho hw, List.foldl_append]

end Sys2Proof.Machine
end

