-- ==== Sys2Proof/Tests/Slice0.lean ====
section
/-! SUPPORT. Tests of the model: ill-formed terms that `Instr.wf` refuses, figures written out from the spec, one step of
each kind, and for every statement with premises a concrete state and operands that meet them. -/

set_option maxRecDepth 20000

namespace Sys2Proof.Tests

open Sys2Proof.Machine

/-! ## A small station -/

def profile : Profile :=
  { feedReg := 300, regFuse := 400, fuseExit := 350, fuseDuplex := 320, duplexReg := 500, stayStd := 200
    stayLarge := 280, tolerance := 20, pick := 500, thFeed := 8, thReg := 8, thFuse := 8, thDuplex := 8, thExit := 8 }

def tariff : Tariff :=
  { stdMono := 1000, stdColour := 4000, largeMono := 2000, largeColour := 8000, light := 50, normal := 100
    heavy := 150, full := 200, backFace := 80, t1 := 10, t2 := 100, t3 := 1000, d0 := 0, d1 := 5, d2 := 10, d3 := 20 }

def options : Options :=
  { station := some 3, home := some { first := 100, last := 199 }, issuer := 7, allowance := 0, accountBlock := 200
    purseBlock := 100 }

def own : RosterEntry := { station := 3, present := true, home := some { first := 100, last := 199 }, overlap := false }
def near : RosterEntry := { station := 5, present := true, home := some { first := 200, last := 299 }, overlap := false }
def gone : RosterEntry := { station := 6, present := false, home := some { first := 300, last := 399 }, overlap := false }

/-- Station 3, a member of the line with stations 5 and 6, 1000 ms after its start, its path IDLE and its slot EMPTY. -/
def st : State :=
  { State.reset with
    timeBase := 1000
    options := options
    tariff := some tariff
    path := PathMonitor.start (some profile)
    line := { LineUnit.off with state := .member, roster := [own, near, gone] } }

theorem accepts_of {s : State} (h : s.powered = true) (hp : s.port.state = .idle) : s.accepts :=
  ⟨h, fun c hc => by rw [hp] at hc; cases hc⟩

theorem st_accepts : st.accepts := accepts_of rfl rfl

/-! ## Premises of the statements on steps, power and the store -/

def checkpoint : Checkpoint :=
  { serial := 41, funding := .purse, openingCard := some 9001, purse := some { card := 9001, tag := some 77 }
    account := none, funded := 100, charged := 10, delivered := 1000, usage := UsageOf.all 0 }

def write (n : Nat) : QueuedWrite := { what := .serial n, tag := .plain }

/-- A store whose write began 3 ms ago, with queued writes and submitters that wait. -/
def writing (tag : WriteTag) (queue waiting : List QueuedWrite) : State :=
  { st with store := { st.store with current := some ({ write 8 with tag := tag }, 997), queue := queue, waiting := waiting } }

theorem witness_StepRunsFrontCommand : (st.setPending [.lineBusy, .frameSent]).pending = [.lineBusy, .frameSent] := rfl

theorem witness_EmptyQueueAndUnpoweredPart :
    (st.pending = [] ∧ { st with powered := false }.powered = false) ∧
    ((writing .plain [] []).powered = true ∧ (writing .plain [] []).dueEvents ≠ []) ∧
    (st.powered = true ∧ st.dueEvents = []) ∧ Instr.powerLoss ≠ .powerOn := by decide

theorem witness_StartTakesEveryBlockBack :
    st.store.records.checkpoint = none ∧ st.accepts ∧ (finishWrites st).store.records.checkpoint = none :=
  ⟨rfl, st_accepts, rfl⟩

theorem witness_StoreAtPowerLossAndRestart :
    st.powered = true ∧ (writing .plain [write 9] []).accepts ∧
    (writing .plain [write 9] []).store.current = some (write 8, 997) ∧
    (∀ x ∈ (writing .plain [write 9] []).store.queue, x.what.isMeters = false) ∧
    ((writing .plain [write 9] []).store.queue.foldl (fun r x => x.what.apply r)
      ((write 8).what.apply (writing .plain [write 9] []).store.records)).checkpoint = none :=
  ⟨rfl, accepts_of rfl rfl, rfl, by decide, rfl⟩

/-- A request of station 5 in hand, its one write in progress. -/
def answering : State :=
  let posted : InHand :=
    { arrival := { origin := .peer 5 9, body := .roll { first := 0, last := 0, joining := false } }, outstanding := 1
      answer := .postAnswer { status := 0, posted := 5 } }
  { writing .request [] [] with accounts := { st.accounts with inHand := some posted } }

/-- A command whose store write waits for a place. -/
def held : Result := { command := some .loadTariff, reason := .ok, values := .none }

theorem witness_StoreWriteCompletesInOrder :
    elapsed st.timeBase 997 = 3 ∧ (write 8).what.isMeters = false ∧ (write 8).tag ≠ .request ∧
    (writing .plain [] []).store.queue = [] ∧ (writing .plain [write 9] []).store.queue = [write 9] ∧
    (let s := { writing .plain [write 9] [{ write 10 with tag := .command }] with
                port := { st.port with state := .executing .loadTariff, held := some held } }
     s.store.waiting = [{ write 10 with tag := .command }] ∧ s.port.held = some held) ∧
    (answering.store.current = some ({ write 8 with tag := .request }, 997) ∧ answering.store.queue = [] ∧
      answering.store.waiting = [] ∧ answering.line.state = .member ∧
      answering.accounts.inHand.map (fun h => (h.outstanding, h.arrival.origin)) = some (1, .peer 5 9)) := by
  decide

/-! ## Premises of the statements on the engine port -/

def executing : State := { st with port := { st.port with state := .executing .feed, refused := 255 } }

def found : Result := { command := some .readNotice, reason := .ok, values := .notice 1 true st.port.notices.head? }

def metered : MetersOf Counter := MetersOf.all { life := 9, period := 5 }

def metering : QueuedWrite := { what := .meters MeterRecord.factory, tag := .plain }

def account : Account :=
  { number := 150, status := .opened, balance := 400, limit := 100, discount := 10
    figures := FiguresOf.all { life := 7, period := 6 }, statementSerial := 65535 }

/-- The station with one account and the period values of a READ STATEMENT reported. -/
def reported : State :=
  { st with
    port := { st.port with state := .result { command := some .readStatement, reason := .ok, values := .statement account true } }
    accounts := { st.accounts with table := [account], snapshot := some { number := 150, figures := FiguresOf.all 6 } } }

def cleared : State :=
  { st with
    port := { st.port with state := .result { command := some .readMeters, reason := .ok, values := .meters 3 true metered } }
    meter := { record := { counters := metered, clearSerial := 65535 }, snapshot := some (MetersOf.all 5) } }

theorem witness_MessagesRunOrAreRefused :
    (executing.powered = true ∧ executing.port.state = .executing .feed) ∧ [1#8].length ≤ 240 ∧ st.accepts ∧
    Message.read [0x10#8] = .malformed ∧ Message.read ([0x60#8, 0x00#8, 0xA0#8]) = .unknownOpcode ∧
    (Opcode.status ∈ [Opcode.status, .readNotice] ∧ [0#8] ≠ []) :=
  ⟨by decide, by decide, st_accepts, by decide, by decide, by decide⟩

theorem witness_ReadoutsOnlyPlaceTheirResult :
    st.accepts ∧ reported.port.state = .result { command := some .readStatement, reason := .ok, values := .statement account true } ∧
    reported.accounts.find 150 = some account ∧ reported.accounts.find 0 = none ∧ reported.accounts.find 65535 = none :=
  ⟨st_accepts, rfl, by decide, by decide, by decide⟩

theorem witness_ReadTransactionRepliesAndCommits :
    st.port.state = .idle ∧ executing.port.state = .executing .feed ∧
    (let s := { st with port := { st.port with state := .result found } }
     s.port.state = .result found ∧ found.message.length - 1 < found.message.length ∧
     found.values = .notice 1 true st.port.notices.head? ∧ found.message.length ≤ found.message.length) ∧
    (cleared.meter.snapshot = some (MetersOf.all 5) ∧ { cleared with meter := st.meter }.meter.snapshot = none) ∧
    (reported.accounts.snapshot = some { number := 150, figures := FiguresOf.all 6 } ∧
      reported.accounts.find 150 = some account ∧ reported.accounts.find 151 = none ∧ st.accounts.snapshot = none) := by
  decide

theorem witness_ClearsTakeOffWhatWasReported :
    st.accepts ∧
    ((∃ r, cleared.port.state = .result r ∧ r.values = .meters 3 true metered ∧ r.message.length ≤ 400) ∧
      cleared.meter.snapshot = some (MetersOf.all 5) ∧
      -- a meter write that waits, one in progress, and none
      (writing .plain [metering] []).store.queue.any (fun w => w.what.isMeters) = true ∧
      (let s := { st with store := { st.store with current := some (metering, 999) } }
       s.store.current.any (fun w => w.1.what.isMeters) = true ∧
       (s.store.queue ++ s.store.waiting).any (fun w => w.what.isMeters) = false) ∧
      cleared.store.current.any (fun w => w.1.what.isMeters) = false) ∧
    -- the account took a post after its report
    (let s := { reported with accounts := { reported.accounts with table := [{ account with balance := 1 }] } }
     s.accounts.find 150 = some { account with balance := 1 } ∧ { account with balance := 1 } ≠ account) ∧
    (reported.accounts.find 150 = some account ∧ reported.store.orderly ∧
      (∃ r, reported.port.state = .result r ∧ r.values = .statement account true ∧ r.message.length ≤ 400) ∧
      reported.accounts.snapshot = some { number := 150, figures := FiguresOf.all 6 }) :=
  ⟨st_accepts, ⟨⟨_, rfl, rfl, by decide⟩, rfl, by decide, by decide, by decide⟩, by decide, by decide, ⟨fun _ => rfl, by decide, fun h => absurd rfl h⟩,
    ⟨_, rfl, rfl, by decide⟩, rfl⟩

/-! ## Premises of the statements on the tariff, the profile, the options and the opening of jobs -/

def open_ (s : State) (j : JobState) : State := s.setCtx { s.job.ctx with state := j }

/-- A job open, its funding and amounts given. -/
def jobOf (s : State) (j : JobState) (k : FundingKind) (funded : Nat) : State :=
  s.setCtx { s.job.ctx with state := j, serial := some 41, funding := some k, funded := funded }

def path (s : State) (f : PathMonitor → PathMonitor) : State := s.setPath (f s.path)

theorem orderly_of {s : State} (h : s.store = st.store) : s.store.orderly := by
  rw [h]; exact ⟨fun _ => rfl, by decide, fun h => absurd rfl h⟩

theorem witness_LoadsAndOptionsReplaceTheirRecords :
    ((open_ st .running).accepts ∧ (open_ st .running).job.ctx.state ≠ .none ∧
      (st.job.ctx.state = .none ∧ (path st fun p => { p with state := .active }).path.state ≠ .idle) ∧
      (Tariff.read tariff.bytes = some tariff ∧ tariff.inRange = true) ∧ Tariff.read [] = none ∧
      (Tariff.read ({ tariff with d3 := 91 } : Tariff).bytes = some { tariff with d3 := 91 } ∧
        ({ tariff with d3 := 91 } : Tariff).inRange = false) ∧
      (Profile.read profile.bytes = some profile ∧ profile.inRange = true) ∧
      (Profile.read ({ profile with tolerance := 4 } : Profile).bytes = some { profile with tolerance := 4 } ∧
        ({ profile with tolerance := 4 } : Profile).inRange = false) ∧ st.store.orderly) ∧
    (Options.readFields [] = none ∧ Options.readFields options.fields = some options ∧
      (∃ a ∈ reported.accounts.table, Options.defaults.home = none ∧ a.number = 150) ∧
      (∀ a ∈ reported.accounts.table, options.station ≠ none ∧
        ∃ h, options.home = some h ∧ h.first ≤ a.number ∧ a.number ≤ h.last)) :=
  ⟨⟨accepts_of rfl rfl, by decide, by decide, by decide, by decide, by decide, by decide, by decide, orderly_of rfl⟩,
    by decide, by decide, ⟨account, by decide, rfl, rfl⟩, by
      intro a ha; simp only [reported, List.mem_singleton] at ha; subst ha
      exact ⟨by decide, _, rfl, by decide, by decide⟩⟩

def filters (feed door : Bool) : Filters :=
  { st.path.filters with feed := { Filter.start with on := feed }, door := { Filter.start with on := door } }

theorem witness_OpenJobChecksTheStationInOrder :
    (open_ st .running).job.ctx.state ≠ .none ∧ (path st fun p => { p with profile := none }).path.profile = none ∧
    { st with tariff := none }.tariff = none ∧ (path st fun p => { p with state := .service }).path.state = .service ∧
    (path st fun p => { p with filters := filters false true }).path.filters.door.on = true ∧
    ((path st fun p => { p with filters := filters true false }).path.filters.door.on = false ∧
      (path st fun p => { p with filters := filters true false }).path.filters.feed.on = true) ∧
    (st.accepts ∧ st.job.ctx.state = .none ∧ st.path.profile ≠ none ∧ st.tariff ≠ none ∧ st.path.state = .idle ∧
      st.path.filters.clear = true ∧ st.card.state = .empty) ∧
    { st with card := { st.card with state := .rejected .worn } }.card.state = .rejected .worn :=
  ⟨by decide, by decide, by decide, by decide, by decide, by decide,
    ⟨st_accepts, by decide, by decide, by decide, by decide, by decide, by decide⟩, by decide⟩

def purse : Purse := { balance := 500, escrow := 0, station := none, tag := 0, counter := 12 }

/-- A READY purse card 9001. -/
def withCard (p : Purse) : State :=
  { st with card := { st.card with
      state := .ready, identity := some { serial := 9001, kind := .purse, account := 0 }
      image := some { serial := 9001, slot := .a, purse := p } } }

def entry (n : Nat) (x : RefundState) : RefundEntry := { serial := n, tag := 77, charged := 30, state := x }

theorem witness_PurseJobOpensOnAReadyCard :
    ((withCard purse).accepts ∧ (withCard purse).job.ctx.state = .none ∧ (withCard purse).path.profile ≠ none ∧
      (withCard purse).tariff ≠ none ∧ (withCard purse).path.state = .idle ∧ (withCard purse).path.filters.clear = true ∧
      (withCard purse).card.identity = some { serial := 9001, kind := .purse, account := 0 } ∧
      (withCard purse).card.image = some { serial := 9001, slot := .a, purse := purse }) ∧
    ({ purse with escrow := 1, station := some 3 } : Purse).escrow ≠ 0 ∧
    (let full := { withCard purse with card := { (withCard purse).card with refunds := List.replicate 24 (entry 5 .held) } }
     24 ≤ full.card.refunds.length) ∧
    (let last := { withCard purse with card := { (withCard purse).card with refunds := List.replicate 23 (entry 5 .held) } }
     last.card.refunds.length + (if last.card.refundReserved then 1 else 0) < 24 ∧ last.store.taken < 8 ∧
     last.store.orderly) :=
  ⟨⟨accepts_of rfl rfl, by decide, by decide, by decide, by decide, by decide, by decide, by decide⟩, by decide,
    by decide, by decide, by decide, orderly_of rfl⟩

def withAccountCard : State :=
  { st with card := { st.card with state := .ready, identity := some { serial := 9002, kind := .account, account := 299 } } }

theorem witness_AccountJobAsksItsHomeForAHold :
    (st.accepts ∧ st.options.station = some 3 ∧ st.line.state = .member ∧ st.settle.occupied < 16 ∧ st.store.orderly) ∧
    (resolveHome st.line.roster 100 = some own ∧ resolveHome st.line.roster 299 = some near ∧
      resolveHome st.line.roster 300 = some gone ∧ resolveHome st.line.roster 1 = none ∧
      resolveHome st.line.roster 65535 = none) ∧
    { st with line := { st.line with state := .conflict } }.line.state = .conflict ∧
    ({ st with line := { st.line with state := .joining } }.line.state ≠ .conflict ∧
      { st with line := { st.line with state := .joining } }.line.state ≠ .member) ∧
    16 ≤ { st with settle := { st.settle with reservedCard := 16 } }.settle.occupied ∧
    (near.present = true ∧ gone.present = false ∧ options.allowance = 0 ∧
      0 < { st with options := { options with allowance := 1 } }.options.allowance) ∧
    -- a READY ACCOUNT card of account 299
    (withAccountCard.card.state = .ready ∧
      withAccountCard.card.identity = some { serial := 9002, kind := .account, account := 299 }) :=
  ⟨⟨st_accepts, by decide, by decide, by decide, orderly_of rfl⟩, by decide, by decide, by decide, by decide, by decide,
    by decide⟩

/-! ## Premises of the statements on jobs -/

def active (s : State) : State := path s fun p => { p with state := .active }

/-- A job of this kind RUNNING on the ACTIVE path, with this F. -/
def job (k : FundingKind) (funded : Nat) : State := active (jobOf (withCard purse) .running k funded)

def feeding (s : State) : State := s.setPort { s.port with state := .executing .feed }

def mono : Sheet := { size := .std, mode := .mono, faces := 1, front := 0, back := 0 }

/-- A record of the path queue, awaiting an edge at a position of its route, its window open at 1000 ms. -/
def sheet (n : Nat) (position : Nat) (edge : Awaited) : SheetRecord :=
  { number := n, tag := { set := 1, page := n }, sheet := mono, price := 1050, reserve := 11, position := position
    awaits := edge, earliest := 990, latest := 1000, leadTime := some 900 }

def queued (s : State) (q : List SheetRecord) : State := path s fun p => { p with queue := q }

def six : List SheetRecord := [sheet 1 1 .lead, sheet 2 1 .lead, sheet 3 1 .lead, sheet 4 1 .lead, sheet 5 1 .lead, sheet 6 1 .lead]

theorem witness_FeedIsTakenRunningAndInRange :
    (st.accepts ∧ st.job.ctx.state = .none ∧ (open_ st .halted).job.ctx.state = .halted ∧
      (open_ st .settling).job.ctx.state = .settling) ∧
    ((job .purse 100).accepts ∧ (job .purse 100).job.ctx.state = .running) ∧
    -- in range at both ends; out of range by the set, by the page, by the faces, by a coverage
    ((1 ≤ 9999 ∧ 9999 ≤ 9999) ∧ (2 = 1 ∨ 2 = 2) ∧ 3 ≤ 3) ∧ ¬ (1 ≤ 0) ∧ ¬ (10000 ≤ 9999) ∧ ¬ (3 = 1 ∨ 3 = 2) ∧ ¬ (4 ≤ 3) :=
  ⟨⟨st_accepts, by decide, by decide, by decide⟩, ⟨accepts_of rfl rfl, by decide⟩, by decide, by decide, by decide,
    by decide, by decide⟩

theorem witness_FeedGateGrantsWithinTheFreeAmount :
    ((feeding (job .purse 100)).port.state = .executing .feed ∧ (feeding (job .purse 100)).tariff = some tariff) ∧
    6 ≤ (queued (job .purse 100) six).path.queue.length ∧
    65535 ≤ ((job .purse 100).setCtx { (job .purse 100).job.ctx with fed := 65535 }).job.ctx.fed ∧
    (999999 < 999990 + 0 + reservation (tariff.price mono 1 0) ∧ ¬ (999999 < 999989 + 0 + reservation (tariff.price mono 1 0))) ∧
    ((job .offline 9).job.ctx.free < reservation (tariff.price mono 1 0) ∧ (job .offline 9).job.ctx.funding = some .offline) ∧
    (reservation (tariff.price mono 1 0) ≤ (job .purse 10).job.ctx.free ∧ (job .purse 10).path.state = .active ∧
      (job .purse 10).path.queue.length < 6 ∧ (job .purse 10).job.ctx.fed < 65535 ∧ (job .purse 10).accepts) :=
  ⟨by decide, by decide, by decide, by decide, by decide, by decide, by decide, by decide, by decide, accepts_of rfl rfl⟩

def feedOf (reserve : Nat) : PendingFeed :=
  { tag := { set := 1, page := 2 }, sheet := mono, price := reserve * 100, reserve := reserve }

/-- A purse job with a FEED in hand, on a card with this purse. -/
def purseFeed (p : Purse) (tag : Option Nat) (funded : Nat) : State :=
  let s := feeding (active (jobOf (withCard p) .running .purse funded))
  s.setCtx { s.job.ctx with purse := some { card := 9001, tag := tag }, openingCard := some 9001 }

def escrowed : Purse := { balance := 400, escrow := 100, station := some 3, tag := 77, counter := 13 }

/-- The move of 100 of a FEED in hand, sent to the card 20 ms ago. -/
def moving (j : JobState) : State :=
  let s := open_ (purseFeed purse none 0) j
  { s with
    job := { s.job with feed := some (feedOf 100) }
    card := { s.card with
      writing := some { purpose := .move 100, purse := escrowed }, request := some (.write 2 escrowed.bytes, 980) } }

def holdOf (n : Nat) : HoldId := { station := 3, serial := n }

/-- An account job with its hold at this home, its periodic post due. -/
def posting (home : Nat) : State :=
  let s := job .account 200
  let part : AccountPart := { number := 150, home := home, hold := holdOf 41, discount := 10, acked := 0 }
  (s.setJob { s.job with postDue := some 1000 }).setCtx { s.job.ctx with account := some part }

/-- FEED of set 1, page 2: one STD MONO face of 1,000 hmu, 10 mu reserved. -/
def feedBytes : List Byte := spell 2 1 ++ spell 2 2 ++ [0, 0, 1, 0, 0]

/-- A purse job with these funds and no FEED in hand. -/
def shortOf (p : Purse) (tag : Option Nat) (funded : Nat) : State :=
  let s := purseFeed p tag funded
  s.setPort { s.port with state := .idle }

/-- An account job with nothing left, its top-up state given. -/
def broke (home : Nat) (x : TopUp) : State :=
  let s := posting home
  s.setCtx { s.job.ctx with funded := 0, topUp := x }

theorem witness_ShortFeedSeeksFunds :
    ((shortOf purse none 9).accepts ∧ feedBytes.length ≤ 240 ∧ (shortOf purse none 9).job.ctx.state = .running ∧
      (shortOf purse none 9).tariff = some tariff ∧
      (FeedOperand.read feedBytes).bind FeedOperand.sheet = some ({ set := 1, page := 2 }, mono) ∧
      (shortOf purse none 9).path.queue.length < 6 ∧ tariff.price mono 1 0 = 1000 ∧ tariff.price mono 1 10 = 900) ∧
    (let s := shortOf purse none 9
     s.job.ctx.purse = some { card := 9001, tag := none } ∧ s.job.ctx.funding = some .purse ∧
     s.card.writable { serial := 9001, slot := .a, purse := purse } ∧ purse.escrow = 0 ∧ 1 ≤ purse.balance) ∧
    ({ purse with balance := 0 }.balance < 1 ∧ escrowed.escrow ≠ 0 ∧ some 78 ≠ some escrowed.tag ∧
      escrowed.station = some (options.station.getD 0)) ∧
    (st.card.state ≠ .ready ∧ (moving .running).card.writing ≠ none ∧ (∀ i, st.card.image = some i → i.serial ≠ 9001)) ∧
    (let s := broke 5 .none
     s.job.ctx.funding = some .account ∧ s.job.waiting = [] ∧ s.line.state = .member ∧ s.marksPresent 5 = true ∧
     s.marksPresent 6 = false ∧ s.slotBusy .job = false ∧ s.job.ctx.charged + s.job.ctx.reserved + 9 ≤ 999999 ∧
     s.job.ctx.funded < 9 ∧ (broke 3 .permanent).ownBusy .job = false) ∧
    ((broke 5 .pending).job.ctx.topUp = .pending ∧ (broke 5 .permanent).job.ctx.topUp = .permanent ∧
      elapsed st.timeBase (1001 - 5000) = 4999 ∧ 5000 ≤ elapsed st.timeBase (1000 - 5000)) :=
  ⟨⟨accepts_of rfl rfl, by decide, by decide, by decide, by decide, by decide, by decide, by decide⟩,
    by unfold CardUnit.writable; decide, by decide, by decide, by decide, by decide⟩

theorem witness_AcknowledgedMoveFundsTheFeed :
    (let s := moving .running
     s.powered = true ∧ s.port.state = .executing .feed ∧ s.card.request = some (.write 2 escrowed.bytes, 980) ∧
     elapsed s.timeBase 980 ≤ 20 ∧ s.card.writing = some { purpose := .move 100, purse := escrowed } ∧
     s.card.image = some { serial := 9001, slot := .a, purse := purse } ∧ s.job.feed = some (feedOf 100) ∧
     s.job.ctx.funding = some .purse ∧ s.job.ctx.serial = some 41 ∧
     s.job.ctx.purse = some { card := 9001, tag := none } ∧ s.job.ctx.state = .running ∧
     (feedOf 100).reserve ≤ s.job.ctx.funded + 100 - s.job.ctx.charged - s.job.ctx.reserved ∧ s.path.state = .active ∧
     s.path.queue.length < 6) ∧ (moving .running).store.orderly ∧ (moving .halted).job.ctx.state = .halted :=
  ⟨by decide, orderly_of rfl, by decide⟩

/-- A settlement write sent 20 ms ago. -/
def settlingWrite : State :=
  let s := open_ (shortOf escrowed (some 77) 100) .settling
  { s with card := { s.card with
      writing := some { purpose := .jobSettlement, purse := purse }, request := some (.write 2 purse.bytes, 980) } }

theorem witness_CloseJobByTheJobState :
    (open_ st .authorising).accepts ∧ (open_ st .authorising).job.ctx.state = .authorising ∧
    (open_ st .draining).job.ctx.state = .draining ∧
    ((queued (job .purse 100) [sheet 1 1 .lead]).job.ctx.state = .running ∧
      (queued (job .purse 100) [sheet 1 1 .lead]).path.queue ≠ []) ∧
    (let s := job .purse 0
     s.job.ctx.state = .running ∧ s.path.queue = [] ∧ s.job.ctx.funding = some .purse ∧ s.job.ctx.serial = some 41 ∧
     s.job.ctx.funded = 0 ∧ s.port.notices.length < 16) ∧ (open_ (job .purse 0) .halted).job.ctx.state = .halted ∧
    -- an escrow of the job on its card, and one of another tag
    ((shortOf escrowed (some 77) 100).settleable 9001 77 0 { serial := 9001, slot := .a, purse := escrowed } ∧
      (shortOf escrowed (some 77) 100).settleable 9001 77 100 { serial := 9001, slot := .a, purse := escrowed } ∧
      (∀ i, ¬ st.settleable 9001 77 0 i)) ∧
    (let s := posting 3
     s.job.ctx.funding = some .account ∧ s.job.waiting = [] ∧ s.ownBusy .job = false ∧ (posting 5).slotBusy .job = false ∧
     (posting 5).line.state = .member ∧ { posting 5 with line := { st.line with state := .conflict } }.line.state ≠ .member) ∧
    (let s := settlingWrite
     s.powered = true ∧ s.card.request = some (.write 2 purse.bytes, 980) ∧
     s.card.writing = some { purpose := .jobSettlement, purse := purse } ∧
     s.card.image = some { serial := 9001, slot := .a, purse := escrowed } ∧ s.job.ctx.state = .settling ∧
     s.job.ctx.serial = some 41 ∧ s.job.ctx.funding = some .purse ∧
     s.job.ctx.purse = some { card := 9001, tag := some 77 } ∧ s.job.ctx.closeReason ≠ some .interrupted ∧
     elapsed s.timeBase 980 = 20) :=
  ⟨accepts_of rfl rfl, by decide, by decide, by decide, by decide, by decide,
    ⟨by unfold State.settleable CardUnit.writable; decide, by unfold State.settleable CardUnit.writable; decide,
      fun _ h => absurd h.1.1 (by decide)⟩, by decide, by decide⟩

theorem witness_PeriodicPostGoesToItsHome :
    (let s := posting 3
     s.powered = true ∧ s.job.ctx.funding = some .account ∧ s.job.ctx.state = .running ∧ s.job.postDue = some 1000 ∧
     reached s.timeBase 1000 = true ∧ s.job.waiting = [] ∧ s.ownBusy .job = false) ∧
    (let s := posting 5
     s.job.ctx.account.map AccountPart.home = some 5 ∧ s.line.state = .member ∧ s.slotBusy .job = false) ∧
    { posting 5 with line := { (posting 5).line with state := .conflict } }.line.state ≠ .member := by decide

/-! ## Premises of the statements on the path -/

def edge (on : Bool) (t : TimePoint) : Filter := { on := on, count := 0, edge := some t }

/-- The path with an edge of one sensor, or of the door, waiting. -/
def edged (s : State) (x : PathSensor) (on : Bool) (t : TimePoint) : State :=
  path s fun p => { p with filters := p.filters.set x (edge on t) }

def doorEdged (s : State) (on : Bool) (t : TimePoint) : State :=
  path s fun p => { p with filters := { p.filters with door := edge on t } }

def state (s : State) (x : PathState) : State := path s fun p => { p with state := x }

def sampled : State :=
  path st fun p => { p with
    settling := some 1, sampleDue := 1000
    filters := { p.filters with feed := { on := false, count := 1, edge := none }, reg := { on := true, count := 2, edge := none } } }

theorem witness_SampleFiltersAllSixInputs :
    sampled.powered = true ∧ reached sampled.timeBase sampled.path.sampleDue = true ∧
    sampled.path.filters.waiting = false ∧ sampled.path.settling ≠ some 0 ∧
    -- the threshold itself reads CLEAR, one above it COVERED; the second and the third sample that differ
    ¬ (profile.thFeed < 8) ∧ profile.thFeed < 9 ∧ sampled.path.filters.feed.count < 2 ∧
    2 ≤ sampled.path.filters.reg.count := by decide

theorem witness_EdgesOutOfActiveFlipTheirFilter :
    (let s := edged (state st .fault) .exit true 1000
     s.powered = true ∧ s.port.notices.length < 16 ∧ s.path.state ≠ .active ∧ (s.path.filters.get .exit).edge = some 1000 ∧
     (s.path.filters.get .exit).on = true ∧ s.path.filters.clear = false ∧
     (s.path.filters.set .exit { s.path.filters.get .exit with on := false, edge := none }).clear = true) ∧
    ((edged st .feed false 999).path.filters.get .feed = edge false 999 ∧ (edged st .feed false 999).path.state = .idle) ∧
    ((doorEdged st false 999).path.filters.door = edge false 999 ∧
      (doorEdged (active st) true 999).path.filters.door = edge true 999) := by decide

def tracking (q : List SheetRecord) (x : PathSensor) (on : Bool) (t : TimePoint) : State :=
  edged (queued (job .purse 100) q) x on t

theorem witness_EdgesInTheirWindowMoveTheSheetOn :
    -- a leading edge at FUSE at the last moment of the window of the first record, behind one that awaits elsewhere
    (let s := tracking [sheet 1 1 .trail, sheet 2 3 .lead] .fuse false 1000
     s.powered = true ∧ s.path.state = .active ∧ s.path.profile = some profile ∧
     (s.path.filters.get .fuse).edge = some 1000 ∧ (s.path.filters.get .fuse).on = false ∧
     s.path.queue = [sheet 1 1 .trail] ++ sheet 2 3 .lead :: [] ∧ (sheet 2 3 .lead).awaits = .lead ∧
     (sheet 2 3 .lead).sensor = some .fuse ∧ reached (1000 : TimePoint) (sheet 2 3 .lead).earliest = true ∧
     beyond (1000 : TimePoint) (sheet 2 3 .lead).latest = false ∧
     (∀ y ∈ [sheet 1 1 .trail], ¬ (y.awaits = .lead ∧ y.sensor = some .fuse ∧ reached (1000 : TimePoint) y.earliest = true ∧
       beyond (1000 : TimePoint) y.latest = false))) ∧
    -- a trailing edge at FUSE at the first moment of the stay window
    (let s := tracking [sheet 1 1 .lead, sheet 2 3 .trail] .fuse true 990
     (s.path.filters.get .fuse).on = true ∧ s.path.queue = [sheet 1 1 .lead] ++ sheet 2 3 .trail :: [] ∧
     (sheet 2 3 .trail).awaits = .trail ∧ (sheet 2 3 .trail).sensor = some .fuse ∧
     reached (990 : TimePoint) (sheet 2 3 .trail).earliest = true ∧ beyond (990 : TimePoint) (sheet 2 3 .trail).latest = false ∧
     (∀ y ∈ [sheet 1 1 .lead], ¬ (y.awaits = .trail ∧ y.sensor = some .fuse)) ∧
     (route 1)[(sheet 2 3 .trail).position]? = some .exit ∧ (sheet 2 3 .trail).leadTime = some 900) := by decide

def delivering : State := tracking [sheet 1 4 .trail, sheet 2 1 .lead] .exit true 1000

theorem witness_ExitDeliversAndCharges :
    delivering.powered = true ∧ delivering.path.state = .active ∧ delivering.path.filters.exit.on = true ∧
    delivering.path.filters.exit.edge = some 1000 ∧ delivering.path.queue = [] ++ sheet 1 4 .trail :: [sheet 2 1 .lead] ∧
    (sheet 1 4 .trail).awaits = .trail ∧ (sheet 1 4 .trail).position = (if mono.faces = 2 then 7 else 4) ∧
    reached (1000 : TimePoint) (sheet 1 4 .trail).earliest = true ∧ beyond (1000 : TimePoint) (sheet 1 4 .trail).latest = false ∧
    delivering.job.ctx.state = .running ∧
    delivering.job.ctx.checkpoint = some
      { serial := 41, funding := .purse, openingCard := none, purse := none, account := none, funded := 100, charged := 0
        delivered := 0, usage := UsageOf.all 0 } ∧ delivering.store.orderly ∧
    (∀ w ∈ delivering.store.writes, w.isMeters = false) := by
  refine ⟨rfl, rfl, rfl, rfl, rfl, rfl, by decide, by decide, by decide, by decide, by decide, orderly_of rfl, by decide⟩

theorem witness_JamsLoseEverySheetInThePath :
    (delivering.powered = true ∧ delivering.path.state = .active ∧ delivering.job.lostList.tags.length ≤ 12) ∧
    ((doorEdged (job .purse 100) false 1000).path.filters.door = edge false 1000) ∧
    -- a deadline one millisecond past
    (let r := { sheet 2 3 .lead with latest := 999 }
     (queued (job .purse 100) [sheet 1 1 .lead, r]).path.queue = [sheet 1 1 .lead] ++ r :: [] ∧
     (∀ y ∈ [sheet 1 1 .lead], y.number ≠ r.number) ∧ beyond st.timeBase r.latest = true ∧ r.sensor = some .fuse) ∧
    -- leading edges at FUSE: overdue, before the window, with no record
    (let s := tracking [sheet 2 3 .lead] .fuse false 1001
     let waiting := s.path.queue.filter fun y => y.awaits == .lead && y.sensor == some .fuse
     (s.path.filters.get .fuse).on = false ∧ (s.path.filters.get .fuse).edge = some 1001 ∧
     (∀ y ∈ waiting, ¬ (reached (1001 : TimePoint) y.earliest = true ∧ beyond (1001 : TimePoint) y.latest = false)) ∧
     (waiting.find? fun y => beyond (1001 : TimePoint) y.latest) = some (sheet 2 3 .lead)) ∧
    (let s := tracking [sheet 2 3 .lead] .fuse false 989
     let waiting := s.path.queue.filter fun y => y.awaits == .lead && y.sensor == some .fuse
     waiting = sheet 2 3 .lead :: [] ∧ (∀ y ∈ waiting, beyond (989 : TimePoint) y.latest = false) ∧
     (∀ y ∈ waiting, ¬ (reached (989 : TimePoint) y.earliest = true ∧ beyond (989 : TimePoint) y.latest = false))) ∧
    (let s := tracking [sheet 2 3 .lead] .duplex false 1000
     (s.path.queue.filter fun y => y.awaits == .lead && y.sensor == some .duplex) = []) ∧
    -- trailing edges at FUSE: with no record, before and after the stay window
    (let found (s : State) := s.path.queue.find? fun y => y.awaits == .trail && y.sensor == some .fuse
     (tracking [sheet 2 3 .lead] .fuse true 1000).path.filters.get .fuse = edge true 1000 ∧
     found (tracking [sheet 2 3 .lead] .fuse true 1000) = none ∧
     found (tracking [sheet 2 3 .trail] .fuse true 989) = some (sheet 2 3 .trail) ∧
     reached (989 : TimePoint) (sheet 2 3 .trail).earliest = false ∧
     beyond (1001 : TimePoint) (sheet 2 3 .trail).latest = true) := by decide

theorem witness_PurgeStartAndServiceClearByPathState :
    (state st .fault).accepts ∧ st.path.state ≠ .fault ∧
    ((path (state st .fault) fun p => { p with filters := filters true true }).path.filters.door.on = true) ∧
    ((state st .fault).path.state = .fault ∧ (state st .fault).path.filters.door.on = false) ∧ st.path.state ≠ .service ∧
    ((path (state st .service) fun p => { p with filters := filters true false }).path.filters.clear = false) ∧
    ((state st .service).path.filters.clear = true ∧ (state st .service).port.notices.length < 16) :=
  ⟨accepts_of rfl rfl, by decide, by decide, by decide, by decide, by decide, by decide⟩

def purged (n : Nat) (covered : Bool) : State :=
  let s := path (state st .purging) fun p => { p with purgeCount := n, settling := some 0, filters := filters covered false }
  s.setPort { s.port with state := .executing .purgeEnd }

theorem witness_PurgeIsJudgedByPathClear :
    st.accepts ∧ st.path.state ≠ .purging ∧ (state st .purging).accepts ∧ (state st .purging).path.state = .purging ∧
    (let s := purged 2 true
     s.powered = true ∧ s.port.state = .executing .purgeEnd ∧ s.path.state = .purging ∧ s.path.settling = some 0 ∧
     s.path.filters.waiting = false ∧ s.port.notices.length < 16 ∧ s.path.filters.clear = false ∧ s.path.purgeCount = 2) ∧
    ((purged 1 true).path.purgeCount < 2 ∧ (purged 1 true).path.filters.clear = false) ∧
    (purged 0 false).path.filters.clear = true :=
  ⟨st_accepts, by decide, accepts_of rfl rfl, by decide, by decide, by decide, by decide⟩

theorem witness_ResumeReturnsPathAndJob :
    st.accepts ∧ st.path.state ≠ .fault ∧
    (path (state st .fault) fun p => { p with filters := filters true false }).path.filters.clear = false ∧
    (let s := state (open_ st .halted) .fault
     s.path.state = .fault ∧ s.path.filters.clear = true ∧ s.job.ctx.state = .halted ∧ s.job.ctx.closeReason = none) ∧
    (state (open_ st .settling) .fault).job.ctx.state = .settling ∧ (state st .fault).job.ctx.state = .none ∧
    beyond (state st .fault).timeBase ((state st .fault).path.lastSample + 20#32) = true ∧
    beyond (path (state st .fault) fun p => { p with lastSample := 980 }).timeBase ((980 : TimePoint) + 20#32) = false ∧
    (reached (state st .fault).timeBase 1000 = true ∧ reached (state st .fault).timeBase 1001 = false) :=
  ⟨st_accepts, by decide, by decide, by decide, by decide, by decide, by decide, by decide, by decide⟩

/-! ## Premises of the statements on cards -/

def card (s : State) (f : CardUnit → CardUnit) : State := s.setCard (f s.card)

theorem witness_CardsComeAndGoByTheSwitch_insertions :
    (let s := card st fun c => { c with presence := { on := false, count := 2, edge := none }, presenceDue := 1000 }
     s.powered = true ∧ reached s.timeBase s.card.presenceDue = true ∧ s.card.presence.edge = none ∧
     decide (Presence.present = .present) ≠ s.card.presence.on ∧ ¬ (s.card.presence.count < 2) ∧
     decide (Presence.absent = .present) = s.card.presence.on) ∧
    (let s := card st fun c => { c with presence := edge false 1000 }
     s.powered = true ∧ s.card.presence.on = false ∧ s.card.presence.edge = some 1000 ∧ s.card.state = .empty) ∧
    (card (withCard purse) fun c => { c with presence := edge false 1000 }).card.state ≠ .empty := by decide

def removing (s : State) : State := card s fun c => { c with presence := edge true 1000 }

theorem witness_CardsComeAndGoByTheSwitch_removals :
    (let s := removing (withCard purse)
     s.powered = true ∧ s.card.presence.on = true ∧ s.card.presence.edge = some 1000 ∧ s.port.notices.length < 16 ∧
     s.card.state = .ready ∧ s.card.writing = none ∧ s.card.identity.map CardIdentity.serial = some 9001 ∧
     s.job.ctx.state = .none) ∧
    (let s := removing (queued (purseFeed purse none 0) [sheet 1 1 .lead])
     s.card.state = .ready ∧ s.card.writing = none ∧ s.card.identity.map CardIdentity.serial = some 9001 ∧
     s.job.ctx.openingCard = some 9001 ∧ s.job.ctx.state = .running ∧ s.path.queue ≠ []) ∧
    (let s := removing (queued (moving .running) [sheet 1 1 .lead])
     s.card.state = .ready ∧ s.card.writing = some { purpose := .move 100, purse := escrowed } ∧
     s.job.ctx.state = .running ∧ s.path.queue ≠ [] ∧ s.port.state = .executing .feed) := by decide

/-- Record 0 with its check: serial 9001. -/
def identityBytes (kind account issuer : Nat) : List Byte :=
  let b := spell 4 9001 ++ spell 2 kind ++ spell 2 account ++ spell 2 issuer ++ spell 4 0
  b ++ spell 2 (onesSum b)

/-- A card being read, the request for this record sent 20 ms ago. -/
def reading (n : Nat) : State := card st fun c => { c with state := .reading n, request := some (.read n, 980) }

theorem witness_ReadAnswersJudgeTheCard :
    (let s := reading 0
     s.powered = true ∧ s.card.request = some (.read 0, 980) ∧ s.card.state = .reading 0 ∧ s.card.writing = none ∧
     s.job.awaitsCard = false ∧ s.port.notices.length < 16 ∧ elapsed s.timeBase 980 = 20 ∧ s.card.identity = none) ∧
    ((List.replicate 16 (0xFF#8)).length = 16 ∧
      onesSum ((List.replicate 16 (1#8)).take 14) ≠ field (List.replicate 16 (1#8)) 14 2) ∧
    (∀ x ∈ [(3, 0, 7), (2, 0, 7), (1, 0, 8), (2, 65535, 7), (1, 0, 7)],
      let b := identityBytes x.1 x.2.1 x.2.2
      b.length = 16 ∧ onesSum (b.take 14) = field b 14 2 ∧ field b 4 2 = x.1 ∧ field b 6 2 = x.2.1 ∧ field b 8 2 = x.2.2) ∧
    st.options.issuer = 7 ∧ (reading 1).card.request = some (.read 1, 980) ∧ (reading 1).card.state = .reading 1 := by decide

def lastRecord (first : Purse) (list : List RefundEntry) : State :=
  card (reading 2) fun c => { c with
    identity := some { serial := 9001, kind := .purse, account := 0 }, record1 := some first.bytes, refunds := list }

theorem witness_CurrentSlotBecomesTheImage :
    (let s := lastRecord purse [entry 5 .held]
     s.powered = true ∧ s.card.request = some (.read 2, 980) ∧ elapsed s.timeBase 980 ≤ 20 ∧ s.card.state = .reading 2 ∧
     s.card.identity = some { serial := 9001, kind := .purse, account := 0 } ∧ s.card.record1 = some purse.bytes ∧
     s.job.awaitsCard = false ∧ s.port.notices.length < 16 ∧ (∀ e ∈ s.card.refunds, e.serial ≠ 9001)) ∧
    (purse.bytes.length = 16 ∧ Purse.read purse.bytes = some purse ∧ purse.counter ≠ 4294967295 ∧ purse.escrow = 0 ∧
      currentSlot (Purse.read purse.bytes) (Purse.read { purse with counter := 13 }.bytes) =
        some (.b, { purse with counter := 13 }) ∧
      currentSlot (Purse.read purse.bytes) (Purse.read purse.bytes) = some (.a, purse)) ∧
    currentSlot (Purse.read []) (Purse.read (List.replicate 16 (1#8))) = none ∧
    (currentSlot (some { purse with counter := 4294967295 }) none = some (.a, { purse with counter := 4294967295 })) := by
  decide

/-- An escrow met at the reading: of this station, of station 5, of station 6 that is ABSENT. -/
theorem witness_CurrentSlotBecomesTheImage_escrow :
    (let s := lastRecord escrowed [{ serial := 9001, tag := 77, charged := 30, state := .held }]
     s.powered = true ∧ s.card.request = some (.read 2, 980) ∧ s.card.record1 = some escrowed.bytes ∧
     s.card.writing = none ∧ s.card.resolving = false ∧ s.job.ctx.state = .none ∧ s.port.notices.length < 15 ∧
     currentSlot (Purse.read escrowed.bytes) (Purse.read purse.bytes) = some (.a, escrowed) ∧ escrowed.escrow ≠ 0 ∧
     escrowed.counter < 4294967295 ∧ escrowed.station = some (s.options.station.getD 0) ∧
     (s.card.refunds.find? fun e => e.serial == 9001 && e.tag == escrowed.tag) = some (entry 9001 .held) ∧
     (entry 9001 .held).charged ≤ escrowed.escrow ∧ 100 < { entry 9001 .held with charged := 101 }.charged ∧
     (lastRecord escrowed [{ entry 9001 .held with tag := 76 }]).card.refunds.find?
       (fun e => e.serial == 9001 && e.tag == escrowed.tag) = none) ∧
    (5 ≠ st.options.station.getD 0 ∧ st.line.state = .member ∧ st.marksPresent 5 = true ∧ st.marksPresent 6 = false ∧
      st.settle.occupied < 16 ∧ 16 ≤ { st.settle with reservedCard := 16 }.occupied ∧ st.card.slot = none ∧
      st.card.waiting = []) ∧ (lastRecord escrowed []).store.orderly :=
  ⟨by decide, by decide, orderly_of rfl⟩

/-- RELEASE ESCROW in hand, its write sent 20 ms ago. -/
def releasing : State :=
  let s := card (withCard escrowed) fun c => { c with
    writing := some { purpose := .release 40, purse := purse }, request := some (.write 2 purse.bytes, 980) }
  s.setPort { s.port with state := .executing .releaseEscrow }

theorem witness_ReleaseEscrowAndDiscardRefund :
    (st.accepts ∧ [0#8].length ≤ 240 ∧ st.card.state = .empty ∧ (reading 2).card.state = .reading 2 ∧
      (card st fun c => { c with state := .rejected .badPurse }).card.state = .rejected .badPurse ∧
      (withCard purse).card.state = .ready ∧ (withCard purse).card.image.map (fun i => i.purse.escrow) = some 0) ∧
    ((withCard escrowed).accepts ∧
      (let s := withCard escrowed
       s.card.state = .ready ∧ s.card.image = some { serial := 9001, slot := .a, purse := escrowed } ∧
       escrowed.escrow ≠ 0 ∧ s.card.writing = none ∧ s.card.resolving = false ∧ s.job.ctx.state = .none ∧
       escrowed.counter < 4294967295 ∧ escrowed.escrow < 101 ∧ 100 ≤ escrowed.escrow)) ∧
    -- the card WRITING; the escrow of the open purse job
    (releasing.card.writing ≠ none ∧
      (let s := shortOf escrowed (some 77) 100
       s.card.writing = none ∧ s.card.resolving = false ∧ s.job.ctx.state ≠ .none ∧ s.job.ctx.funding = some .purse ∧
       escrowed.station = some (s.options.station.getD 0) ∧
       s.job.ctx.purse = some { card := 9001, tag := some escrowed.tag })) ∧
    (releasing.powered = true ∧ releasing.port.state = .executing .releaseEscrow ∧
      releasing.card.request = some (.write 2 purse.bytes, 980) ∧
      releasing.card.writing = some { purpose := .release 40, purse := purse } ∧
      releasing.card.image = some { serial := 9001, slot := .a, purse := escrowed } ∧
      (∀ e ∈ releasing.card.refunds, e.serial ≠ 9001) ∧ elapsed releasing.timeBase 980 ≤ 20 ∧
      20 ≤ elapsed releasing.timeBase 980) ∧
    (let l := [entry 5 .held, entry 6 .claimed]
     let left (serial tag : Nat) := l.filter fun e => !(e.serial == serial && e.tag == tag)
     left 5 76 = l ∧ left 5 77 ≠ l ∧ (card st fun c => { c with refunds := l }).store.orderly) := by
  refine ⟨⟨st_accepts, ?_⟩, ⟨accepts_of rfl rfl, ?_⟩, ?_, ?_, ?_, ?_, orderly_of rfl⟩ <;> decide

def head : FrameHead := { dest := 3, source := 5, exch := 9 }

/-- A frame of station 5 for this station is heard. -/
theorem hears_of {s : State} (body : Payload) (h : s.powered = true) (hm : s.line.state = .member) (hs : s.line.sending = none)
    (hn : s.line.share = .nothing) (ho : s.own = some 3) (hg : Frame.good { head := head, body := body } = true) : s.hears head body :=
  ⟨h, .inr hm, hs, by rw [hn]; decide, hg, by rw [ho]; decide, .inl ho⟩

def listed (x : RefundState) : State := card st fun c => { c with refunds := [entry 9001 x, entry 5 .held] }

def occupied (p : Place) (body : Payload) : State :=
  { st with line := { st.line with waiting := [{ place := p, k := 0, frame := { head := head, body := body } }] } }

theorem witness_EscrowQueriesAndReleasesAreAnswered :
    (st.options.station = some 3 ∧ st.settle.queue = [] ∧ (listed .held).store.orderly) ∧
    st.hears head (.escrowQuery { serial := 9001, tag := 77 }) ∧
    (listed .held).hears head (.escrowRelease { serial := 4294967295, tag := 65535 }) ∧
    (occupied .cardAnswer (.releaseAnswer { status := 0 })).placeTaken .cardAnswer = true ∧
    st.placeTaken .cardAnswer = false ∧
    (let s := purseFeed purse none 0
     s.job.ctx.state ≠ .none ∧ s.job.ctx.funding = some .purse ∧ s.job.ctx.purse.map PursePart.card = some 9001) ∧
    (let mine (e : RefundEntry) : Bool := e.serial == 9001 && e.tag == 77
     st.card.refunds.find? mine = none ∧ (listed .held).card.refunds.find? mine = some (entry 9001 .held) ∧
     (listed .claimed).card.refunds.find? mine = some (entry 9001 .claimed)) :=
  ⟨⟨by decide, by decide, orderly_of rfl⟩, hears_of _ rfl rfl rfl rfl rfl (by decide), hears_of _ rfl rfl rfl rfl rfl (by decide),
    by decide, by decide, by decide, by decide⟩

def interrupted : State :=
  let s := jobOf st .settling .purse 100
  let s := card s fun c => { c with startSamples := 3, refundReserved := true }
  (s.setJob { s.job with awaitsCard := true }).setCtx
    { s.job.ctx with purse := some { card := 9001, tag := some 77 }, closeReason := some .interrupted }

/-- The card of the interrupted job being read, the request for this record sent 20 ms ago. -/
def interruptedAt (n : Nat) : State :=
  card interrupted fun c => { c with
    state := .reading n, request := some (.read n, 980), presence := edge true 1000
    identity := some { serial := 9001, kind := .purse, account := 0 }, record1 := some escrowed.bytes }

theorem witness_InterruptedJobsSettle :
    (let s := { st with store := Store.quiet { StoreRecords.factory with checkpoint := some checkpoint } }
     s.store.records.checkpoint = some checkpoint ∧ checkpoint.funding = .purse ∧
     checkpoint.purse = some { card := 9001, tag := some 77 }) ∧
    (let part : AccountPart := { number := 150, home := 5, hold := holdOf 41, discount := 10, acked := 0 }
     let k : Checkpoint := { checkpoint with funding := .account, purse := none, account := some part }
     k.account = some part ∧ part.home ≠ part.hold.station ∧ { part with home := 3 }.home = part.hold.station) ∧
    (interrupted.powered = true ∧ interrupted.job.awaitsCard = true ∧ interrupted.job.ctx.state = .settling ∧
      interrupted.card.startSamples = 3 ∧ interrupted.card.presence.on = false ∧ interrupted.card.presence.edge = none ∧
      interrupted.card.state = .empty ∧ interrupted.job.ctx.purse = some { card := 9001, tag := some 77 } ∧
      interrupted.job.ctx.funding = some .purse ∧ interrupted.job.ctx.serial = some 41 ∧
      interrupted.port.notices.length < 15) ∧
    ((interruptedAt 0).card.state = .reading 0 ∧ (interruptedAt 0).card.writing = none ∧
      (interruptedAt 0).card.request = some (.read 0, 980) ∧ elapsed st.timeBase 980 = 20 ∧
      (interruptedAt 0).card.presence.on = true ∧ (interruptedAt 0).card.presence.edge = some 1000) ∧
    (let b := identityBytes 2 150 7
     b.length = 16 ∧ onesSum (b.take 14) = field b 14 2 ∧ field b 4 2 = 2 ∧ field b 6 2 ≠ 0 ∧
     field b 8 2 = interrupted.options.issuer) ∧
    (let s := interruptedAt 2
     s.card.identity = some { serial := 9001, kind := .purse, account := 0 } ∧ s.card.record1 = some escrowed.bytes ∧
     currentSlot (Purse.read escrowed.bytes) (Purse.read purse.bytes) = some (.a, escrowed) ∧
     currentSlot (Purse.read purse.bytes) (Purse.read purse.bytes) = some (.a, purse) ∧ purse.escrow = 0 ∧
     (∀ e ∈ s.card.refunds, e.serial ≠ 9001) ∧ s.job.ctx.charged ≤ escrowed.escrow ∧ s.card.resolving = false) :=
  ⟨by decide, by decide, by decide, by decide, by decide, by decide⟩

/-! ## Premises of the statements on the shop line -/

theorem witness_RollUpdatesTheRoster :
    st.hears { head with dest := 63 } (.roll { first := 1, last := 65535, joining := true }) ∧
    st.options.station = some 3 ∧ st.settle.queue = [] ∧ st.port.notices.length < 16 ∧ st.placeTaken .roll = false :=
  ⟨⟨rfl, .inr rfl, rfl, by decide, by decide, by decide, .inr rfl⟩, by decide, by decide, by decide, by decide⟩

def request : HoldRequestFields := { account := 150, hold := { station := 5, serial := 7 }, amount := 200, minimum := 1 }

/-- This many requests of peers at the account unit. -/
def waiting (n : Nat) : State :=
  { st with accounts := { st.accounts with
      table := [account], arrivals := List.replicate n { origin := .peer 5 9, body := .holdRequest request } } }

theorem witness_PeerRequestsJoinTheInputQueue :
    (waiting 7).hears head (.holdRequest request) ∧ (waiting 7).settle.queue = [] ∧
    (let peers (s : State) := (s.accounts.arrivals.filter fun a => a.origin != .job && a.origin != .settlement).length
     peers (waiting 7) < 8 ∧ 8 ≤ peers (waiting 8)) :=
  ⟨hears_of _ rfl rfl rfl rfl rfl (by decide), by decide, by decide⟩

def answer : HoldAnswerFields := { status := 0, granted := 150, discount := 51 }

theorem witness_DiscardedFramesChangeNothingElse :
    Frame.good { head := head, body := .holdAnswer answer } = true ∧ Frame.read [0xA5#8] = none ∧
    { st with line := { st.line with sending := some .roll } }.line.sending ≠ none ∧
    (st.line.sending = none ∧ st.line.state ≠ .off) ∧ State.reset.line.state = .off ∧
    (st.powered = true ∧ st.line.state = .member ∧ st.own ≠ some head.source ∧ st.settle.queue = [] ∧
      st.own ≠ some 4 ∧ 4 ≠ 63 ∧ st.line.inProgress = none ∧ st.line.share ≠ .part) ∧
    ({ st with line := { st.line with share := .part } }.line.share = .part ∧
      { st with line := { st.line with share := .whole } }.line.share = .whole ∧ st.own = some 3) := by decide

/-- The exchange of a source with station 5, its answer awaited since 20 ms. -/
def exchanging (s : State) (x : Source) (body : Payload) (attempts : Nat) : State :=
  let e : Exchange := { source := x, dest := 5, body := body, attempts := attempts, number := 9, awaiting := some 980 }
  { s with line := { s.line with inProgress := some e } }

def topUp : TopUpRequestFields := { hold := holdOf 41, amount := 200, minimum := 1 }

/-- A job AUTHORISING at home station 5, OPEN JOB in hand. -/
def authorising : State :=
  let s := open_ (posting 5) .authorising
  s.setPort { s.port with state := .executing .openJob }

theorem witness_HoldAnswerFundsTheJob :
    (let s := exchanging (posting 5) .job (.topUpRequest topUp) 3
     s.own = some 3 ∧ s.settle.queue = [] ∧ (s.line.inProgress.map fun e => (e.dest, e.number)) = some (5, 9) ∧
     answer.status = Reason.ok.code ∧ 0 < answer.granted ∧ s.job.waiting = [] ∧
     s.job.ctx.account.map AccountPart.home = some 5 ∧ s.job.ctx.serial = some 41 ∧ s.job.ctx.funding = some .account ∧
     s.port.notices.length < 16) ∧
    (exchanging (posting 5) .job (.topUpRequest topUp) 3).hears head (.holdAnswer answer) ∧
    (let s := exchanging authorising .job (.holdRequest { request with hold := holdOf 41 }) 3
     s.port.state = .executing .openJob ∧ s.job.removed = false ∧ s.job.ctx.state = .authorising) :=
  ⟨by decide, hears_of _ rfl rfl rfl rfl rfl (by decide), by decide⟩

def postOf (charged : Nat) (final offline : Bool) : PostFields :=
  { hold := holdOf 41, account := 150, charged := charged, usage := UsageOf.all 1, final := final, offline := offline }

theorem witness_PostAnswerAcknowledges :
    (let s := exchanging (posting 5) .job (.post (postOf 30 false false)) 3
     s.own = some 3 ∧ s.settle.queue = [] ∧ (s.line.inProgress.map fun e => (e.dest, e.number)) = some (5, 9) ∧
     s.job.waiting = [] ∧ s.job.ctx.account.map AccountPart.home = some 5 ∧ s.job.ctx.checkpoint.isSome = true ∧
     s.port.notices.length < 15 ∧ (postOf 30 false false).final = false ∧ (postOf 30 true false).final = true) ∧
    (let s := exchanging (open_ (posting 5) .settling) .job (.post (postOf 30 true false)) 3
     s.job.ctx.state = .settling ∧ s.job.ctx.serial = some 41 ∧ s.job.ctx.funding = some .account) ∧
    (∀ x ∈ [Reason.ok, .late, .notHome], Frame.good { head := head, body := .postAnswer { status := x.code, posted := 30 } } = true) ∧
    (exchanging (posting 5) .job (.post (postOf 30 false false)) 3).hears head (.postAnswer { status := 0, posted := 30 }) ∧
    (exchanging (posting 5) .job (.post (postOf 30 false false)) 3).store.orderly :=
  ⟨by decide, by decide, by decide, hears_of _ rfl rfl rfl rfl rfl (by decide), orderly_of rfl⟩

/-- A card RESOLVING at station 5. -/
def resolving : State :=
  let s := card (withCard { escrowed with station := some 5 }) fun c => { c with
    resolving := true, slot := some (.query 5 9001 77 true) }
  exchanging s .card (.escrowQuery { serial := 9001, tag := 77 }) 3

theorem witness_EscrowAnswersEndTheResolution :
    (let s := resolving
     s.own = some 3 ∧ s.settle.queue = [] ∧ (s.line.inProgress.map fun e => (e.dest, e.number)) = some (5, 9) ∧
     s.card.waiting = [] ∧ s.port.notices.length < 16 ∧ s.card.slot = some (.query 5 9001 77 true) ∧
     s.card.state = .ready ∧ s.card.writing = none ∧ s.card.resolving = true ∧
     s.card.image.map PurseImage.serial = some 9001 ∧ (100 ≤ escrowed.escrow ∧ escrowed.counter < 4294967295)) ∧
    resolving.hears head (.escrowAnswer { status := Reason.ok.code, charged := 100 }) ∧
    resolving.hears head (.escrowAnswer { status := Reason.noEntry.code, charged := 0 }) ∧
    (let s := card (exchanging st .card (.escrowRelease { serial := 9001, tag := 77 }) 1) fun c => { c with
       slot := some (.release 5 9001 77) }
     s.card.slot = some (.release 5 9001 77) ∧ s.hears head (.releaseAnswer { status := 0 })) :=
  ⟨by decide, hears_of _ rfl rfl rfl rfl rfl (by decide), hears_of _ rfl rfl rfl rfl rfl (by decide), by decide,
    hears_of _ rfl rfl rfl rfl rfl (by decide)⟩

def ownFrame : Frame := { head := { dest := 5, source := 3, exch := 0 }, body := .postAnswer { status := 0, posted := 30 } }

theorem witness_OwnNumberHeardIsConflict :
    (waiting 1).powered = true ∧ (waiting 1).line.state = .member ∧ (waiting 1).line.sending = none ∧
    (waiting 1).line.share = .nothing ∧
    ownFrame.good = true ∧ (waiting 1).own = some ownFrame.head.source ∧ (waiting 1).line.inProgress = none ∧
    (waiting 1).line.pending = [] ∧ (waiting 1).port.notices.length < 16 := by decide

/-- A frame waits to be sent, or is being sent, with this collision count. -/
def frameOf (p : Place) (k : Nat) (body : Payload) : OutFrame := { place := p, k := k, frame := { head := head, body := body } }

def sendingOf (s : State) (f : OutFrame) : State :=
  { s with line := { s.line with waiting := [f], sending := some f.place } }

theorem witness_FramesTakeTheLine :
    (let start (f : OutFrame) : Nat :=
       if f.place = .accountAnswer ∨ f.place = .cardAnswer then 160 else if f.k = 0 then 210
       else 210 + 50 * ((3 * 7 + f.k * 13) % 32 + 1)
     let late := frameOf .request 1 (.escrowQuery { serial := 1, tag := 1 })
     let first := frameOf .request 0 (.escrowQuery { serial := 1, tag := 1 })
     let second := frameOf .roll 0 (.roll { first := 0, last := 0, joining := false })
     start late = 210 + 50 * 3 ∧ (∀ g ∈ [late], start first < start g) ∧ (∀ g ∈ [second], start first ≤ start g) ∧
     start first ≤ 210 ∧ st.line.state = .member ∧ st.line.sending = none) ∧
    (∀ f ∈ [frameOf .accountAnswer 7 (.postAnswer { status := 0, posted := 1 }),
        frameOf .roll 7 (.roll { first := 0, last := 0, joining := false }),
        frameOf .roll 7 (.roll { first := 0, last := 0, joining := true }),
        frameOf .request 6 (.escrowQuery { serial := 1, tag := 1 }),
        frameOf .roll 0 (.roll { first := 0, last := 0, joining := true })],
      (sendingOf st f).sendingFrame = some f ∧ (sendingOf st f).line.sending = some f.place) ∧
    (frameOf .roll 0 (.roll { first := 0, last := 0, joining := true })).isJoining = true ∧
    (let s := sendingOf (exchanging st .card (.escrowQuery { serial := 1, tag := 1 }) 2)
       (frameOf .request 7 (.escrowQuery { serial := 1, tag := 1 }))
     7 ≤ 7 ∧ s.line.inProgress.map Exchange.attempts = some 2) := by decide

theorem witness_ExchangesStartAndFail :
    (let e : Exchange := { source := .card, dest := 5, body := .escrowQuery { serial := 1, tag := 1 }, attempts := 3
                           number := 0, awaiting := none }
     let s := { st with line := { st.line with pending := [e], counter := 255 } }
     s.powered = true ∧ s.options.station = some 3 ∧ s.line.inProgress = none ∧ s.line.pending = e :: []) ∧
    (let s := exchanging (posting 5) .job (.topUpRequest topUp) 1
     (s.line.inProgress.map fun e => (e.awaiting, e.attempts)) = some (some 980, 1) ∧ 20 ≤ elapsed s.timeBase 980 ∧
     s.job.ctx.account.map AccountPart.home = some 5 ∧ s.job.waiting = [] ∧ s.port.notices.length < 16) ∧
    (exchanging (posting 5) .job (.topUpRequest topUp) 2).line.inProgress.map Exchange.attempts = some 2 := by decide

def joining : State :=
  { st with line := { st.line with state := .joining, joinEnd := some 1000, rollDelays := [1000, 1008] } }

theorem witness_JoiningEndsInMembership :
    joining.powered = true ∧ joining.options.station = some 3 ∧ joining.line.state = .joining ∧
    joining.line.joinEnd = some 1000 ∧ reached joining.timeBase 1000 = true ∧ joining.settle.queue = [] ∧
    joining.settle.trying = none ∧ joining.settle.round = none ∧ joining.line.rollDelays = 1000 :: [1008] ∧
    joining.placeTaken .roll = false ∧
    (occupied .roll (.roll { first := 0, last := 0, joining := false })).placeTaken .roll = true := by decide

/-! ## Premises of the statements on accounts, holds and the outbound queue -/

theorem witness_AccountRecordsAreAddedSetRemoved :
    st.accepts ∧ st.store.orderly ∧
    -- ADD at both ends of its ranges, below and above them, and outside the home range
    ((0 < 150 ∧ 100000 ≤ 100000 ∧ 50 ≤ 50 ∧ (-8388608 : Int) ≤ -8388608 ∧ (16777215 : Int) ≤ 16777215) ∧
      ¬ ((-8388609 : Int) ≥ -8388608) ∧ ¬ (100001 ≤ 100000) ∧ ¬ (51 ≤ 50)) ∧
    (∃ h, st.options.home = some h ∧ h.first ≤ 100 ∧ 199 ≤ h.last ∧ ¬ (200 ≤ h.last)) ∧
    (st.accounts.find 150 = none ∧ reported.accounts.find 150 = some account) ∧
    512 ≤ { st with accounts := { st.accounts with table := List.replicate 512 account } }.accounts.table.length ∧
    (let open_ (s : State) := s.accounts.pool.any fun h => h.account == 150 && (h.state == .active || h.state == .lapsed)
     open_ reported = false ∧ ((FiguresOf.toList account.figures).any fun x => x.period != 0) = true) :=
  ⟨st_accepts, orderly_of rfl, by decide, ⟨_, rfl, by decide, by decide, by decide⟩, by decide, by decide, by decide⟩

theorem witness_AccountCreditMovesTheBalance :
    (waiting 0).accepts ∧ (waiting 0).store.orderly ∧ (waiting 0).accounts.find 150 = some account ∧
    (waiting 0).accounts.find 151 = none ∧ ((-100001 : Int) < -100000 ∧ (-100000 : Int) ≤ -100000 ∧ (100000 : Int) ≤ 100000) :=
  ⟨accepts_of rfl rfl, orderly_of rfl, by decide, by decide, by decide⟩

def holdWith (n : Nat) (x : HoldState) (expiry : Option TimePoint) : Hold :=
  { hold := holdOf n, account := 150, state := x, granted := 200, posted := 50, postedUsage := UsageOf.all 1
    expiry := expiry, place := n % 48, stamp := n }

def pooled (s : State) (pool : List Hold) : State :=
  { s with accounts := { s.accounts with table := [account], pool := pool } }

theorem witness_HoldGrantStaysWithinAvailable :
    (let s := waiting 1
     s.powered = true ∧ s.accounts.inHand = none ∧ s.placeTaken .accountAnswer = false ∧ s.line.state = .member ∧
     s.accounts.arrivals = { origin := .peer 5 9, body := .holdRequest request } :: [] ∧ s.keeps 150 = true ∧
     s.accounts.find 150 = some account ∧ s.accounts.findHold request.hold = none ∧
     (s.accounts.pool.filter fun h => h.state == .active).length < 47 ∧ s.accounts.available account = 500) ∧
    ({ account with status := .suspended }.status = .suspended ∧ account.status = .opened) ∧
    ((500 : Int) < max 1 501 ∧ 100000 < max 1 100001 ∧ ((max 1 500 : Nat) : Int) ≤ 500) ∧ (waiting 1).store.orderly ∧
    (∃ p, p < 48 ∧ ∀ h ∈ (waiting 1).accounts.pool, h.place ≠ p) ∧
    47 ≤ ((pooled (waiting 1) (List.replicate 47 (holdWith 41 .active none))).accounts.pool.filter fun h =>
      h.state == .active).length ∧
    -- a copy of a request of this station's hold 41
    (let s := pooled (waiting 1) [holdWith 41 .lapsed none]
     s.accounts.pool = [] ++ holdWith 41 .lapsed none :: [] ∧ (holdWith 41 .lapsed none).state ≠ .active ∧
     (holdWith 41 .active none).state = .active ∧ (holdWith 41 .lapsed none).hold = { request with hold := holdOf 41 }.hold) :=
  ⟨by decide, by decide, by decide, orderly_of rfl, ⟨47, by decide, by decide⟩, by decide, by decide⟩

def asking : State :=
  pooled { st with accounts := { st.accounts with arrivals := [{ origin := .job, body := .topUpRequest topUp }] } }
    [holdWith 41 .active (some 1000)]

theorem witness_TopUpGrantStaysWithinAvailable :
    asking.powered = true ∧ asking.accounts.inHand = none ∧
    asking.accounts.arrivals = { origin := .job, body := .topUpRequest topUp } :: [] ∧
    asking.accounts.pool = [] ++ holdWith 41 .active (some 1000) :: [] ∧ (holdWith 41 .active (some 1000)).hold = topUp.hold ∧
    asking.accounts.find 150 = some account ∧ account.status = .opened ∧ asking.store.orderly ∧
    asking.accounts.available account = 350 ∧
    max 1 topUp.minimum ≤ min (min (max topUp.amount (max 1 topUp.minimum)) (min 350 100000)) (16777215 - 200) ∧
    -- refusals: a SUSPENDED account, a minimum above what is available, a hold without room
    ({ account with status := .suspended }.status = .suspended ∧ (350 : Int) < max 1 351 ∧
      min (min 200 (min 350 100000)) (16777215 - 16777215) < max 1 1) ∧
    (asking.job.waiting = [] ∧ asking.placeTaken .accountAnswer = false ∧ asking.line.state = .member ∧
      asking.keeps (holdWith 41 .active none).account = true) :=
  ⟨by decide, by decide, by decide, by decide, by decide, by decide, by decide, orderly_of rfl, by decide, by decide,
    by decide, by decide⟩

def posted (r : PostFields) (h : Hold) : State :=
  pooled { st with accounts := { st.accounts with arrivals := [{ origin := .settlement, body := .post r }] } } [h]

theorem witness_PostAppliesWhatExceedsTheHold :
    (let s := posted (postOf 51 false false) (holdWith 41 .lapsed none)
     s.powered = true ∧ s.accounts.inHand = none ∧
     s.accounts.arrivals = { origin := .settlement, body := .post (postOf 51 false false) } :: [] ∧
     s.accounts.pool = [] ++ holdWith 41 .lapsed none :: [] ∧ s.accounts.find 150 = some account ∧
     s.settle.trying = none) ∧
    (posted (postOf 51 false false) (holdWith 41 .lapsed none)).store.orderly ∧
    ((postOf 51 false false).charged ≤ 999999 ∧ (holdWith 41 .lapsed none).posted < (postOf 51 false false).charged ∧
      (postOf 0 true false).final = true ∧ (holdWith 41 .active (some 1000)).state ≠ .settled ∧
      (holdWith 41 .settled none).state = .settled) ∧
    -- a post that exceeds nothing; one that exceeds by its usage alone
    (¬ ((holdWith 41 .active none).posted < (postOf 50 false false).charged) ∧
      UsageOf.zip max (holdWith 41 .active none).postedUsage (postOf 50 false false).usage =
        (holdWith 41 .active none).postedUsage ∧
      UsageOf.zip max (holdWith 41 .active none).postedUsage { UsageOf.all 0 with sheets := 2 } ≠
        (holdWith 41 .active none).postedUsage) ∧
    (st.placeTaken .accountAnswer = false ∧ st.line.state = .member ∧ st.keeps 150 = true ∧ st.job.waiting = []) :=
  ⟨by decide, orderly_of rfl, by decide, by decide, by decide⟩

def unknownPost (offline : Bool) : State :=
  { st with accounts := { st.accounts with
      table := [account], arrivals := [{ origin := .peer 5 9, body := .post (postOf 30 true offline) }] } }

theorem witness_OfflinePostMakesASettledHold :
    (∀ b ∈ [true, false],
      (unknownPost b).powered = true ∧ (unknownPost b).accounts.inHand = none ∧
      (unknownPost b).placeTaken .accountAnswer = false ∧ (unknownPost b).line.state = .member ∧
      (unknownPost b).accounts.arrivals = { origin := .peer 5 9, body := .post (postOf 30 true b) } :: [] ∧
      (unknownPost b).keeps 150 = true ∧ (unknownPost b).accounts.findHold (holdOf 41) = none ∧
      (unknownPost b).accounts.find 150 = some account) ∧ (unknownPost true).store.orderly :=
  ⟨by decide, orderly_of rfl⟩

theorem witness_ExpiredHoldLapses :
    (let s := pooled st [holdWith 41 .active (some 999), holdWith 42 .active (some 1000)]
     s.powered = true ∧ s.accounts.pool = [] ++ holdWith 41 .active (some 999) :: [holdWith 42 .active (some 1000)] ∧
     (∀ x ∈ [] ++ [holdWith 42 .active (some 1000)], x.hold ≠ holdOf 41) ∧ beyond s.timeBase 999 = true ∧
     beyond s.timeBase 1000 = false) ∧ (pooled st []).store.orderly :=
  ⟨by decide, orderly_of rfl⟩

def outbound : OutEntry := .finalPost 5 (holdOf 41) 150 30 (UsageOf.all 1) 0 false

def roundDue (q : List OutEntry) : State := { st with settle := { st.settle with queue := q, roundDue := some 1000 } }

def release : OutEntry := .escrowRelease 5 9001 77

/-- A try of the oldest entry in progress, its answer awaited since 20 ms. -/
def trying (e : OutEntry) (triggered : Bool) : State :=
  exchanging { st with settle := { st.settle with queue := [e], trying := some { key := e.key, triggered := triggered } } }
    .settlement e.body 1

/-- A triggered try of the entry is in its first attempt, made at 980, and no entry of the queue is for this station. -/
def asked (e : OutEntry) : Bool :=
  let s := trying e true
  s.settle.trying == some { key := e.key, triggered := true } &&
  (s.settle.queue.find? fun y => y.key == e.key) == some e && (s.settle.queue.all fun y => s.own != some y.dest) &&
  (s.line.inProgress.map fun x => (x.source, x.dest, x.number, x.attempts, x.awaiting)) ==
    some (.settlement, e.dest, 9, 1, some 980)

theorem witness_OutboundEntriesAreTriedAndSettled :
    (let s := roundDue [outbound, release]
     s.powered = true ∧ s.line.state = .member ∧ s.settle.trying = none ∧ s.settle.round = none ∧
     s.settle.roundDue = some 1000 ∧ reached s.timeBase 1000 = true ∧
     s.settle.queue = outbound :: [release] ∧ s.own ≠ some outbound.dest) ∧
    (roundDue []).settle.queue = [] ∧
    -- entries of the own number
    ((roundDue [.finalPost 3 (holdOf 41) 150 30 (UsageOf.all 1) 0 false]).own =
        some (OutEntry.finalPost 3 (holdOf 41) 150 30 (UsageOf.all 1) 0 false).dest ∧
      (roundDue [.escrowRelease 3 9001 77]).own = some (OutEntry.escrowRelease 3 9001 77).dest ∧
      (roundDue []).port.notices.length < 16) ∧ (roundDue []).store.orderly ∧
    -- a frame of station 5 for station 4
    (let s := { st with settle := { st.settle with queue := [outbound] } }
     let f : Frame := { head := { head with dest := 4 }, body := .postAnswer { status := 0, posted := 30 } }
     f.good = true ∧ s.own ≠ some f.head.source ∧ s.own ≠ some f.head.dest ∧ f.head.dest ≠ 63 ∧
     (s.settle.queue.find? fun x => x.dest == f.head.source) = some outbound ∧ f.head.source ∉ s.settle.waits ∧
     f.head.source ∈ { s.settle with waits := [5] }.waits ∧ (trying outbound true).settle.trying ≠ none) ∧
    (asked outbound && asked release) = true ∧ elapsed st.timeBase 980 = 20 ∧
    ((trying outbound false).hears head (.postAnswer { status := 0, posted := 30 }) ∧
      (trying release false).hears head (.releaseAnswer { status := 0 }) ∧ (trying release false).store.orderly ∧
      (∀ due, (trying release false).settle.roundDue = some due → reached st.timeBase due = false)) :=
  ⟨by decide, by decide, by decide, orderly_of rfl, by decide, by decide, by decide,
    hears_of _ rfl rfl rfl rfl rfl (by decide), hears_of _ rfl rfl rfl rfl rfl (by decide), orderly_of rfl,
    fun _ h => nomatch (show (none : Option TimePoint) = some _ from h)⟩

/-! ## Terms that `Instr.wf` refuses, one for each of its checks -/

/-- 241 parameter bytes do not fit a command message (R190). -/
theorem test_wf_params : (Instr.status (List.replicate 241 0)).wf = false := by decide

/-- A message of STATUS names a command (R171). -/
theorem test_wf_unknown : (Instr.unknownCommandMessage [0x01#8, 0x00#8, 0xFF#8]).wf = false := by decide

/-- Sheet numbers begin at 1 (R10). -/
theorem test_wf_deadline : (Instr.windowDeadline 0).wf = false ∧ (Instr.windowDeadline 65536).wf = false := by decide

/-- A station is 0..31 and a serial at least 1 (R125). -/
theorem test_wf_lapse :
    (Instr.holdLapse { station := 32, serial := 1 }).wf = false ∧ (Instr.holdLapse { station := 0, serial := 0 }).wf = false := by
  decide

/-- A ROLL is broadcast, and no other frame is (R104). -/
theorem test_wf_broadcast :
    (Instr.roll head { first := 0, last := 0, joining := false }).wf = false ∧
    (Instr.postAnswer { head with dest := 63 } { status := 0, posted := 0 }).wf = false := by decide

/-- A source above 31, a field beyond its width (R104, R188). -/
theorem test_wf_frame :
    (Instr.escrowQuery { head with source := 32 } { serial := 1, tag := 1 }).wf = false ∧
    (Instr.escrowRelease { head with exch := 256 } { serial := 1, tag := 1 }).wf = false ∧
    (Instr.releaseAnswer { head with dest := 256 } { status := 0 }).wf = false ∧
    (Instr.holdRequest head { request with amount := 4294967296 }).wf = false ∧
    (Instr.topUpRequest head { topUp with hold := { station := 64, serial := 1 } }).wf = false ∧
    (Instr.post head { postOf 16777216 true true with account := 1 }).wf = false ∧
    (Instr.holdAnswer head { answer with discount := 256 }).wf = false ∧
    (Instr.escrowAnswer head { status := 0, charged := 16777216 }).wf = false := by decide

/-- ROLL of station 5, home 200..299, joining, as the line carries it (R188). -/
def rollBytes : List Byte :=
  [0xA5#8, 0x3F#8, 0x05#8, 0x01#8, 0x00#8, 0x05#8, 0x00#8, 0xC8#8, 0x01#8, 0x2B#8, 0x01#8, 0xA2#8, 0x67#8]

theorem test_wf_discarded : (Instr.frameDiscarded rollBytes).wf = false := by decide

/-! ## Figures written out from the spec -/

/-- R105: the nine bytes 0x31 to 0x39. -/
theorem test_crc : crc [0x31#8, 0x32#8, 0x33#8, 0x34#8, 0x35#8, 0x36#8, 0x37#8, 0x38#8, 0x39#8] = 0x29B1#16 := by decide

/-- R188: the layout of a ROLL, and of a POST with both marks in its hold station byte. -/
theorem test_frames :
    Frame.read rollBytes =
      some { head := { dest := 63, source := 5, exch := 0 }, body := .roll { first := 200, last := 299, joining := true } } ∧
    Frame.read [0xA5#8, 0x03#8, 0x05#8, 0x04#8, 0x09#8, 0x18#8, 0xC5#8, 0x00#8, 0x07#8, 0x00#8, 0x96#8, 0x00#8, 0x00#8,
        0x1E#8, 0x00#8, 0x00#8, 0x01#8, 0x00#8, 0x00#8, 0x00#8, 0x00#8, 0x00#8, 0x00#8, 0x00#8, 0x00#8, 0x00#8, 0x00#8,
        0x00#8, 0x00#8, 0x01#8, 0x65#8, 0x55#8] =
      some (Frame.mk head (.post
        { hold := { station := 5, serial := 7 }, account := 150, charged := 30
          usage := { UsageOf.all 0 with stdMono := 1, sheets := 1 }, final := true, offline := true })) := by decide

/-- R190: STATUS, the empty reply; FEED of set 1, page 2, and ACCOUNT ADD 150, limit 100, discount 50, balance −2. -/
theorem test_messages :
    commandMessage .status [] = [0x01#8, 0x00#8, 0xFF#8] ∧ Reply.message .empty = [0x03#8, 0x00#8, 0x00#8, 0xFD#8] ∧
    Message.read [0x07#8, 0x09#8, 0x00#8, 0x01#8, 0x00#8, 0x02#8, 0x00#8, 0x01#8, 0x02#8, 0x03#8, 0x01#8, 0xE6#8] =
      .command .feed [0x00#8, 0x01#8, 0x00#8, 0x02#8, 0x00#8, 0x01#8, 0x02#8, 0x03#8, 0x01#8] ∧
    Message.read [0x10#8, 0x0A#8, 0x00#8, 0x96#8, 0x00#8, 0x00#8, 0x64#8, 0x32#8, 0xFF#8, 0xFF#8, 0xFF#8, 0xFE#8, 0xBF#8] =
      .command .accountAdd (spell 2 150 ++ spell 3 100 ++ spell 1 50 ++ spell 4 (unsigned32 (-2))) := by decide

/-- R188: reason codes. -/
theorem test_reason_codes :
    [Reason.ok, .noFunds, .notHome, .unknownHold, .lapsed, .late, .noEntry, .unknownKind].map Reason.code =
      [0, 18, 29, 32, 33, 34, 38, 46] := by decide

/-- R190: the opcodes run from 0x01 to 0x1A. -/
theorem test_opcodes : Opcode.catalogue.map Opcode.code = (List.range 26).map (· + 1) ∧ Opcode.restart.code = 0x1A := by
  decide

/-- R83, R189: a slot with its ones'-complement check; a slot of zero bytes is invalid. -/
theorem test_purse_slot :
    Purse.read [0x00#8, 0x01#8, 0xF4#8, 0x00#8, 0x00#8, 0x64#8, 0x03#8, 0x00#8, 0x00#8, 0x4D#8, 0x00#8, 0x00#8, 0x00#8,
      0x0D#8, 0xF7#8, 0xBF#8] = some { balance := 500, escrow := 100, station := some 3, tag := 77, counter := 13 } ∧
    Purse.read (List.replicate 16 0) = none := by decide

/-- R189: erased option records fail their check. -/
theorem test_erased_options :
    Options.readRecord (List.replicate 16 0xFF) = none ∧ Options.readRecord (List.replicate 16 0) = none := by decide

/-- The example of R109: stations 4 and 9 at k = 1 and k = 2. -/
theorem test_back_off :
    (backOff 4 1 = 10 ∧ backOff 9 1 = 13) ∧ (backOff 4 2 = 23 ∧ backOff 9 2 = 26) := by decide

/-! ### The worked cases of the chapter Sheet Pricing -/

/-- 2.6: 2,103 hmu, 22 mu reserved; 21 mu at D = 104,960 and 22 at D = 104,947. -/
theorem test_colour_duplex :
    (let x := { tariff with stdColour := 1250, normal := 100, heavy := 140, backFace := 80, t1 := 50, t2 := 200, t3 := 1000
                            d0 := 0, d1 := 10, d2 := 20, d3 := 30 }
     x.price { size := .std, mode := .colour, faces := 2, front := 2, back := 1 } (nextOrdinal 53 3) 15 = 2103) ∧
    reservation 2103 = 22 ∧ charge 104960 2103 = 21 ∧ charge 104947 2103 = 22 := by decide

/-- 2.5: four sheets of 450 hmu are charged 5, 4, 5 and 4. -/
theorem test_mono_simplex : [0, 450, 900, 1350].map (fun d => charge d 450) = [5, 4, 5, 4] ∧ reservation 450 = 5 := by decide

/-- R32: the largest price and its reservation. -/
theorem test_largest_price :
    ({ tariff with stdColour := 65535, full := 255, backFace := 100 } : Tariff).price
      { size := .std, mode := .colour, faces := 2, front := 3, back := 3 } 1 0 = 334228 ∧ reservation 334228 = 3343 := by
  decide

/-! ## One step of each kind, its figures from the spec -/

def nextOf (a : Answer) (ok : State → Bool) : Bool :=
  match a with
  | .next t => ok t
  | _ => false

/-- The profile of 3.9. -/
def spacing : Profile :=
  { profile with feedReg := 400, regFuse := 600, fuseExit := 500, fuseDuplex := 450, duplexReg := 900, stayStd := 250
                 stayLarge := 380, tolerance := 10, pick := 800 }

/-- Sheet 1 of 3.9, at this time, with this record and this edge. -/
def sheet39 (now : TimePoint) (x : PathSensor) (on : Bool) (r : SheetRecord) : State :=
  let s := { tracking [r] x on now with timeBase := now }
  path s fun p => { p with profile := some spacing }

def window (r : SheetRecord) : Nat × Awaited × Nat × Nat := (r.position, r.awaits, r.earliest.toNat, r.latest.toNat)

/-- 3.9: the leading edge at FEED at 10,120 and the trailing edge at REG at 10,771. -/
theorem test_edges_of_a_sheet :
    nextOf (exec (.leadingEdge .feed) (sheet39 10120 .feed false { sheet 1 1 .lead with earliest := 10000, latest := 10800 }))
      (fun t => t.path.queue.map window == [(1, .trail, 10345, 10395)]) = true ∧
    nextOf (exec (.trailingEdge .reg) (sheet39 10771 .reg true
        { sheet 1 2 .trail with earliest := 10747, latest := 10797, leadTime := some 10522 }))
      (fun t => t.path.queue.map window == [(3, .lead, 11062, 11182)]) = true := by decide

/-- 3.9: the deadline at 11,183 declares LATE at FUSE on sheet 1; at 11,182 it has not passed. -/
theorem test_deadline_late :
    (let r := { sheet 1 3 .lead with earliest := 11062, latest := 11182 }
     nextOf (exec (.windowDeadline 1) (queued { job .purse 100 with timeBase := 11183 } [r]))
       (fun t => t.path.jam.map (fun j => (j.kind, j.place, j.lost)) == some (.late, .sensor .fuse, 1)) = true ∧
     nextOf (exec (.windowDeadline 1) (queued { job .purse 100 with timeBase := 11182 } [r]))
       (fun t => t.path.jam == none) = true) := by decide

/-- 7.9: hold 17 at 170: POST C 200, final, to a hold LAPSED with 120 posted takes 80 off the balance of 30. -/
theorem test_late_post :
    nextOf (exec .accountRequestTaken
        { posted (postOf 200 true false) { holdWith 41 .lapsed none with posted := 120 } with accounts :=
          { (posted (postOf 200 true false) { holdWith 41 .lapsed none with posted := 120 }).accounts with
            table := [{ account with balance := 30 }] } })
      (fun t => t.accounts.table.map (fun a => (a.balance, a.figures.late.period)) == [(-50, 86)]) = true := by decide

/-- 9.6: the commit of a clear takes off what was reported: 465 / 125 / 3 less 435 / 125 / 3. -/
theorem test_statement_clear :
    [(465, 435), (125, 125), (3, 3)].map (fun x => (Counter.clear x.2 { life := 500, period := x.1 }).period) = [30, 0, 0] := by
  decide

/-- R173: the refused count saturates at 255. -/
theorem test_refused_saturates :
    nextOf (exec (.status []) executing) (fun t => t.port.refused == 255 && t.port.state == .executing .feed) = true := by
  decide

/-- R114: in OFF the receiver is not used. -/
theorem test_line_off : nextOf (exec .lineBusy State.reset) (fun t => t.line.busy == false) = true := by decide

/-- The state after reset is within every capacity, and a step from it counts the time base (log 2). -/
theorem test_reset_ticks : nextOf (step State.reset) (fun t => t.timeBase == 1) = true := by decide

/-! ## Premises of the statements on prices, laws and layouts -/

theorem witness_PricesAreBuiltInStagesWithinTheirRange :
    (tariff.stdMono ≤ 65535 ∧ tariff.stdColour ≤ 65535 ∧ tariff.largeMono ≤ 65535 ∧ tariff.largeColour ≤ 65535 ∧
      tariff.light ≤ 255 ∧ tariff.normal ≤ 255 ∧ tariff.heavy ≤ 255 ∧ tariff.full ≤ 255 ∧ tariff.backFace ≤ 100) ∧
    (let x := { tariff with stdColour := 65535, full := 255, backFace := 100 }
     x.stdColour = 65535 ∧ x.full = 255 ∧ x.backFace = 100 ∧ x.tier 10 = 0 ∧ x.tier 11 = 5) ∧
    ({ tariff with stdMono := 0 }.base .std .mono = 0 ∧ { tariff with light := 0 }.coverage 0 = 0 ∧
      { tariff with stdColour := 1, light := 50 }.base .std .colour = 1 ∧ { tariff with light := 50 }.coverage 0 = 50) ∧
    (tariff.t1 < tariff.t2 ∧ tariff.t2 < tariff.t3 ∧ tariff.d0 ≤ tariff.d1 ∧ tariff.d1 ≤ tariff.d2 ∧ tariff.d2 ≤ tariff.d3 ∧
      10 ≤ 11) := by decide

/-- The delivery of a sheet at the front of the queue. -/
def delivery : State := delivering.setPending [.trailingEdge .exit]

theorem delivery_runs : ∃ t, step delivery = .next t := ⟨_, rfl⟩

theorem witness_ChargedTotalIsTheRoundedDeliveredSum :
    delivery.roundedTotals ∧ (∃ t, step delivery = .next t) ∧ 300 % 100 = 0 ∧ rounded 999999 99999949 ∧ 999999 ≤ 999999 :=
  ⟨⟨rfl, fun _ hk => (nomatch (show (none : Option Checkpoint) = some _ from hk)),
    fun _ h => (List.not_mem_nil h).elim⟩, delivery_runs, by decide, rfl, by decide⟩

theorem witness_PeriodNeverPassesLifetime : delivery.periodsWithinLifetimes ∧ ∃ t, step delivery = .next t :=
  ⟨⟨by unfold MetersOf.lawful Counter.lawful; decide, fun _ h => (List.not_mem_nil h).elim,
    by unfold MetersOf.lawful Counter.lawful; decide, fun _ h => (List.not_mem_nil h).elim,
    fun _ h => (List.not_mem_nil h).elim⟩, delivery_runs⟩

theorem witness_StepsStayWithinCapacities : delivery.withinCapacities ∧ ∃ t, step delivery = .next t :=
  ⟨⟨by decide, by decide, by decide, by decide, by decide, by decide, by decide, by decide, by decide, by decide,
    by decide, orderly_of rfl⟩, delivery_runs⟩

theorem nothing_in_hand {s : State} (h : s.store = st.store) (n : Nat) : s.store.after n = StoreRecords.factory := by
  rw [h]; simp [Store.after, Store.writes, st, State.reset, Store.quiet]

/-- The delivery of a sheet of a job that has reserved for its two sheets. -/
def reserving : State := delivery.setCtx { delivery.job.ctx with reserved := 22, fed := 2 }

theorem witness_JobsPromiseNoMoreThanTheyHave : reserving.withinFunds ∧ ∃ t, step reserving = .next t :=
  ⟨⟨by decide, by decide, by decide, (fun _ h => nomatch (show (none : Option PendingFeed) = some _ from h)), by decide,
    by decide, (fun _ => .inl rfl), (fun h => absurd h (by decide)),
    (fun _ h => nomatch (show (none : Option Checkpoint) = some _ from h)), (fun _ h => (List.not_mem_nil h).elim)⟩, ⟨_, rfl⟩⟩

/-- A hold that has expired, stored in its place. -/
def pooledStore : State :=
  let s := pooled st [holdWith 41 .active (some 999)]
  { s with
    store := Store.quiet { StoreRecords.factory with holds := [holdWith 41 .active none] }, pending := [.holdLapse (holdOf 41)] }

theorem pooledStore_after (n : Nat) : pooledStore.store.after n = pooledStore.store.records := by
  simp [Store.after, Store.writes, pooledStore, Store.quiet]

theorem witness_HoldPoolStaysLawful : pooledStore.holdsKept ∧ (∃ t, step pooledStore = .next t) ∧
    HoldsLawful [holdWith 41 .active (some 999)] := by
  have one (x : Hold) (h : x.place < 48) : HoldsLawful [x] :=
    ⟨by simp, by simp, by simpa using h, by
      simp only [activeCount]; exact Nat.le_trans (List.length_filter_le _ _) (by simp)⟩
  refine ⟨⟨⟨fun _ => rfl, by decide, fun h => absurd rfl h⟩, one _ (by decide), fun n => ?_, fun _ h => ?_⟩, ⟨_, rfl⟩,
    one _ (by decide)⟩
  · rw [pooledStore_after]
    exact ⟨one _ (by decide), by decide, by decide⟩
  · rw [Store.settled, pooledStore_after]
    constructor
    · intro hh; exact ⟨holdWith 41 .active (some 999), List.mem_singleton.mpr rfl, List.mem_singleton.mp hh⟩
    · rintro ⟨x, hx, rfl⟩; rw [List.mem_singleton.mp hx]; exact List.mem_singleton.mpr rfl

theorem witness_SettlementPlacesStayReserved :
    ((withCard purse).setPending [.openJob [0]]).placesKept ∧
      ∃ t, step ((withCard purse).setPending [.openJob [0]]) = .next t := by
  have rest (n : Nat) := nothing_in_hand (s := (withCard purse).setPending [.openJob [0]]) rfl n
  refine ⟨⟨orderly_of rfl, by decide, by decide, by decide, by decide, fun _ h => ?_, fun _ h => ?_, by decide,
    fun n => ?_, fun _ => ?_⟩, _, rfl⟩
  · exact nomatch (show (none : Option PursePart) = some _ from h)
  · exact nomatch (show (none : Option AccountPart) = some _ from h)
  · rw [rest]
    exact ⟨by decide, by decide, by decide, by decide,
      (fun _ _ h => nomatch (show (none : Option Checkpoint) = some _ from h)),
      fun _ _ h => nomatch (show (none : Option Checkpoint) = some _ from h)⟩
  · rw [Store.settled, rest]
    exact ⟨rfl, rfl, fun _ => rfl, fun _ h => nomatch (show (none : Option Checkpoint) = some _ from h)⟩

theorem witness_ResetObeysEveryLaw : ({ st with powered := false } : State).store.records = StoreRecords.factory := rfl

theorem witness_FramesAndRecordsReadBack_frames :
    Frame.good { head := head, body := .post (postOf 16777215 true true) } = true ∧
    Frame.good { head := { dest := 63, source := 31, exch := 255 }, body := .roll { first := 65535, last := 0, joining := true } } = true := by
  decide

theorem witness_FramesAndRecordsReadBack_records :
    (List.replicate 240 0#8).length ≤ 240 ∧
    (escrowed.balance < 16777216 ∧ escrowed.escrow < 16777216 ∧ escrowed.tag < 65536 ∧ escrowed.counter < 4294967296 ∧
      escrowed.station = some 3 ∧ 3 < 32 ∧ escrowed.escrow ≠ 0) ∧ (purse.escrow = 0 ∧ purse.station = none) ∧
    options.inRange = true ∧ tariff.inRange = true ∧ profile.inRange = true := by decide

end Sys2Proof.Tests
end

section
/-! ## The law of funds (R10), part by part -/

namespace Sys2Proof.Machine

/-- The law of funds as far as it speaks of the job context, the FEED in hand and the path queue. -/
structure FundsLaw (c : JobContext) (feed : Option PendingFeed) (q : List SheetRecord) : Prop where
  covered : c.charged + c.reserved ≤ c.funded
  reserved : c.reserved = (q.map SheetRecord.reserve).sum
  prices : ∀ r ∈ q, r.reserve = reservation r.price
  feed : ∀ f, feed = some f → f.reserve = reservation f.price
  numbers : (q.map SheetRecord.number).Nodup
  fed : ∀ r ∈ q, r.number ≤ c.fed
  sheets : q ≠ [] → c.state = .running ∨ c.state = .draining
  opening : c.state = .authorising → c.charged = 0

/-- C is at most F in the stored checkpoint and in every checkpoint write in hand. -/
structure Store.checkpointsCovered (x : Store) : Prop where
  stored : ∀ k, x.records.checkpoint = some k → k.charged ≤ k.funded
  writes : ∀ w ∈ x.writes, w.covered

/-- The law of funds reads nothing but the job, the path queue and the store. -/
theorem State.withinFunds_iff (s : State) :
    s.withinFunds ↔ FundsLaw s.job.ctx s.job.feed s.path.queue ∧ s.store.checkpointsCovered where
  mp h := ⟨⟨h.covered, h.reserved, h.prices, h.feed, h.numbers, h.fed, h.sheets, h.opening⟩, h.stored, h.writes⟩
  mpr h := ⟨h.1.covered, h.1.reserved, h.1.prices, h.1.feed, h.1.numbers, h.1.fed, h.1.sheets, h.1.opening, h.2.stored,
    h.2.writes⟩

theorem State.withinFunds.law {s : State} (h : s.withinFunds) : FundsLaw s.job.ctx s.job.feed s.path.queue :=
  (s.withinFunds_iff.mp h).1

theorem State.withinFunds.store {s : State} (h : s.withinFunds) : s.store.checkpointsCovered :=
  (s.withinFunds_iff.mp h).2

/-- Only a RUNNING or DRAINING job has sheets in the path. -/
theorem State.withinFunds.no_sheets {s : State} (h : s.withinFunds) (hr : s.job.ctx.state ≠ .running)
    (hd : s.job.ctx.state ≠ .draining) : s.path.queue = [] := by
  by_contra hq
  exact (h.sheets hq).elim hr hd

/-- A context with the same counts and state, and with as much or more funded, obeys the law as well. -/
theorem FundsLaw.more_funds {c d : JobContext} {feed : Option PendingFeed} {q : List SheetRecord}
    (h : FundsLaw c feed q) (hf : c.funded ≤ d.funded) (hc : d.charged = c.charged) (hr : d.reserved = c.reserved)
    (hn : d.fed = c.fed) (hs : d.state = c.state) : FundsLaw d feed q where
  covered := by rw [hc, hr]; exact h.covered.trans hf
  reserved := hr.trans h.reserved
  prices := h.prices
  feed := h.feed
  numbers := h.numbers
  fed := by rw [hn]; exact h.fed
  sheets := by rw [hs]; exact h.sheets
  opening := by rw [hs, hc]; exact h.opening

/-- The FEED in hand ends. -/
theorem FundsLaw.no_feed {c : JobContext} {feed : Option PendingFeed} {q : List SheetRecord} (h : FundsLaw c feed q) :
    FundsLaw c none q := { h with feed := fun _ hf => nomatch hf }

/-- A FEED whose reservation is its price's is taken in hand. -/
theorem FundsLaw.with_feed {c : JobContext} {feed : Option PendingFeed} {q : List SheetRecord} (h : FundsLaw c feed q)
    {f : PendingFeed} (hf : f.reserve = reservation f.price) : FundsLaw c (some f) q :=
  { h with feed := by rintro _ ⟨⟩; exact hf }

/-- With the path empty the law says that C is within F and nothing is reserved, and that an AUTHORISING job has
charged nothing. -/
theorem FundsLaw.of_empty_path {c : JobContext} {feed : Option PendingFeed} (hc : c.charged ≤ c.funded)
    (hr : c.reserved = 0) (hf : ∀ f, feed = some f → f.reserve = reservation f.price)
    (ho : c.state = .authorising → c.charged = 0) : FundsLaw c feed [] where
  covered := by omega
  reserved := by simp [hr]
  prices := by simp
  feed := hf
  numbers := by simp
  fed := by simp
  sheets := by simp
  opening := ho

/-- With the path empty a job that obeys the law may go to any state but AUTHORISING. -/
theorem FundsLaw.change_state {c d : JobContext} {feed : Option PendingFeed} (h : FundsLaw c feed [])
    (hf : d.funded = c.funded) (hc : d.charged = c.charged) (hr : d.reserved = c.reserved)
    (hs : d.state ≠ .authorising) : FundsLaw d feed [] :=
  .of_empty_path (by have := h.covered; omega) (by have := h.reserved; simp at this; omega) h.feed (absurd · hs)

/-! ## Updates of one block -/

section
variable (s : State)

@[simp] theorem setPort_withinFunds (p : Port) : (s.setPort p).withinFunds ↔ s.withinFunds := by
  simp [State.withinFunds_iff]
@[simp] theorem setTariff_withinFunds (t : Option Tariff) : (s.setTariff t).withinFunds ↔ s.withinFunds := by
  simp [State.withinFunds_iff]
@[simp] theorem setCard_withinFunds (c : CardUnit) : (s.setCard c).withinFunds ↔ s.withinFunds := by
  simp [State.withinFunds_iff]
@[simp] theorem setLine_withinFunds (l : LineUnit) : (s.setLine l).withinFunds ↔ s.withinFunds := by
  simp [State.withinFunds_iff]
@[simp] theorem setAccounts_withinFunds (a : AccountUnit) : (s.setAccounts a).withinFunds ↔ s.withinFunds := by
  simp [State.withinFunds_iff]
@[simp] theorem setSettle_withinFunds (u : SettlementUnit) : (s.setSettle u).withinFunds ↔ s.withinFunds := by
  simp [State.withinFunds_iff]
@[simp] theorem setMeter_withinFunds (m : MeterUnit) : (s.setMeter m).withinFunds ↔ s.withinFunds := by
  simp [State.withinFunds_iff]
@[simp] theorem setPending_withinFunds (l : List Instr) : (s.setPending l).withinFunds ↔ s.withinFunds := by
  simp [State.withinFunds_iff]
@[simp] theorem advanceFree_withinFunds : (advanceFree s).withinFunds ↔ s.withinFunds := by
  simp [State.withinFunds_iff]

@[simp] theorem State.setPath_setPath (p q : PathMonitor) : (s.setPath p).setPath q = s.setPath q := rfl

@[simp] theorem setPath_withinFunds {p : PathMonitor} (hq : p.queue = s.path.queue) :
    (s.setPath p).withinFunds ↔ s.withinFunds := by
  simp [State.withinFunds_iff, hq]

@[simp] theorem setJob_withinFunds {j : JobUnit} (hc : j.ctx = s.job.ctx) (hf : j.feed = s.job.feed) :
    (s.setJob j).withinFunds ↔ s.withinFunds := by
  simp [State.withinFunds_iff, hc, hf]

variable {s}

/-- A new job unit needs only the law of its context and its FEED over the sheets in the path. -/
theorem State.withinFunds.setJob (h : s.withinFunds) {j : JobUnit} (hj : FundsLaw j.ctx j.feed s.path.queue) :
    (s.setJob j).withinFunds :=
  (State.withinFunds_iff _).mpr ⟨hj, h.store⟩

theorem State.withinFunds.setCtx (h : s.withinFunds) {c : JobContext} (hc : FundsLaw c s.job.feed s.path.queue) :
    (s.setCtx c).withinFunds := h.setJob hc

/-- The FEED in hand ends. -/
@[simp] theorem State.withinFunds.no_feed (h : s.withinFunds) : (s.setJob { s.job with feed := none }).withinFunds :=
  h.setJob h.law.no_feed

/-- The context takes as much or more funds, its counts and state as they were. -/
theorem State.withinFunds.more_funds (h : s.withinFunds) {c : JobContext} (hf : s.job.ctx.funded ≤ c.funded)
    (hc : c.charged = s.job.ctx.charged) (hr : c.reserved = s.job.ctx.reserved) (hn : c.fed = s.job.ctx.fed)
    (hs : c.state = s.job.ctx.state) : (s.setCtx c).withinFunds :=
  h.setCtx (h.law.more_funds hf hc hr hn hs)

end

/-! ## Operations that leave the job, the path queue and the store alone -/

section
variable (s : State)

@[simp] theorem raiseNotice_withinFunds (b : NoticeBody) : (raiseNotice b s).withinFunds ↔ s.withinFunds := by
  simp [State.withinFunds_iff]
@[simp] theorem placeResult_withinFunds (r : Result) : (placeResult r s).withinFunds ↔ s.withinFunds := by
  simp [State.withinFunds_iff]
@[simp] theorem complete_withinFunds (r : Reason) (v : Values) : (complete r v s).withinFunds ↔ s.withinFunds := by
  simp [State.withinFunds_iff]
@[simp] theorem holdResult_withinFunds (r : Reason) (v : Values) : (holdResult r v s).withinFunds ↔ s.withinFunds := by
  simp [State.withinFunds_iff]
@[simp] theorem releaseHeld_withinFunds : (releaseHeld s).withinFunds ↔ s.withinFunds := by
  simp [State.withinFunds_iff]
@[simp] theorem discardResult_withinFunds : (discardResult s).withinFunds ↔ s.withinFunds := by
  simp [State.withinFunds_iff]
@[simp] theorem askExchange_withinFunds (x : Source) (d : Nat) (b : Payload) (n : Nat) :
    (askExchange x d b n s).withinFunds ↔ s.withinFunds := by simp [State.withinFunds_iff]
@[simp] theorem readyFrame_withinFunds (p : Place) (f : Frame) : (readyFrame p f s).withinFunds ↔ s.withinFunds := by
  simp [State.withinFunds_iff]
@[simp] theorem emptyPlace_withinFunds (p : Place) : (emptyPlace p s).withinFunds ↔ s.withinFunds := by
  simp [State.withinFunds_iff]
@[simp] theorem dropExchanges_withinFunds (x : Source) : (dropExchanges x s).withinFunds ↔ s.withinFunds := by
  simp [State.withinFunds_iff]
@[simp] theorem markPresence_withinFunds (n : Nat) (b : Bool) : (markPresence n b s).withinFunds ↔ s.withinFunds := by
  simp [State.withinFunds_iff]
@[simp] theorem handOwn_withinFunds (o : Origin) (b : Payload) : (handOwn o b s).withinFunds ↔ s.withinFunds := by
  simp [State.withinFunds_iff]
@[simp] theorem startWrite_withinFunds (p : WritePurpose) (i : PurseImage) (q : Purse) :
    (startWrite p i q s).withinFunds ↔ s.withinFunds := by simp [State.withinFunds_iff]
@[simp] theorem enterPath_withinFunds (p : PathState) : (enterPath p s).withinFunds ↔ s.withinFunds := by
  simp [State.withinFunds_iff]
@[simp] theorem sendCard_withinFunds (r : CardRequest) : (sendCard r s).withinFunds ↔ s.withinFunds := by
  simp [sendCard]
@[simp] theorem freeCardPlace_withinFunds : (freeCardPlace s).withinFunds ↔ s.withinFunds := by
  simp [freeCardPlace]

end

/-! ## Store writes -/

@[simp] theorem RecordWrite.options_covered (b : List Byte) : (options b).covered := trivial
@[simp] theorem RecordWrite.tariff_covered (t : Tariff) : (tariff t).covered := trivial
@[simp] theorem RecordWrite.profile_covered (p : Profile) : (profile p).covered := trivial
@[simp] theorem RecordWrite.account_covered (n : Nat) (a : Option Account) : (account n a).covered := trivial
@[simp] theorem RecordWrite.hold_covered (n : Nat) (h : Option Hold) : (hold n h).covered := trivial
@[simp] theorem RecordWrite.refunds_covered (l : List RefundEntry) : (refunds l).covered := trivial
@[simp] theorem RecordWrite.outbound_covered (l : List OutEntry) : (outbound l).covered := trivial
@[simp] theorem RecordWrite.meters_covered (m : MeterRecord) : (meters m).covered := trivial
@[simp] theorem RecordWrite.noCheckpoint_covered : (checkpoint none).covered := trivial
@[simp] theorem RecordWrite.serial_covered (n : Nat) : (serial n).covered := trivial

/-- A write begun is covered as it was submitted. -/
@[simp] theorem RecordWrite.begun_covered (m : MeterRecord) (w : RecordWrite) : (w.begun m).covered ↔ w.covered := by
  cases w <;> rfl

/-- The store begins a write: the writes in hand are the same but for the counters of a meter write. -/
theorem beginWrite_covered {s : State} (h : ∀ w ∈ s.store.writes, w.covered) :
    ∀ w ∈ (beginWrite s).store.writes, w.covered := by
  unfold beginWrite
  split
  · rename_i w rest hc hq
    simpa [Store.writes, hc, hq] using h
  · exact h

theorem beginWrite_checkpointsCovered {s : State} (h : s.store.checkpointsCovered) :
    (beginWrite s).store.checkpointsCovered :=
  ⟨by rw [beginWrite_records]; exact h.stored, beginWrite_covered h.writes⟩

theorem Store.checkpointsCovered.submit {s : State} (h : s.store.checkpointsCovered) (t : WriteTag) {w : RecordWrite}
    (hw : w.covered) : (submit t w s).store.checkpointsCovered := by
  unfold Machine.submit
  split
  · refine beginWrite_checkpointsCovered ⟨h.stored, fun x hx => ?_⟩
    simp only [Store.writes, State.setStore_store, List.mem_append, List.map_append, List.map_cons, List.map_nil,
      List.mem_singleton] at hx
    rcases hx with hx | (hx | rfl) | hx
    · exact h.writes x (by simp [Store.writes, hx])
    · exact h.writes x (by rw [Store.writes, List.map_append]; simp [hx])
    · exact hw
    · exact h.writes x (by rw [Store.writes, List.map_append]; simp [hx])
  · refine ⟨h.stored, fun x hx => ?_⟩
    simp only [Store.writes, State.setStore_store, List.map_append, List.map_cons, List.map_nil,
      List.mem_append, List.mem_singleton] at hx
    rcases hx with hx | hx | hx | rfl
    · exact h.writes x (by simp [Store.writes, hx])
    · exact h.writes x (by rw [Store.writes, List.map_append]; simp [hx])
    · exact h.writes x (by rw [Store.writes, List.map_append]; simp [hx])
    · exact hw

theorem Store.checkpointsCovered.noteMeters {s : State} (h : s.store.checkpointsCovered) :
    (noteMeters s).store.checkpointsCovered := by
  unfold Machine.noteMeters
  split
  · exact h
  · split
    · exact ⟨h.stored, h.writes⟩
    · exact h.submit _ trivial

theorem Store.checkpointsCovered.addMeters {s : State} (h : s.store.checkpointsCovered) (n : MetersOf Nat) :
    (addMeters n s).store.checkpointsCovered := by
  unfold Machine.addMeters
  split
  · exact h
  · exact Store.checkpointsCovered.noteMeters (s := s.setMeter _) h

section
variable {s : State} (h : s.withinFunds)
include h

@[simp] theorem submit_withinFunds (t : WriteTag) {w : RecordWrite} (hw : w.covered) : (submit t w s).withinFunds :=
  (State.withinFunds_iff _).mpr ⟨by simpa using h.law, h.store.submit t hw⟩

@[simp] theorem beginWrite_withinFunds : (beginWrite s).withinFunds :=
  (State.withinFunds_iff _).mpr ⟨by simpa using h.law, beginWrite_checkpointsCovered h.store⟩

@[simp] theorem submitAndAnswer_withinFunds {w : RecordWrite} (hw : w.covered) (v : Values) :
    (submitAndAnswer w v s).withinFunds := by
  unfold submitAndAnswer; split <;> simp [h, hw]

@[simp] theorem noteMeters_withinFunds : (noteMeters s).withinFunds :=
  (State.withinFunds_iff _).mpr ⟨by simpa using h.law, h.store.noteMeters⟩

@[simp] theorem addMeters_withinFunds (n : MetersOf Nat) : (addMeters n s).withinFunds :=
  (State.withinFunds_iff _).mpr ⟨by simpa using h.law, h.store.addMeters n⟩

@[simp] theorem setOutbound_withinFunds (l : List OutEntry) : (setOutbound l s).withinFunds := by
  simp [setOutbound, h]

@[simp] theorem addOutbound_withinFunds (e : OutEntry) : (addOutbound e s).withinFunds := by
  simp [addOutbound, h]

@[simp] theorem setRefunds_withinFunds (t : WriteTag) (l : List RefundEntry) : (setRefunds t l s).withinFunds := by
  simp [setRefunds, h]

@[simp] theorem fillRefund_withinFunds (serial tag charged : Nat) : (fillRefund serial tag charged s).withinFunds := by
  simp [fillRefund, h]

@[simp] theorem removeRefund_withinFunds (serial tag : Nat) : (removeRefund serial tag s).withinFunds := by
  unfold removeRefund; split <;> simp [h]

end

end Sys2Proof.Machine
end

section
/-! ## The job unit keeps the law of funds -/

namespace Sys2Proof.Machine

/-- What a checkpoint holds, and when there is one (R8, R25). -/
theorem JobContext.checkpoint_eq_some {c : JobContext} {k : Checkpoint} :
    c.checkpoint = some k ↔ ∃ n kind, c.serial = some n ∧ c.funding = some kind ∧ c.state ≠ .authorising ∧
      k = { serial := n, funding := kind, openingCard := c.openingCard, purse := c.purse, account := c.account
            funded := c.funded, charged := c.charged, delivered := c.delivered, usage := c.usage } := by
  unfold JobContext.checkpoint
  split
  · rename_i n kind hn hk
    by_cases hs : c.state = .authorising <;> simp [hn, hk, hs, eq_comm]
  · rename_i hnone
    constructor
    · rintro ⟨⟩
    · rintro ⟨n, kind, hn, hk, -⟩
      exact (hnone n kind hn hk).elim

/-! ### Settlement -/

section
variable {s : State} (h : s.withinFunds)
include h

@[simp] theorem writeCheckpoint_withinFunds : (writeCheckpoint s).withinFunds := by
  unfold writeCheckpoint
  split
  · rename_i k hk
    obtain ⟨n, kind, -, -, -, rfl⟩ := JobContext.checkpoint_eq_some.mp hk
    exact submit_withinFunds h _ ((Nat.le_add_right _ _).trans h.covered)
  · exact h

@[simp] theorem takeSerial_withinFunds (t : WriteTag) : (takeSerial t s).withinFunds := by
  simp [takeSerial, h]

/-- The job unit returns to NONE with no sheet in the path. -/
theorem jobToNone_withinFunds (hq : s.path.queue = []) : (jobToNone s).withinFunds := by
  have ended : FundsLaw s.job.ctx.ended none s.path.queue := by
    have law := h.law.no_feed
    rw [hq] at law ⊢
    exact law.change_state rfl rfl rfl (by simp [JobContext.ended])
  simpa [jobToNone] using h.setJob (j := { s.job with
    ctx := s.job.ctx.ended, removed := false, feed := none, waiting := [], postDue := none, awaitsCard := false }) ended

/-- A job ends with no sheet in the path. -/
theorem endJob_withinFunds (hq : s.path.queue = []) (route : Route) : (endJob route s).withinFunds := by
  have ended : (jobToNone (submit .plain (.checkpoint none) (raiseNotice (.jobEnd (s.job.ctx.endItems route))
      (addMeters { MetersOf.zero with jobs := FundsOf.only s.job.ctx.funding 1 } s)))).withinFunds :=
    jobToNone_withinFunds (by simp [h]) (by simpa using hq)
  unfold endJob
  dsimp only
  split
  · simpa using ended
  · exact ended

/-- What a SETTLING job does keeps the law, given that it does with no sheet in the path. -/
theorem whenSettling_withinFunds {f : State → State} (hf : s.path.queue = [] → (f s).withinFunds) :
    (whenSettling f s).withinFunds := by
  unfold whenSettling
  split
  · rename_i hs
    exact hf (h.no_sheets (by simp [hs]) (by simp [hs]))
  · exact h

@[simp] theorem settleByRefund_withinFunds : (settleByRefund s).withinFunds := by
  refine whenSettling_withinFunds h fun hq => ?_
  split
  · exact endJob_withinFunds (by simp [h]) (by simpa using hq) _
  · exact endJob_withinFunds h hq _

@[simp] theorem settleByQueue_withinFunds : (settleByQueue s).withinFunds := by
  refine whenSettling_withinFunds h fun hq => ?_
  split
  · exact endJob_withinFunds (by simp [h]) (by simpa using hq) _
  · exact endJob_withinFunds h hq _

theorem settlePurse_withinFunds (hq : s.path.queue = []) : (settlePurse s).withinFunds := by
  unfold settlePurse
  split
  · exact endJob_withinFunds h hq _
  · split
    · split <;> simp [h]
    · simp [h]

@[simp] theorem topUpRefused_withinFunds : (topUpRefused s).withinFunds :=
  h.more_funds le_rfl rfl rfl rfl rfl

@[simp] theorem topUpLapsed_withinFunds : (topUpLapsed s).withinFunds :=
  h.more_funds le_rfl rfl rfl rfl rfl

@[simp] theorem jobRequestNoLine_withinFunds (r : JobRequest) : (jobRequestNoLine r s).withinFunds := by
  cases r <;> simp [jobRequestNoLine, h]

end

@[simp] theorem handRequests_withinFunds (l : List JobRequest) {s : State} (h : s.withinFunds) :
    (handRequests l s).withinFunds := by
  induction l generalizing s with
  | nil => exact h
  | cons r rest ih =>
    unfold handRequests
    dsimp only
    split_ifs
    · exact h
    · simp [h]
    · simp [h]
    · exact ih (by simp [h])

section
variable {s : State} (h : s.withinFunds)
include h

@[simp] theorem pumpJob_withinFunds : (pumpJob s).withinFunds := handRequests_withinFunds _ h

@[simp] theorem askJob_withinFunds (r : JobRequest) : (askJob r s).withinFunds := by
  simp [askJob, h]

@[simp] theorem settleAccount_withinFunds : (settleAccount s).withinFunds := by
  unfold settleAccount; split <;> simp [h]

/-- A job goes to SETTLING with no sheet in the path. -/
theorem enterSettling_withinFunds (hq : s.path.queue = []) : (enterSettling s).withinFunds := by
  have settling : (s.setJob { s.job with
      ctx := { s.job.ctx with state := .settling }, postDue := none }).withinFunds := by
    have law := h.law
    refine h.setJob ?_
    rw [hq] at law ⊢
    exact law.change_state rfl rfl rfl (by simp)
  unfold enterSettling
  dsimp only
  split
  · exact settlePurse_withinFunds settling (by simpa using hq)
  · exact settleAccount_withinFunds settling

@[simp] theorem stopFeeding_withinFunds (reason : CloseReason) : (stopFeeding reason s).withinFunds := by
  have closing : (s.setCtx { s.job.ctx with closeReason := some reason }).withinFunds :=
    h.more_funds le_rfl rfl rfl rfl rfl
  unfold stopFeeding
  dsimp only
  split
  · split
    · rename_i hq
      exact enterSettling_withinFunds closing hq
    · have law := h.law
      exact h.setCtx { law with
        sheets := fun _ => .inr rfl
        opening := fun hs => nomatch hs }
  · rename_i hs
    exact enterSettling_withinFunds closing (h.no_sheets (by simp [hs]) (by simp [hs]))
  · exact h

/-! ### Opening -/

/-- A job enters RUNNING with no sheet in the path. -/
theorem enterRunning_withinFunds (hq : s.path.queue = []) : (enterRunning s).withinFunds := by
  have running : (s.setJob { s.job with
      ctx := { s.job.ctx with state := .running, charged := 0, delivered := 0, reserved := 0, fed := 0, lost := 0,
                              redone := 0, usage := UsageOf.all 0 }
      lostList := { owner := s.job.ctx.serial, tags := [], overflow := false } }).withinFunds := by
    refine h.setJob ?_
    rw [hq]
    exact .of_empty_path (Nat.zero_le _) rfl h.feed (fun hs => nomatch hs)
  unfold enterRunning
  simpa using writeCheckpoint_withinFunds running

theorem openPurse_withinFunds (hq : s.path.queue = []) (i : PurseImage) : (openPurse i s).withinFunds := by
  unfold openPurse
  dsimp only
  split
  · simpa using h
  · split
    · simpa using h
    · have opened : (enterRunning (((takeSerial .command s).setCard
          { (takeSerial .command s).card with refundReserved := true }).setCtx
          { JobContext.blank with
            serial := some s.job.nextSerial, funding := some .purse, openingCard := some i.serial
            purse := some { card := i.serial, tag := none } })).withinFunds := by
        refine enterRunning_withinFunds ?_ (by simpa using hq)
        refine State.withinFunds.setCtx (by simp [h]) ?_
        have hp : (takeSerial WriteTag.command s).path.queue = [] := by simpa using hq
        simp only [State.setCard_path, hp]
        exact .of_empty_path (Nat.zero_le _) rfl (by simpa [takeSerial] using h.feed) (fun hs => nomatch hs)
      split
      · simpa using opened
      · simpa using opened

/-- A job takes its funding with no sheet in the path and nothing charged. -/
theorem takeFunding_withinFunds (hq : s.path.queue = []) (hc : s.job.ctx.charged = 0) (kind : FundingKind)
    (amount discount : Nat) : (takeFunding kind amount discount s).withinFunds := by
  have funded (c : JobContext) (hcc : c.charged = s.job.ctx.charged) (hr : c.reserved = s.job.ctx.reserved) :
      (s.setCtx c).withinFunds := by
    refine h.setCtx ?_
    have reserved := h.reserved
    rw [hq] at reserved ⊢
    exact .of_empty_path (by omega) (by simpa [hr] using reserved) h.feed (fun _ => by omega)
  unfold takeFunding
  dsimp only
  split
  · refine enterSettling_withinFunds ?_ (by simpa using hq)
    simp only [complete_withinFunds]
    exact writeCheckpoint_withinFunds (funded _ rfl rfl)
  · simp only [complete_withinFunds]
    refine enterRunning_withinFunds ?_ (by simpa using hq)
    rw [setJob_withinFunds _ (by rfl) (by rfl)]
    exact funded _ rfl rfl

theorem refuseOpening_withinFunds (hq : s.path.queue = []) (r : Reason) : (refuseOpening r s).withinFunds := by
  simpa [refuseOpening] using jobToNone_withinFunds h hq

theorem homeUnreachable_withinFunds (hq : s.path.queue = []) (hc : s.job.ctx.charged = 0) :
    (homeUnreachable s).withinFunds := by
  unfold homeUnreachable
  split
  · exact takeFunding_withinFunds h hq hc _ _ _
  · exact refuseOpening_withinFunds h hq _

@[simp] theorem firstHold_withinFunds (asked : Nat) (o : ExchangeOutcome) : (firstHold asked o s).withinFunds := by
  unfold firstHold
  split
  · exact h
  · rename_i hs
    rw [not_not] at hs
    have hq := h.no_sheets (by simp [hs]) (by simp [hs])
    have hc := h.opening hs
    cases o with
    | answer p =>
      cases p with
      | holdAnswer a =>
        dsimp only
        split_ifs
        · exact refuseOpening_withinFunds h hq _
        · exact takeFunding_withinFunds h hq hc _ _ _
        · exact refuseOpening_withinFunds h hq _
      | _ => exact refuseOpening_withinFunds h hq _
    | noAnswer => exact homeUnreachable_withinFunds h hq hc
    | noLine => exact refuseOpening_withinFunds h hq _

theorem openAccount_withinFunds (hq : s.path.queue = []) (number : Nat) (card : Option Nat) :
    (openAccount number card s).withinFunds := by
  have authorising (j : JobUnit) (hj : j.feed = (takeSerial .plain s).job.feed) (hc : j.ctx.charged = 0)
      (hr : j.ctx.reserved = 0) :
      (((takeSerial .plain s).setSettle { (takeSerial .plain s).settle with reservedJob := true }).setJob j).withinFunds := by
    refine State.withinFunds.setJob (by simp [h]) ?_
    have hp : (takeSerial WriteTag.plain s).path.queue = [] := by simpa using hq
    simp only [State.setSettle_path, hp]
    exact .of_empty_path (by omega) hr (by rw [hj]; exact (takeSerial_withinFunds h _).feed) (fun _ => hc)
  unfold openAccount
  split
  · simpa using h
  · split
    · dsimp only
      split_ifs
      · simpa using h
      · simpa using h
      · rw [handOwn_withinFunds]
        exact authorising _ rfl rfl rfl
      · rw [askExchange_withinFunds]
        exact authorising _ rfl rfl rfl
      · exact homeUnreachable_withinFunds (authorising _ rfl rfl rfl) (by simpa using hq) rfl
    · simpa using h

end

end Sys2Proof.Machine
end

section
/-! ### The feed gate, deliveries and losses -/

namespace Sys2Proof.Machine

/-- A sheet's charge is at most its reservation (R34, R35). -/
theorem charge_le_reservation (delivered price : Nat) : charge delivered price ≤ reservation price := by
  simp only [charge, roundHalfUp, reservation]; omega

/-- A granted sheet's record joins the path queue of a job with funds for it (R10, R50). -/
theorem FundsLaw.grant {c d : JobContext} {feed : Option PendingFeed} {q : List SheetRecord} (h : FundsLaw c feed q)
    {r : SheetRecord} (hp : r.reserve = reservation r.price) (hf : r.reserve ≤ c.free) (hn : r.number = c.fed + 1)
    (hs : c.state = .running) (hfunded : d.funded = c.funded) (hcharged : d.charged = c.charged)
    (hreserved : d.reserved = c.reserved + r.reserve) (hfed : d.fed = c.fed + 1) (hstate : d.state = c.state) :
    FundsLaw d none (q ++ [r]) where
  covered := by have := h.covered; unfold JobContext.free at hf; omega
  reserved := by simp [hreserved, h.reserved]
  prices := by simpa [or_imp, forall_and, hp] using h.prices
  feed := fun _ hf => nomatch hf
  numbers := by
    rw [List.map_append, List.nodup_append]
    refine ⟨h.numbers, by simp, ?_⟩
    simp only [List.mem_map, List.map_cons, List.map_nil, List.mem_singleton]
    rintro _ ⟨x, hx, rfl⟩ _ rfl
    have := h.fed x hx
    omega
  fed := by
    simp only [List.mem_append, List.mem_singleton, hfed]
    rintro x (hx | rfl)
    · exact (h.fed x hx).trans (Nat.le_succ _)
    · exact hn.le
  sheets := fun _ => .inl (hstate.trans hs)
  opening := by rw [hstate, hs]; exact fun hs => nomatch hs

/-- The records of other numbers are those left when one record of a queue is taken out. -/
theorem filter_number_perm {q : List SheetRecord} (hq : (q.map SheetRecord.number).Nodup) {r : SheetRecord} (hr : r ∈ q) :
    q.Perm (r :: q.filter fun y => y.number != r.number) := by
  induction q with
  | nil => cases hr
  | cons x rest ih =>
    rw [List.map_cons, List.nodup_cons] at hq
    obtain ⟨hx, hrest⟩ := hq
    rcases List.mem_cons.mp hr with rfl | hr
    · have others : rest.filter (fun y => y.number != r.number) = rest :=
        List.filter_eq_self.mpr fun y hy => by
          simpa using fun e => hx (List.mem_map.mpr ⟨y, hy, e⟩)
      simp [others]
    · have other : x.number ≠ r.number := fun e => hx (List.mem_map.mpr ⟨r, hr, e.symm⟩)
      simpa [other] using ((ih hrest hr).cons x).trans (List.Perm.swap ..)

/-- A delivered sheet leaves the path queue and is charged (R16). -/
theorem FundsLaw.deliver {c d : JobContext} {feed : Option PendingFeed} {q : List SheetRecord} (h : FundsLaw c feed q)
    {r : SheetRecord} (hr : r ∈ q) {delivered : Nat} (hfunded : d.funded = c.funded)
    (hcharged : d.charged = c.charged + charge delivered r.price) (hreserved : d.reserved = c.reserved - r.reserve)
    (hfed : d.fed = c.fed) (hstate : d.state = c.state) :
    FundsLaw d feed (q.filter fun y => y.number != r.number) := by
  have perm := filter_number_perm h.numbers hr
  have sum : c.reserved = r.reserve + ((q.filter fun y => y.number != r.number).map SheetRecord.reserve).sum := by
    simpa [h.reserved] using (perm.map SheetRecord.reserve).sum_eq
  have paid : charge delivered r.price ≤ r.reserve := h.prices r hr ▸ charge_le_reservation _ _
  have running := h.sheets (List.ne_nil_of_mem hr)
  exact {
    covered := by have := h.covered; omega
    reserved := by omega
    prices := fun x hx => h.prices x (List.mem_of_mem_filter hx)
    feed := h.feed
    numbers := h.numbers.sublist (List.filter_sublist.map _)
    fed := by rw [hfed]; exact fun x hx => h.fed x (List.mem_of_mem_filter hx)
    sheets := fun _ => by rw [hstate]; exact running
    opening := by rw [hstate]; exact fun hs => by simp [hs] at running }

section
variable {s : State} (h : s.withinFunds)
include h

@[simp] theorem refuseFeed_withinFunds (r : Reason) : (refuseFeed r s).withinFunds := by
  simp [refuseFeed, h]

/-- A feed with funds is granted to a RUNNING job. -/
theorem grantFeed_withinFunds {f : PendingFeed} (hp : f.reserve = reservation f.price) (hf : f.reserve ≤ s.job.ctx.free)
    (hs : s.job.ctx.state = .running) : (grantFeed f s).withinFunds := by
  unfold grantFeed
  dsimp only
  split
  · rw [complete_withinFunds, State.withinFunds_iff]
    exact ⟨h.law.grant hp hf rfl hs rfl rfl rfl rfl rfl, h.store⟩
  · simp [h]

@[simp] theorem retakeFeed_withinFunds : (retakeFeed s).withinFunds := by
  unfold retakeFeed
  split
  · exact h
  · rename_i f hf
    split
    · rename_i hs
      split
      · rename_i hr
        exact grantFeed_withinFunds h (h.feed f hf) hr hs
      · simp [h]
    · simp [h]
    · simp [h]

/-- A FEED whose reservation is its price's is taken in hand. -/
theorem State.withinFunds.with_feed {f : PendingFeed} (hp : f.reserve = reservation f.price) :
    (s.setJob { s.job with feed := some f }).withinFunds :=
  h.setJob (h.law.with_feed hp)

theorem seekPurse_withinFunds {f : PendingFeed} (hp : f.reserve = reservation f.price) : (seekPurse f s).withinFunds := by
  unfold seekPurse
  dsimp only
  split
  · split_ifs
    · simpa using h
    · simpa using h
    · simpa using h.with_feed hp
  · simpa using h

theorem seekAccount_withinFunds {f : PendingFeed} (hp : f.reserve = reservation f.price) :
    (seekAccount f s).withinFunds := by
  have pending : (s.setCtx { s.job.ctx with topUp := .pending }).withinFunds := h.more_funds le_rfl rfl rfl rfl rfl
  unfold seekAccount
  dsimp only
  split
  · simpa using h
  · split_ifs
    · exact askJob_withinFunds (h.with_feed hp) _
    · simpa using h
    · simpa using h
    · simp [h]
    · simp [pending]

theorem feedGate_withinFunds (hs : s.job.ctx.state = .running) (tag : Tag) (d : Sheet) :
    (feedGate tag d s).withinFunds := by
  unfold feedGate
  dsimp only
  split_ifs
  · simpa using h
  · simpa using h
  · split
    · simpa using h
    · split_ifs
      · simpa using h
      · rename_i hr
        exact grantFeed_withinFunds h rfl hr hs
      · split
        · exact seekPurse_withinFunds h rfl
        · exact seekAccount_withinFunds h rfl
        · simpa using h

@[simp] theorem moveCompleted_withinFunds (m tag : Nat) : (moveCompleted m tag s).withinFunds := by
  have raised : (s.setCtx { s.job.ctx with
      funded := s.job.ctx.funded + m
      purse := s.job.ctx.purse.map fun p => { p with tag := some (p.tag.getD tag) } }).withinFunds :=
    h.more_funds (Nat.le_add_right _ _) rfl rfl rfl rfl
  simp [moveCompleted, raised]

@[simp] theorem moveUncertain_withinFunds : (moveUncertain s).withinFunds := by
  simp [moveUncertain, h]

/-! ### Top-ups and posts -/

@[simp] theorem topUpGranted_withinFunds (g : Nat) : (topUpGranted g s).withinFunds :=
  writeCheckpoint_withinFunds (h.more_funds (Nat.le_add_right _ _) rfl rfl rfl rfl)

@[simp] theorem localTopUp_withinFunds (a : HoldAnswerFields) : (localTopUp a s).withinFunds := by
  unfold localTopUp; split_ifs <;> simp [h]

@[simp] theorem remoteTopUp_withinFunds (asked : Nat) (o : ExchangeOutcome) : (remoteTopUp asked o s).withinFunds := by
  unfold remoteTopUp
  split
  · split_ifs <;> simp [h]
  · simp [h]
  · simp [h]
  · simp [h]

@[simp] theorem acknowledge_withinFunds (posted : Nat) : (acknowledge posted s).withinFunds :=
  h.more_funds le_rfl rfl rfl rfl rfl

@[simp] theorem periodicOutcome_withinFunds (o : ExchangeOutcome) : (periodicOutcome o s).withinFunds := by
  unfold periodicOutcome
  split
  · split_ifs
    · simp [h]
    · exact writeCheckpoint_withinFunds (by simp [h])
    · exact h
    · simp [h]
  · simp [h]
  · exact h
  · exact h

theorem finalFailed_withinFunds (hq : s.path.queue = []) (status : Nat) : (finalFailed status s).withinFunds := by
  unfold finalFailed
  split
  · exact endJob_withinFunds (by simpa using h) (by simpa using hq) _
  · exact endJob_withinFunds h hq _

@[simp] theorem finalAcknowledged_withinFunds (posted : Nat) : (finalAcknowledged posted s).withinFunds := by
  unfold finalAcknowledged; split <;> simp [h]

omit h in
@[simp] theorem finalAcknowledged_path (posted : Nat) : (finalAcknowledged posted s).path = s.path := by
  unfold finalAcknowledged; split <;> simp [acknowledge]

@[simp] theorem finalOutcome_withinFunds (o : ExchangeOutcome) : (finalOutcome o s).withinFunds := by
  refine whenSettling_withinFunds h fun hq => ?_
  split
  · split
    · exact endJob_withinFunds (by simp [h]) (by simpa [h] using hq) _
    · exact finalFailed_withinFunds h hq _
  · exact finalFailed_withinFunds h hq _
  · simp [h]
  · simp [h]

@[simp] theorem jobOutcome_withinFunds (body : Payload) (o : ExchangeOutcome) : (jobOutcome body o s).withinFunds := by
  unfold jobOutcome
  refine pumpJob_withinFunds ?_
  split
  · simp [h]
  · split <;> simp [h]
  · split <;> simp [h]
  · exact h

/-! ### Deliveries, losses and cards -/

/-- The sheet `r` of the path queue is delivered. -/
theorem deliver_withinFunds {r : SheetRecord} (hr : r ∈ s.path.queue) :
    (deliver r (s.setPath { s.path with queue := s.path.queue.filter fun y => y.number != r.number })).withinFunds := by
  have charged : ((s.setPath { s.path with queue := s.path.queue.filter fun y => y.number != r.number }).setCtx
      { s.job.ctx with
        charged := s.job.ctx.charged + charge s.job.ctx.delivered r.price
        delivered := s.job.ctx.delivered + r.price, reserved := s.job.ctx.reserved - r.reserve
        usage := UsageOf.zip (· + ·) s.job.ctx.usage r.sheet.usage }).withinFunds :=
    (State.withinFunds_iff _).mpr ⟨h.law.deliver hr rfl rfl rfl rfl rfl, h.store⟩
  have written := fun n => addMeters_withinFunds (writeCheckpoint_withinFunds charged) n
  unfold deliver
  dsimp only
  split
  · rename_i hempty
    exact enterSettling_withinFunds (written _) hempty.2
  · exact written _

@[simp] theorem openingCardRemoved_withinFunds (serial : Nat) : (openingCardRemoved serial s).withinFunds := by
  unfold openingCardRemoved
  split
  · split <;> simp [h]
  · exact h

@[simp] theorem interruptedNoCard_withinFunds : (interruptedNoCard s).withinFunds := by
  unfold interruptedNoCard; split <;> simp [h]

@[simp] theorem interruptedCard_withinFunds : (interruptedCard s).withinFunds := by
  unfold interruptedCard
  split
  · split
    · split <;> simp [h]
    · simp [h]
  · exact h

@[simp] theorem settlementWritten_withinFunds : (settlementWritten s).withinFunds := by
  refine whenSettling_withinFunds h fun hq => ?_
  dsimp only
  split
  · exact endJob_withinFunds (by simp [h]) (by simpa using hq) _
  · exact endJob_withinFunds h hq _

end

/-! ### A jam loses every sheet -/

/-- The job context after the losses of a jam (R17). -/
theorem foldl_loseSheet_ctx (q : List SheetRecord) (s : State) :
    (q.foldl loseSheet s).job.ctx = { s.job.ctx with
      reserved := s.job.ctx.reserved - (q.map SheetRecord.reserve).sum, lost := s.job.ctx.lost + q.length } := by
  induction q generalizing s with
  | nil => simp
  | cons r rest ih =>
    simp only [List.foldl_cons, ih, List.map_cons, List.sum_cons, List.length_cons]
    simp only [loseSheet, addMeters_job, State.setJob_job]
    congr 1 <;> omega

/-- A loss touches the job's context and lost list, the meters and the store. -/
theorem foldl_loseSheet_frame (q : List SheetRecord) (s : State) (h : s.store.checkpointsCovered) :
    (q.foldl loseSheet s).job.feed = s.job.feed ∧ (q.foldl loseSheet s).path = s.path ∧
      (q.foldl loseSheet s).store.checkpointsCovered := by
  induction q generalizing s with
  | nil => exact ⟨rfl, rfl, h⟩
  | cons r rest ih =>
    obtain ⟨hf, hp, hs⟩ := ih (loseSheet s r) (Store.checkpointsCovered.addMeters (by exact h) _)
    exact ⟨hf.trans (by simp [loseSheet]), hp.trans (by simp [loseSheet]), hs⟩

/-- A path fault halts a RUNNING or DRAINING job (R18). -/
theorem faultJob_job (s : State) :
    (faultJob s).job = { s.job with ctx := { s.job.ctx with
      state := if s.job.ctx.state = .running ∨ s.job.ctx.state = .draining then .halted else s.job.ctx.state } } := by
  unfold faultJob
  cases hs : s.job.ctx.state <;> simp [State.setCtx] <;> rw [← hs]

section
variable {s : State} (h : s.withinFunds)
include h

@[simp] theorem clearOnEntry_withinFunds : (clearOnEntry s).withinFunds := by
  unfold clearOnEntry; split <;> simp [h]

@[simp] theorem declareJam_withinFunds (kind : JamKind) (place : JamPlace) (named : Option SheetRecord) :
    (declareJam kind place named s).withinFunds := by
  have ctx := foldl_loseSheet_ctx s.path.queue
    ((enterPath .fault s).setPath { (enterPath .fault s).path with queue := [] })
  obtain ⟨feed, path, store⟩ := foldl_loseSheet_frame s.path.queue
    ((enterPath .fault s).setPath { (enterPath .fault s).path with queue := [] }) (by simpa using h.store)
  refine clearOnEntry_withinFunds ((State.withinFunds_iff _).mpr ⟨?_, ?_⟩)
  · simp only [faultJob_job, faultJob_path, raiseNotice_job, raiseNotice_path, addMeters_job, addMeters_path,
      State.setPath_job, State.setPath_path, path, ctx, feed]
    have covered := h.covered
    have reserved := h.reserved
    refine .of_empty_path ?_ ?_ (by simpa using h.feed) ?_
    · simp; omega
    · simp; omega
    · simp only [enterPath_job]
      intro hs
      split at hs
      · cases hs
      · exact h.opening hs
  · simp only [faultJob_store, raiseNotice_store]
    exact Store.checkpointsCovered.addMeters (by exact store) _

end

end Sys2Proof.Machine
end

section
/-! ### The card controller, the settlement unit and the line keep the law of funds -/

namespace Sys2Proof.Machine

section
variable {s : State} (h : s.withinFunds)
include h

@[simp] theorem answerRelease_withinFunds (q : EscrowFields) : (answerRelease q s).1.withinFunds := by
  simp [answerRelease, h]

@[simp] theorem answerQuery_withinFunds (q : EscrowFields) : (answerQuery q s).1.withinFunds := by
  unfold answerQuery
  split
  · exact h
  · split
    · exact h
    · dsimp only; split <;> simp [h]

/-! ### The settlement unit -/

@[simp] theorem entryAnswered_withinFunds (e : OutEntry) (p : Payload) : (entryAnswered e p s).withinFunds := by
  simp [entryAnswered, h]

@[simp] theorem tryEntry_withinFunds (e : OutEntry) (b : Bool) : (tryEntry e b s).withinFunds := by
  unfold tryEntry
  dsimp only
  split
  · split <;> simp [h]
  · simp [h]

end

@[simp] theorem roundStep_withinFunds (l : List EntryKey) {s : State} (h : s.withinFunds) : (roundStep l s).withinFunds := by
  induction l generalizing s with
  | nil => simpa [roundStep] using h
  | cons k rest ih =>
    unfold roundStep
    split
    · exact ih h
    · dsimp only
      split
      · simp [h]
      · exact ih (by simp [h])

@[simp] theorem heardStep_withinFunds (fuel : Nat) {s : State} (h : s.withinFunds) : (heardStep fuel s).withinFunds := by
  induction fuel generalizing s with
  | zero => exact h
  | succ fuel ih =>
    unfold heardStep
    split
    · simpa using h
    · dsimp only
      split
      · simp [h]
      · exact ih (by simp [h])

section
variable {s : State} (h : s.withinFunds)
include h

@[simp] theorem beginRound_withinFunds : (beginRound s).withinFunds := by
  simp [beginRound, h]

@[simp] theorem pumpSettlement_withinFunds : (pumpSettlement s).withinFunds := by
  have round : (match s.settle.round with
      | some rest => roundStep rest s
      | none => s).withinFunds := by
    split <;> simp [h]
  unfold pumpSettlement
  dsimp only
  split_ifs
  · simpa using h
  · exact h
  · exact round
  · exact beginRound_withinFunds round
  · exact heardStep_withinFunds _ round

@[simp] theorem tryOutcome_withinFunds (o : ExchangeOutcome) : (tryOutcome o s).withinFunds := by
  unfold tryOutcome
  split
  · exact h
  · refine pumpSettlement_withinFunds ?_
    dsimp only
    split
    · simp [h]
    · split <;> simp [h]
    · simpa using h

@[simp] theorem settlementHears_withinFunds (station : Nat) : (settlementHears station s).withinFunds := by
  unfold settlementHears
  split
  · exact h
  · split
    · exact h
    · split <;> simp [h]

/-! ### The card controller -/

@[simp] theorem escrowUnresolved_withinFunds (r : Reason) : (escrowUnresolved r s).withinFunds := by
  unfold escrowUnresolved; split <;> simp [h]

@[simp] theorem endResolving_withinFunds : (endResolving s).withinFunds := by
  simp [endResolving, h]

@[simp] theorem queueRelease_withinFunds (station serial tag : Nat) : (queueRelease station serial tag s).withinFunds := by
  simp [queueRelease, h]

/-- An answer to the card controller's query (R97). -/
theorem queryAnswered_withinFunds (station serial tag : Nat) (o : ExchangeOutcome) :
    (cardExchangeEnds (.query station serial tag true) o s).withinFunds := by
  simp only [cardExchangeEnds]
  split
  · split_ifs
    · split
      · split_ifs <;> simp [h]
      · simp [h]
    · simp [h]
    · simp [h]
  · simp [h]
  · simp [h]
  · simp [h]

@[simp] theorem cardExchangeEnds_withinFunds (e : CardExchange) (o : ExchangeOutcome) :
    (cardExchangeEnds e o s).withinFunds := by
  match e with
  | .release station serial tag => cases o <;> simp [cardExchangeEnds, h]
  | .query _ _ _ false => simp [cardExchangeEnds, h]
  | .query station serial tag true => exact queryAnswered_withinFunds h station serial tag o

end

@[simp] theorem handCardExchanges_withinFunds (l : List CardExchange) {s : State} (h : s.withinFunds) :
    (handCardExchanges l s).withinFunds := by
  induction l generalizing s with
  | nil => exact h
  | cons e rest ih =>
    unfold handCardExchanges
    dsimp only
    split_ifs
    · exact h
    · simp [h]
    · exact ih (by simp [h])

section
variable {s : State} (h : s.withinFunds)
include h

@[simp] theorem pumpCard_withinFunds : (pumpCard s).withinFunds := handCardExchanges_withinFunds _ h

@[simp] theorem askCard_withinFunds (e : CardExchange) : (askCard e s).withinFunds := by
  simp [askCard, h]

@[simp] theorem cardOutcome_withinFunds (o : ExchangeOutcome) : (cardOutcome o s).withinFunds := by
  unfold cardOutcome; split <;> simp [h]

@[simp] theorem removeStale_withinFunds (i : PurseImage) : (removeStale i s).withinFunds := by
  unfold removeStale; split <;> simp [h]

@[simp] theorem settleFromList_withinFunds (i : PurseImage) : (settleFromList i s).withinFunds := by
  unfold settleFromList
  split
  · simp [h]
  · split
    · simp [h]
    · split <;> simp [h]

@[simp] theorem resolveEscrow_withinFunds (k : Nat) (i : PurseImage) : (resolveEscrow k i s).withinFunds := by
  unfold resolveEscrow; split_ifs <;> simp [h]

@[simp] theorem lookAtEscrow_withinFunds (i : PurseImage) : (lookAtEscrow i s).withinFunds := by
  unfold lookAtEscrow
  split_ifs
  · exact h
  · simp [h]
  · split <;> simp [h]

@[simp] theorem beginReading_withinFunds : (beginReading s).withinFunds := by
  simp [beginReading, h]

@[simp] theorem rejectCard_withinFunds (r : Reason) : (rejectCard r s).withinFunds := by
  simp [rejectCard, h]

@[simp] theorem readyAccountCard_withinFunds (id : CardIdentity) : (readyAccountCard id s).withinFunds := by
  simp [readyAccountCard, h]

@[simp] theorem readyPurseCard_withinFunds (i : PurseImage) : (readyPurseCard i s).withinFunds := by
  have known (c : CardUnit) : (removeStale i (raiseNotice (.cardInsertedPurse i.serial i.purse) (s.setCard c))).withinFunds := by
    simp [h]
  unfold readyPurseCard
  dsimp only
  split
  · exact interruptedCard_withinFunds (known _)
  · exact lookAtEscrow_withinFunds (interruptedCard_withinFunds (known _)) i

@[simp] theorem judgeIdentity_withinFunds (bytes : List Byte) : (judgeIdentity bytes s).withinFunds := by
  unfold judgeIdentity
  split
  · simp [h]
  · split
    · simp [h]
    · dsimp only
      split_ifs
      · simp [h]
      · simp [h]
      · split <;> simp [h]

@[simp] theorem judgeSlots_withinFunds (a b : List Byte) : (judgeSlots a b s).withinFunds := by
  unfold judgeSlots
  split
  · split <;> simp [h]
  · simp [h]

@[simp] theorem readAnswered_withinFunds (bytes : List Byte) : (readAnswered bytes s).withinFunds := by
  unfold readAnswered
  split
  · simp [h]
  · split <;> simp [h]

@[simp] theorem takeWrite_withinFunds (w : CardWrite) : (takeWrite w s).withinFunds := by
  simp [takeWrite, h]

@[simp] theorem writeCompleted_withinFunds (w : CardWrite) : (writeCompleted w s).withinFunds := by
  unfold writeCompleted
  split
  · simp [h]
  · simp [h]
  · simp [h]
  · exact askCard_withinFunds (by simp [h]) _
  · dsimp only; split <;> simp [h]

@[simp] theorem writeUncertain_withinFunds (w : CardWrite) : (writeUncertain w s).withinFunds := by
  unfold writeUncertain; split <;> simp [h]

@[simp] theorem cardSilent_withinFunds : (cardSilent s).withinFunds := by
  unfold cardSilent; split <;> simp [h]

@[simp] theorem removeCard_withinFunds : (removeCard s).withinFunds := by
  have removed (n : Option Nat) (c : CardUnit) : (raiseNotice (.cardRemoved n) (s.setCard c)).withinFunds := by
    simpa using h
  have told (n : Option Nat) (c : CardUnit) : (match s.card.state with
      | .reading _ => interruptedNoCard (raiseNotice (.cardRemoved n) (s.setCard c))
      | _ => match s.card.writing with
        | some w => writeUncertain w (raiseNotice (.cardRemoved n) (s.setCard c))
        | none => raiseNotice (.cardRemoved n) (s.setCard c)).withinFunds := by
    split
    · exact interruptedNoCard_withinFunds (removed _ _)
    · split
      · exact writeUncertain_withinFunds (removed _ _) _
      · exact removed _ _
  unfold removeCard
  dsimp only
  split
  · exact openingCardRemoved_withinFunds (told _ _) _
  · exact told _ _

/-! ### The line -/

@[simp] theorem exchangeEnds_withinFunds (o : ExchangeOutcome) (e : Exchange) : (exchangeEnds o s e).withinFunds := by
  unfold exchangeEnds; split <;> simp [h]

@[simp] theorem endExchange_withinFunds (o : ExchangeOutcome) : (endExchange o s).withinFunds := by
  unfold endExchange
  split
  · exact h
  · exact exchangeEnds_withinFunds (by simpa using h) _ _

@[simp] theorem readyRequest_withinFunds (e : Exchange) : (readyRequest e s).withinFunds := by
  simpa [readyRequest] using h

@[simp] theorem attemptFails_withinFunds : (attemptFails s).withinFunds := by
  unfold attemptFails
  split
  · exact h
  · split <;> simp [h]

@[simp] theorem startExchange_withinFunds : (startExchange s).withinFunds := by
  unfold startExchange; split <;> simp [h]

@[simp] theorem takeAnswer_withinFunds (f : Frame) : (takeAnswer f s).withinFunds := by
  unfold takeAnswer
  split
  · split <;> simp [h]
  · exact h

@[simp] theorem queueRequest_withinFunds (f : Frame) : (queueRequest f s).withinFunds := by
  unfold queueRequest; split <;> simp [h]

theorem answerAsCard_withinFunds {answer : State → State × Payload} (ha : (answer s).1.withinFunds) (f : Frame) :
    (answerAsCard answer f s).withinFunds := by
  unfold answerAsCard
  dsimp only
  split
  · exact h
  · simpa using ha

@[simp] theorem updateRoster_withinFunds (station : Nat) (home : Option HomeRange) :
    (updateRoster station home s).withinFunds := by
  unfold updateRoster; dsimp only; split <;> simp [h]

@[simp] theorem callAnswerRoll_withinFunds : (callAnswerRoll s).withinFunds := by
  unfold callAnswerRoll; split <;> simp [h]

@[simp] theorem takeRoll_withinFunds (known : Bool) (f : Frame) (p : RollFields) : (takeRoll known f p s).withinFunds := by
  unfold takeRoll; dsimp only; split <;> simp [h]

@[simp] theorem enterConflict_withinFunds (f : Frame) : (enterConflict f s).withinFunds := by
  have ended (l : List Exchange) {x : State} (hx : x.withinFunds) : (l.foldl (exchangeEnds .noLine) x).withinFunds := by
    induction l generalizing x with
    | nil => exact hx
    | cons e rest ih => exact ih (exchangeEnds_withinFunds hx _ _)
  unfold enterConflict
  simp only [raiseNotice_withinFunds, setAccounts_withinFunds]
  exact ended _ (by simpa using h)

@[simp] theorem lineGoesIdle_withinFunds : (lineGoesIdle s).withinFunds := by
  unfold lineGoesIdle; split <;> simp [h]

@[simp] theorem noteHeard_withinFunds (station : Nat) : (noteHeard station s).withinFunds := by
  simp [noteHeard, h]

/-- A frame heard keeps the law, given that what its kind does keeps it. -/
theorem hearFrame_withinFunds {act : State → State} (hact : ∀ x : State, x.withinFunds → (act x).withinFunds) (f : Frame) :
    (hearFrame f act s).withinFunds := by
  unfold hearFrame
  dsimp only
  split_ifs
  · exact h
  · simp [h]
  · simp [h]
  · exact hact _ (by simp [h])
  · simp [h]

@[simp] theorem hearByKind_withinFunds (f : Frame) : (hearByKind f s).withinFunds := by
  unfold hearByKind
  split <;> refine hearFrame_withinFunds h (fun x hx => ?_) _
  case h_1 => exact takeRoll_withinFunds hx _ _ _
  case h_7 => exact answerAsCard_withinFunds hx (answerQuery_withinFunds hx _) _
  case h_9 => exact answerAsCard_withinFunds hx (answerRelease_withinFunds hx _) _
  all_goals simp [hx]

@[simp] theorem sendStarts_withinFunds (idle : Nat) : (sendStarts idle s).withinFunds := by
  unfold sendStarts
  dsimp only
  split
  · exact h
  · split
    · split <;> simp [h]
    · simpa using h

@[simp] theorem frameSentWhole_withinFunds : (frameSentWhole s).withinFunds := by
  unfold frameSentWhole
  split
  · exact h
  · dsimp only
    split
    · simpa using h
    · split <;> simp [h]
    · simpa using h

@[simp] theorem collide_withinFunds : (collide s).withinFunds := by
  unfold collide
  split
  · exact h
  · split
    · simpa using h
    · dsimp only
      split
      · simp [h]
      · split <;> simp [h]
      · simpa using h

@[simp] theorem becomeMember_withinFunds : (becomeMember s).withinFunds := by
  simp [becomeMember, h]

@[simp] theorem answerRoll_withinFunds : (answerRoll s).withinFunds := by
  unfold answerRoll; dsimp only; split <;> simp [h]

@[simp] theorem lineGoesBusy_withinFunds : (lineGoesBusy s).withinFunds := by
  unfold lineGoesBusy; split <;> simp [h]

end

end Sys2Proof.Machine
end

section
/-! ### The path monitor, the account unit, the port and the start keep the law of funds -/

namespace Sys2Proof.Machine

/-! ### Tracking -/

/-- A record of the queue whose tracking fields are set keeps its number, price and reservation. -/
theorem FundsLaw.track {c : JobContext} {feed : Option PendingFeed} {q : List SheetRecord} (h : FundsLaw c feed q)
    {r x : SheetRecord} (hr : r ∈ q) (hn : x.number = r.number) (hp : x.price = r.price) (hx : x.reserve = r.reserve) :
    FundsLaw c feed (setRecord x q) := by
  have same (y : SheetRecord) (hy : y ∈ q) (e : y.number = x.number) : y = r :=
    List.inj_on_of_nodup_map h.numbers hy hr (e.trans hn)
  have reserves : (setRecord x q).map SheetRecord.reserve = q.map SheetRecord.reserve := by
    rw [setRecord, List.map_map]
    refine List.map_congr_left fun y hy => ?_
    by_cases e : y.number = x.number
    · rw [Function.comp_apply, if_pos e, hx, same y hy e]
    · simp [e]
  have numbers : (setRecord x q).map SheetRecord.number = q.map SheetRecord.number := by
    rw [setRecord, List.map_map]
    refine List.map_congr_left fun y _ => ?_
    by_cases e : y.number = x.number <;> simp [e]
  have mem (y : SheetRecord) (hy : y ∈ setRecord x q) : y = x ∨ y ∈ q := by
    obtain ⟨z, hz, rfl⟩ := List.mem_map.mp hy
    by_cases e : z.number = x.number
    · exact .inl (by simp [e])
    · exact .inr (by simpa [e] using hz)
  exact {
    covered := h.covered
    reserved := by rw [reserves]; exact h.reserved
    prices := fun y hy => by
      rcases mem y hy with rfl | hy
      · rw [hx, hp]; exact h.prices r hr
      · exact h.prices y hy
    feed := h.feed
    numbers := by rw [numbers]; exact h.numbers
    fed := fun y hy => by
      rcases mem y hy with rfl | hy
      · rw [hn]; exact h.fed r hr
      · exact h.fed y hy
    sheets := fun _ => h.sheets (List.ne_nil_of_mem hr)
    opening := h.opening }

section
variable {s : State} (h : s.withinFunds)
include h

/-- A record takes new tracking fields. -/
theorem State.withinFunds.track {r x : SheetRecord} (hr : r ∈ s.path.queue) (hn : x.number = r.number)
    (hp : x.price = r.price) (hx : x.reserve = r.reserve) :
    (s.setPath { s.path with queue := setRecord x s.path.queue }).withinFunds :=
  (State.withinFunds_iff _).mpr ⟨h.law.track hr hn hp hx, h.store⟩

theorem matchLeading_withinFunds (x : PathSensor) (t : TimePoint) : (matchLeading x t s).withinFunds := by
  unfold matchLeading
  dsimp only
  split
  · rename_i r hr
    exact h.track (List.mem_of_mem_filter (List.mem_of_find?_eq_some hr)) rfl rfl rfl
  · split
    · simp [h]
    · split <;> simp [h]

theorem moveOn_withinFunds (x : PathSensor) {r : SheetRecord} (hr : r ∈ s.path.queue) : (moveOn x r s).withinFunds := by
  unfold moveOn
  split
  · exact h.track hr rfl rfl rfl
  · exact deliver_withinFunds h hr

theorem matchTrailing_withinFunds (x : PathSensor) (t : TimePoint) : (matchTrailing x t s).withinFunds := by
  unfold matchTrailing
  split
  · simp [h]
  · rename_i r hr
    split_ifs
    · simp [h]
    · simp [h]
    · exact moveOn_withinFunds h x (List.mem_of_find?_eq_some hr)

@[simp] theorem clearAfterEdge_withinFunds (before : Bool) (t : TimePoint) : (clearAfterEdge before t s).withinFunds := by
  unfold clearAfterEdge; split <;> simp [h]

theorem takeSensorEdge_withinFunds (x : PathSensor) (t : TimePoint) {matched : PathSensor → TimePoint → State → State}
    (hm : ∀ y : State, y.withinFunds → (matched x t y).withinFunds) : (takeSensorEdge x t matched s).withinFunds := by
  unfold takeSensorEdge
  dsimp only
  split
  · exact hm _ (by simpa using h)
  · simp [h]

theorem takeDoorEdge_withinFunds (opening : Bool) (t : TimePoint) : (takeDoorEdge opening t s).withinFunds := by
  unfold takeDoorEdge
  dsimp only
  split
  · split <;> simp [h]
  · simp [h]

theorem deadlineJam_withinFunds (r : SheetRecord) : (deadlineJam r s).withinFunds := by
  unfold deadlineJam; split <;> simp [h]

theorem judgePurge_withinFunds : (judgePurge s).withinFunds := by
  unfold judgePurge
  dsimp only
  split
  · simp [h]
  · split <;> simp [h]

theorem samplePath_withinFunds (l : Levels) (door : DoorReading) : (samplePath l door s).withinFunds := by
  simpa [samplePath] using h

/-! ### The account unit -/

@[simp] theorem releaseAnswer_withinFunds (x : InHand) : (releaseAnswer x s).withinFunds := by
  unfold releaseAnswer
  split
  · split <;> simp [h]
  · simp [h]
  · simp [h]

theorem submitAll_withinFunds (tag : WriteTag) (l : List RecordWrite) (hl : ∀ w ∈ l, w.covered) :
    (l.foldl (fun x w => submit tag w x) s).withinFunds := by
  induction l generalizing s with
  | nil => exact h
  | cons w rest ih =>
    exact ih (submit_withinFunds h _ (hl w (by simp))) fun x hx => hl x (List.mem_cons_of_mem _ hx)

theorem carryOut_withinFunds (a : Arrival) (d : Decision) (hd : ∀ w ∈ d.writes, w.covered) :
    (carryOut a d s).withinFunds := by
  have decided : (if d.fresh then advanceFree (s.setAccounts d.unit) else s.setAccounts d.unit).withinFunds := by
    split <;> simpa using h
  unfold carryOut
  dsimp only
  split
  · exact releaseAnswer_withinFunds decided _
  · exact submitAll_withinFunds (by simpa using decided) _ _ hd

end

/-- The records that the account unit writes: of accounts and of holds. -/
def RecordWrite.ofAccountUnit : RecordWrite → Bool
  | .account _ _ => true
  | .hold _ _ => true
  | _ => false

theorem RecordWrite.covered_of_ofAccountUnit {w : RecordWrite} (h : w.ofAccountUnit = true) : w.covered := by
  cases w <;> trivial

/-- Every write of a decision is of an account or of a hold (R131). -/
theorem decideRequest_writes {a : Arrival} {s : State} {d : Decision} (h : decideRequest a s = some d) :
    ∀ w ∈ d.writes, w.ofAccountUnit = true := by
  have hold (r : HoldRequestFields) (b : Account) (u : AccountUnit) (freed : Option Nat) (l : List RecordWrite)
      (hl : ∀ w ∈ l, w.ofAccountUnit = true) : ∀ w ∈ (grantHold r b u freed l s).writes, w.ofAccountUnit = true := by
    unfold grantHold
    dsimp only
    split_ifs <;> simp_all [holdRefused, holdGranted, writeHold, RecordWrite.ofAccountUnit]
  have topUp (r : TopUpRequestFields) (x : Hold) : ∀ w ∈ (grantTopUp r x s).writes, w.ofAccountUnit = true := by
    unfold grantTopUp
    dsimp only
    split
    · simp [holdRefused]
    · split_ifs <;> simp [holdRefused, holdGranted, writeHold, RecordWrite.ofAccountUnit]
  have post (r : PostFields) (x : Hold) : ∀ w ∈ (applyPost r x s).writes, w.ofAccountUnit = true := by
    unfold applyPost
    dsimp only
    split
    · split <;> simp [postTaken, writeHold, writeAccount, RecordWrite.ofAccountUnit]
    · simp [postTaken]
  unfold decideRequest at h
  split at h
  · split at h
    · cases h
    · cases h
      unfold decideHold
      dsimp only
      split_ifs
      · simp [holdRefused]
      · simp [holdRefused]
      · split
        · simp [holdRefused]
        · split
          · exact hold _ _ _ _ _ (by simp)
          · split
            · simp [holdGranted]
            · exact hold _ _ _ _ _ (by simp [RecordWrite.ofAccountUnit])
  · split at h
    · cases h
    · cases h
      unfold decideTopUp
      dsimp only
      split
      · simp [holdRefused]
      · split
        · simp [holdRefused]
        · split
          · simp [holdRefused]
          · split
            · simp [holdRefused]
            · simp [holdRefused]
            · exact topUp _ _
  · split at h
    · cases h
    · cases h
      unfold decidePost
      dsimp only
      split_ifs
      · simp [postRefused]
      · simp [postRefused]
      · split
        · split_ifs
          · simp [postRefused]
          · simp [postRefused]
          · simp [postTaken]
          · exact post _ _
        · split
          · simp [recordOffline, postTaken, writeHold, writeAccount, RecordWrite.ofAccountUnit]
          · simp [postRefused]
  · cases h

section
variable {s : State} (h : s.withinFunds)
include h

theorem takeRequest_withinFunds (a : Arrival) : (takeRequest a s).withinFunds := by
  unfold takeRequest
  dsimp only
  split
  · rename_i d hd
    exact carryOut_withinFunds (by simpa using h) _ _ fun w hw =>
      RecordWrite.covered_of_ofAccountUnit (decideRequest_writes hd w hw)
  · simpa using h

@[simp] theorem requestWritten_withinFunds : (requestWritten s).withinFunds := by
  unfold requestWritten
  split
  · exact h
  · split <;> simp [h]

theorem lapseHold_withinFunds (x : Hold) : (lapseHold x s).withinFunds := by
  simp [lapseHold, writeHold, h]

/-! ### The store's progress -/

@[simp] theorem passOn_withinFunds : (passOn s).withinFunds := by
  unfold passOn
  split
  · simp [h]
  · rename_i w rest hw
    have moved : (s.setStore { s.store with queue := s.store.queue ++ [w], waiting := rest }).withinFunds := by
      refine (State.withinFunds_iff _).mpr ⟨h.law, h.store.stored, ?_⟩
      have writes := h.writes
      simpa [Store.writes, hw] using writes
    dsimp only
    split <;> simp [moved]

@[simp] theorem remeter_withinFunds : (remeter s).withinFunds := by
  unfold remeter
  split
  · exact noteMeters_withinFunds ((State.withinFunds_iff _).mpr ⟨h.law, h.store.stored, h.store.writes⟩)
  · exact h

omit h in
/-- A completed write leaves every stored checkpoint covered, if it is covered itself. -/
theorem RecordWrite.apply_covered {w : RecordWrite} (hw : w.covered) {r : StoreRecords}
    (hr : ∀ k, r.checkpoint = some k → k.charged ≤ k.funded) :
    ∀ k, (w.apply r).checkpoint = some k → k.charged ≤ k.funded := by
  cases w with
  | checkpoint c =>
    rintro k rfl
    exact hw
  | _ => exact hr

theorem storeCompletes_withinFunds : (storeCompletes s).withinFunds := by
  unfold storeCompletes
  split
  · rename_i w hw
    have applied : (s.setStore { s.store with
        records := w.1.what.apply s.store.records, current := none }).withinFunds := by
      refine (State.withinFunds_iff _).mpr ⟨h.law, ?_, fun x hx => h.writes x ?_⟩
      · exact RecordWrite.apply_covered (h.writes _ (by simp [Store.writes, hw])) h.stored
      · have : x ∈ (s.store.queue ++ s.store.waiting).map QueuedWrite.what := by simpa [Store.writes] using hx
        exact List.mem_append_right _ this
    unfold completeWrite
    dsimp only
    split_ifs
    · exact requestWritten_withinFunds (remeter_withinFunds (passOn_withinFunds applied))
    · exact requestWritten_withinFunds (passOn_withinFunds applied)
    · exact remeter_withinFunds (passOn_withinFunds applied)
    · exact passOn_withinFunds applied
  · exact h

/-! ### The start -/

omit h in
/-- A start takes back a checkpoint of which C is within F. -/
theorem start_withinFunds (cause : StartCause) {x : State}
    (hx : ∀ k, x.store.records.checkpoint = some k → k.charged ≤ k.funded) : (start cause x).withinFunds := by
  have blocks : (startBlocks cause x).withinFunds :=
    (State.withinFunds_iff _).mpr ⟨.of_empty_path le_rfl rfl (fun _ hf => nomatch hf) (fun _ => rfl), hx,
      fun _ hw => (List.not_mem_nil hw).elim⟩
  have line : (startLine (startBlocks cause x)).withinFunds := by
    unfold startLine; split <;> simp [blocks]
  have queue : (startLine (startBlocks cause x)).path.queue = [] := by
    unfold startLine; split <;> rfl
  unfold start takeCheckpoint
  split
  · exact line
  · rename_i k hk
    have taken : ((startLine (startBlocks cause x)).setCtx k.interrupted).withinFunds := by
      refine line.setCtx ?_
      rw [queue]
      exact .of_empty_path (line.stored k hk) rfl line.feed (fun hs => nomatch hs)
    have reserved : (reservePlace k.funding ((startLine (startBlocks cause x)).setCtx k.interrupted)).withinFunds := by
      unfold reservePlace; split <;> simpa using taken
    unfold settleInterrupted
    split_ifs
    · simp [reserved]
    · refine endJob_withinFunds reserved ?_ _
      unfold reservePlace
      split <;> simpa using queue
    · simp [reserved]
    · simp [reserved]

theorem losePower_withinFunds : (losePower s).withinFunds :=
  (State.withinFunds_iff _).mpr ⟨.of_empty_path le_rfl rfl (fun _ hf => nomatch hf) (fun _ => rfl), h.stored,
    fun _ hw => (List.not_mem_nil hw).elim⟩

theorem restart_withinFunds : (restart s).withinFunds := by
  have completed (l : List RecordWrite) (hl : ∀ w ∈ l, w.covered) {r : StoreRecords}
      (hr : ∀ k, r.checkpoint = some k → k.charged ≤ k.funded) :
      ∀ k, (l.foldl (fun r w => w.apply r) r).checkpoint = some k → k.charged ≤ k.funded := by
    induction l generalizing r with
    | nil => exact hr
    | cons w rest ih =>
      exact ih (fun x hx => hl x (List.mem_cons_of_mem _ hx)) (RecordWrite.apply_covered (hl w (by simp)) hr)
  refine start_withinFunds _ (completed _ ?_ h.stored)
  have writes := h.writes
  simp only [Store.writes, List.mem_append, List.map_append] at writes
  simp only [List.mem_append, List.mem_map]
  rintro w (hw | ⟨x, hx, rfl⟩)
  · exact writes w (.inl hw)
  · exact (RecordWrite.begun_covered _ _).mpr (writes _ (.inr (.inl (List.mem_map_of_mem hx))))

end

end Sys2Proof.Machine
end

section
/-! ### Every command keeps the law of funds -/

namespace Sys2Proof.Machine

/-! ### What every command shares -/

/-- What a part with power keeps, the part keeps (R182). -/
theorem whenPowered_keeps {P : State → Prop} {s t : State} {f : State → State} (h : P s) (hf : P (f s))
    (e : whenPowered s f = .next t) : P t := by
  unfold whenPowered at e
  cases e
  split
  · exact hf
  · exact h

/-- What an event keeps when it is due, it keeps (R55, R142). -/
theorem whenDue_keeps {P : State → Prop} {s t : State} {f : State → State} {due : State → Bool} (h : P s) (hf : P (f s))
    (e : whenDue due s f = .next t) : P t := by
  refine whenPowered_keeps h ?_ e
  split
  · exact hf
  · exact h

/-- A step keeps what the queue does not concern, what every command keeps and what time keeps. -/
theorem step_keeps {P : State → Prop} (hq : ∀ s l, P s → P (s.setPending l)) (hx : ∀ i s t, P s → exec i s = .next t → P t)
    (hi : ∀ s, P s → P (idle s)) {s t : State} (h : P s) (e : step s = .next t) : P t := by
  unfold step at e
  split at e
  · exact hx _ _ _ (hq _ _ h) e
  · cases e
    exact hi s h

section
variable {s : State} (h : s.withinFunds)
include h

theorem takeCommand_withinFunds (o : Opcode) (ps : List Byte) {owner : State → State}
    (ho : ∀ x : State, x.withinFunds → (owner x).withinFunds) : (takeCommand o ps owner s).withinFunds := by
  unfold takeCommand
  split
  · simpa using h
  · dsimp only
    split
    · simpa using h
    · exact ho _ (by simpa using h)

theorem takeBare_withinFunds (o : Opcode) (ps : List Byte) {owner : State → State}
    (ho : ∀ x : State, x.withinFunds → (owner x).withinFunds) : (takeBare o ps owner s).withinFunds :=
  takeCommand_withinFunds h o ps fun x hx => by
    split
    · exact ho x hx
    · simpa using hx

/-! ### The engine's commands -/

omit h in
/-- A station in order for OPEN JOB has no job open, and so no sheet in the path (R2). -/
theorem openRefusal_none {x : State} (hr : openRefusal x = none) : x.job.ctx.state = .none := by
  unfold openRefusal at hr
  split at hr
  · cases hr
  · rename_i hj
    simpa [State.jobOpen] using hj

theorem openJob_withinFunds (ps : List Byte) : (openJob ps s).withinFunds := by
  unfold openJob
  split
  · simpa using h
  · rename_i hr
    have hs := openRefusal_none hr
    have hq := h.no_sheets (by simp [hs]) (by simp [hs])
    split
    · simpa using h
    · unfold openOnCard
      split
      · simpa using h
      · simpa using h
      · simpa using h
      · split
        · split
          · exact openPurse_withinFunds h hq _
          · exact openAccount_withinFunds h hq _ _
        · split
          · exact openAccount_withinFunds h hq _ _
          · simpa using h
        · simpa using h
    · split
      · simpa using h
      · exact openAccount_withinFunds h hq _ _

theorem feed_withinFunds (ps : List Byte) : (feed ps s).withinFunds := by
  unfold feed
  split
  · simpa using h
  · simpa using h
  · rename_i hs
    split
    · exact feedGate_withinFunds h hs _ _
    · simpa using h
  · simpa using h

theorem closeJob_withinFunds : (closeJob s).withinFunds := by
  unfold closeJob; split <;> simp [h]

theorem loadTariff_withinFunds (ps : List Byte) : (loadTariff ps s).withinFunds := by
  unfold loadTariff
  split
  · simpa using h
  · split
    · simpa using h
    · split <;> simp [h]

theorem loadProfile_withinFunds (ps : List Byte) : (loadProfile ps s).withinFunds := by
  unfold loadProfile
  split_ifs
  · simpa using h
  · simpa using h
  · split
    · simpa using h
    · split <;> simp [h]

/-- The job's part in a RESUME: a HALTED job has no sheet in the path (R66, R67). -/
theorem resumeJob_withinFunds : (resumeJob s).withinFunds := by
  unfold resumeJob
  split
  · rename_i hs _
    have law := h.law
    rw [h.no_sheets (by simp [hs]) (by simp [hs])] at law
    have running : (s.setCtx { s.job.ctx with state := .running }).withinFunds := by
      refine h.setCtx ?_
      rw [h.no_sheets (by simp [hs]) (by simp [hs])]
      exact law.change_state rfl rfl rfl (by simp)
    simpa using running
  · rename_i hs _
    exact enterSettling_withinFunds (by simpa using h) (by simpa using h.no_sheets (by simp [hs]) (by simp [hs]))
  · simpa using h

theorem resume_withinFunds : (resume s).withinFunds := by
  unfold resume
  split_ifs
  · simpa using h
  · simpa using h
  · rw [complete_withinFunds]
    exact resumeJob_withinFunds (by simpa using h)

theorem purgeStart_withinFunds : (purgeStart s).withinFunds := by
  unfold purgeStart; split_ifs <;> simpa using h

theorem purgeEnd_withinFunds : (purgeEnd s).withinFunds := by
  unfold purgeEnd; split <;> simpa using h

theorem serviceClear_withinFunds : (serviceClear s).withinFunds := by
  unfold serviceClear
  split_ifs
  · simpa using h
  · simpa using h
  · simp [h]

theorem readMeters_withinFunds (ps : List Byte) : (readMeters ps s).withinFunds := by
  unfold readMeters
  split
  · simpa using h
  · dsimp only; split <;> simpa using h

theorem setOptions_withinFunds (ps : List Byte) : (setOptions ps s).withinFunds := by
  unfold setOptions
  split
  · simpa using h
  · split <;> simp [h]

theorem writeTable_withinFunds (a : Account) (v : Values) : (writeTable a v s).withinFunds := by
  simp [writeTable, writeAccount, h]

theorem accountAdd_withinFunds (ps : List Byte) : (accountAdd ps s).withinFunds := by
  unfold accountAdd
  split
  · simpa using h
  · split_ifs
    iterate 4 simpa using h
    exact writeTable_withinFunds h _ _

theorem accountCredit_withinFunds (ps : List Byte) : (accountCredit ps s).withinFunds := by
  unfold accountCredit
  split
  · simpa using h
  · split
    · simpa using h
    · split
      · simpa using h
      · exact writeTable_withinFunds h _ _

theorem accountSet_withinFunds (ps : List Byte) : (accountSet ps s).withinFunds := by
  unfold accountSet
  split
  · simpa using h
  · split
    · simpa using h
    · split
      · simpa using h
      · split
        · simpa using h
        · exact writeTable_withinFunds h _ _

theorem accountRemove_withinFunds (ps : List Byte) : (accountRemove ps s).withinFunds := by
  unfold accountRemove
  split
  · simpa using h
  · split
    · simpa using h
    · split_ifs <;> simp [h]

theorem readAccount_withinFunds (ps : List Byte) : (readAccount ps s).withinFunds := by
  unfold readAccount
  split
  · simpa using h
  · split <;> simpa using h

theorem listAccounts_withinFunds (ps : List Byte) : (listAccounts ps s).withinFunds := by
  unfold listAccounts; split <;> simpa using h

theorem readStatement_withinFunds (ps : List Byte) : (readStatement ps s).withinFunds := by
  unfold readStatement
  split
  · simpa using h
  · split
    · simpa using h
    · split
      · simpa using h
      · dsimp only; split <;> simpa using h

theorem discardRefund_withinFunds (ps : List Byte) : (discardRefund ps s).withinFunds := by
  unfold discardRefund
  split
  · simpa using h
  · split <;> simp [h]

theorem releaseEscrow_withinFunds (ps : List Byte) : (releaseEscrow ps s).withinFunds := by
  have onImage (i : PurseImage) : (releaseOnImage i ps s).withinFunds := by
    unfold releaseOnImage
    split_ifs
    iterate 3 simpa using h
    split
    · simpa using h
    · split
      · simpa using h
      · split <;> simpa using h
  unfold releaseEscrow
  split
  iterate 3 simpa using h
  split
  · simpa using h
  · exact onImage _

/-- Every command of the catalogue keeps the law of funds. -/
theorem runCommand_withinFunds (o : Opcode) (ps : List Byte) : (runCommand o ps s).withinFunds := by
  cases o with
  | status => exact takeBare_withinFunds h _ _ fun x hx => by simpa [status] using hx
  | readNotice => exact takeBare_withinFunds h _ _ fun x hx => by simpa [readNotice] using hx
  | setOptions => exact takeCommand_withinFunds h _ _ fun x hx => setOptions_withinFunds hx ps
  | loadTariff => exact takeCommand_withinFunds h _ _ fun x hx => loadTariff_withinFunds hx ps
  | loadProfile => exact takeCommand_withinFunds h _ _ fun x hx => loadProfile_withinFunds hx ps
  | openJob => exact takeCommand_withinFunds h _ _ fun x hx => openJob_withinFunds hx ps
  | feed => exact takeCommand_withinFunds h _ _ fun x hx => feed_withinFunds hx ps
  | closeJob => exact takeBare_withinFunds h _ _ fun x hx => closeJob_withinFunds hx
  | readLost => exact takeBare_withinFunds h _ _ fun x hx => by simpa [readLost] using hx
  | resume => exact takeBare_withinFunds h _ _ fun x hx => resume_withinFunds hx
  | purgeStart => exact takeBare_withinFunds h _ _ fun x hx => purgeStart_withinFunds hx
  | purgeEnd => exact takeBare_withinFunds h _ _ fun x hx => purgeEnd_withinFunds hx
  | serviceClear => exact takeBare_withinFunds h _ _ fun x hx => serviceClear_withinFunds hx
  | readMeters => exact takeCommand_withinFunds h _ _ fun x hx => readMeters_withinFunds hx ps
  | readRoster => exact takeBare_withinFunds h _ _ fun x hx => by simpa [readRoster] using hx
  | accountAdd => exact takeCommand_withinFunds h _ _ fun x hx => accountAdd_withinFunds hx ps
  | accountCredit => exact takeCommand_withinFunds h _ _ fun x hx => accountCredit_withinFunds hx ps
  | accountSet => exact takeCommand_withinFunds h _ _ fun x hx => accountSet_withinFunds hx ps
  | accountRemove => exact takeCommand_withinFunds h _ _ fun x hx => accountRemove_withinFunds hx ps
  | readAccount => exact takeCommand_withinFunds h _ _ fun x hx => readAccount_withinFunds hx ps
  | listAccounts => exact takeCommand_withinFunds h _ _ fun x hx => listAccounts_withinFunds hx ps
  | readStatement => exact takeCommand_withinFunds h _ _ fun x hx => readStatement_withinFunds hx ps
  | readRefunds => exact takeBare_withinFunds h _ _ fun x hx => by simpa [readRefunds] using hx
  | discardRefund => exact takeCommand_withinFunds h _ _ fun x hx => discardRefund_withinFunds hx ps
  | releaseEscrow => exact takeCommand_withinFunds h _ _ fun x hx => releaseEscrow_withinFunds hx ps
  | restart => exact takeBare_withinFunds h _ _ fun x hx => restart_withinFunds hx

theorem takeMessage_withinFunds (bytes : List Byte) : (takeMessage bytes s).withinFunds := by
  have atOnce (r : Reason) : (answerAtOnce r s).withinFunds := by
    unfold answerAtOnce; split <;> simpa using h
  unfold takeMessage
  split
  · exact h
  · exact atOnce _
  · exact atOnce _
  · exact runCommand_withinFunds h _ _

/-! ### Read transactions and events -/

theorem readReply_withinFunds (clocked : Nat) : (readReply clocked s).withinFunds := by
  have commit (r : Result) {x : State} (hx : x.withinFunds) : (commitResult r x).withinFunds := by
    unfold commitResult
    dsimp only
    split
    · unfold commitMeters; split <;> simp [hx]
    · unfold commitStatement
      split
      · simpa using hx
      · dsimp only; split <;> simp [hx, writeAccount]
    · simpa [commitNotice] using hx
    · simpa using hx
  unfold readReply
  dsimp only
  split
  · split
    · exact commit _ (by simpa using h)
    · simpa using h
  · simpa using h

theorem samplePresence_withinFunds (p : Presence) : (samplePresence p s).withinFunds := by
  simpa [samplePresence] using h

theorem insertCard_withinFunds : (insertCard s).withinFunds := by
  unfold insertCard; dsimp only; split <;> simp [h]

theorem takeRemoval_withinFunds : (takeRemoval s).withinFunds := by
  unfold takeRemoval; dsimp only; split <;> simp [h]

theorem writeAcknowledged_withinFunds : (writeAcknowledged s).withinFunds := by
  unfold writeAcknowledged; split <;> simp [h]

theorem postPeriodically_withinFunds : (postPeriodically s).withinFunds := by
  unfold postPeriodically; dsimp only; split <;> simp [h]

/-- Time keeps the law of funds. -/
theorem idle_withinFunds : (idle s).withinFunds := by
  have aged : (tick s).withinFunds :=
    State.withinFunds.more_funds (s := { s with timeBase := s.timeBase + 1#32 })
      ((State.withinFunds_iff _).mpr ⟨h.law, h.store⟩) le_rfl rfl rfl rfl rfl
  unfold idle
  split
  · split
    · exact aged
    · simpa using h
  · exact h

end

/-- Every command and event keeps the law of funds. -/
theorem exec_withinFunds (i : Instr) (s t : State) (h : s.withinFunds) (e : exec i s = .next t) : t.withinFunds := by
  cases i with
  | powerOn =>
    cases e
    exact start_withinFunds _ (losePower_withinFunds h).stored
  | powerLoss => exact whenPowered_keeps h (losePower_withinFunds h) e
  | interruptedCardWaitEnd => exact whenDue_keeps h (interruptedNoCard_withinFunds h) e
  | status ps => exact whenPowered_keeps h (runCommand_withinFunds h .status ps) e
  | readNotice ps => exact whenPowered_keeps h (runCommand_withinFunds h .readNotice ps) e
  | setOptions ps => exact whenPowered_keeps h (runCommand_withinFunds h .setOptions ps) e
  | loadTariff ps => exact whenPowered_keeps h (runCommand_withinFunds h .loadTariff ps) e
  | loadProfile ps => exact whenPowered_keeps h (runCommand_withinFunds h .loadProfile ps) e
  | openJob ps => exact whenPowered_keeps h (runCommand_withinFunds h .openJob ps) e
  | feed ps => exact whenPowered_keeps h (runCommand_withinFunds h .feed ps) e
  | closeJob ps => exact whenPowered_keeps h (runCommand_withinFunds h .closeJob ps) e
  | readLost ps => exact whenPowered_keeps h (runCommand_withinFunds h .readLost ps) e
  | resume ps => exact whenPowered_keeps h (runCommand_withinFunds h .resume ps) e
  | purgeStart ps => exact whenPowered_keeps h (runCommand_withinFunds h .purgeStart ps) e
  | purgeEnd ps => exact whenPowered_keeps h (runCommand_withinFunds h .purgeEnd ps) e
  | serviceClear ps => exact whenPowered_keeps h (runCommand_withinFunds h .serviceClear ps) e
  | readMeters ps => exact whenPowered_keeps h (runCommand_withinFunds h .readMeters ps) e
  | readRoster ps => exact whenPowered_keeps h (runCommand_withinFunds h .readRoster ps) e
  | accountAdd ps => exact whenPowered_keeps h (runCommand_withinFunds h .accountAdd ps) e
  | accountCredit ps => exact whenPowered_keeps h (runCommand_withinFunds h .accountCredit ps) e
  | accountSet ps => exact whenPowered_keeps h (runCommand_withinFunds h .accountSet ps) e
  | accountRemove ps => exact whenPowered_keeps h (runCommand_withinFunds h .accountRemove ps) e
  | readAccount ps => exact whenPowered_keeps h (runCommand_withinFunds h .readAccount ps) e
  | listAccounts ps => exact whenPowered_keeps h (runCommand_withinFunds h .listAccounts ps) e
  | readStatement ps => exact whenPowered_keeps h (runCommand_withinFunds h .readStatement ps) e
  | readRefunds ps => exact whenPowered_keeps h (runCommand_withinFunds h .readRefunds ps) e
  | discardRefund ps => exact whenPowered_keeps h (runCommand_withinFunds h .discardRefund ps) e
  | releaseEscrow ps => exact whenPowered_keeps h (runCommand_withinFunds h .releaseEscrow ps) e
  | restart ps => exact whenPowered_keeps h (runCommand_withinFunds h .restart ps) e
  | unknownCommandMessage bytes => exact whenPowered_keeps h (takeMessage_withinFunds h bytes) e
  | readTransaction clocked => exact whenPowered_keeps h (readReply_withinFunds h clocked) e
  | storeWriteComplete => exact whenDue_keeps h (storeCompletes_withinFunds h) e
  | leadingEdge x =>
    simp only [exec, execLeadingEdge] at e
    refine whenPowered_keeps h ?_ e
    split
    · exact takeSensorEdge_withinFunds h x _ fun y hy => matchLeading_withinFunds hy x _
    · exact h
  | trailingEdge x =>
    simp only [exec, execTrailingEdge] at e
    refine whenPowered_keeps h ?_ e
    split
    · exact takeSensorEdge_withinFunds h x _ fun y hy => matchTrailing_withinFunds hy x _
    · exact h
  | doorOpenEdge =>
    simp only [exec, execDoorOpenEdge] at e
    refine whenPowered_keeps h ?_ e
    split
    · exact takeDoorEdge_withinFunds h _ _
    · exact h
  | doorClosedEdge =>
    simp only [exec, execDoorClosedEdge] at e
    refine whenPowered_keeps h ?_ e
    split
    · exact takeDoorEdge_withinFunds h _ _
    · exact h
  | windowDeadline n =>
    simp only [exec, execWindowDeadline] at e
    refine whenPowered_keeps h ?_ e
    split
    · exact deadlineJam_withinFunds h _
    · exact h
  | purgeSettlingWaitEnd => exact whenDue_keeps h (judgePurge_withinFunds h) e
  | periodicPostDue => exact whenDue_keeps h (postPeriodically_withinFunds h) e
  | cardInsertion => exact whenDue_keeps h (insertCard_withinFunds h) e
  | cardRemoval => exact whenDue_keeps h (takeRemoval_withinFunds h) e
  | cardReadAnswer bytes => exact whenDue_keeps h (readAnswered_withinFunds h bytes) e
  | cardWriteAck => exact whenDue_keeps h (writeAcknowledged_withinFunds h) e
  | cardAnswerDeadline => exact whenDue_keeps h (cardSilent_withinFunds h) e
  | roll head p => exact whenPowered_keeps h (hearByKind_withinFunds h ⟨head, .roll p⟩) e
  | holdRequest head p => exact whenPowered_keeps h (hearByKind_withinFunds h ⟨head, .holdRequest p⟩) e
  | topUpRequest head p => exact whenPowered_keeps h (hearByKind_withinFunds h ⟨head, .topUpRequest p⟩) e
  | post head p => exact whenPowered_keeps h (hearByKind_withinFunds h ⟨head, .post p⟩) e
  | holdAnswer head p => exact whenPowered_keeps h (hearByKind_withinFunds h ⟨head, .holdAnswer p⟩) e
  | postAnswer head p => exact whenPowered_keeps h (hearByKind_withinFunds h ⟨head, .postAnswer p⟩) e
  | escrowQuery head p => exact whenPowered_keeps h (hearByKind_withinFunds h ⟨head, .escrowQuery p⟩) e
  | escrowAnswer head p => exact whenPowered_keeps h (hearByKind_withinFunds h ⟨head, .escrowAnswer p⟩) e
  | escrowRelease head p => exact whenPowered_keeps h (hearByKind_withinFunds h ⟨head, .escrowRelease p⟩) e
  | releaseAnswer head p => exact whenPowered_keeps h (hearByKind_withinFunds h ⟨head, .releaseAnswer p⟩) e
  | frameDiscarded bytes =>
    simp only [exec, execFrameDiscarded] at e
    refine whenPowered_keeps h ?_ e
    split
    · exact hearByKind_withinFunds h _
    · split <;> simp [h]
  | frameSendStart idle => exact whenPowered_keeps h (sendStarts_withinFunds h idle) e
  | frameSent => exact whenPowered_keeps h (frameSentWhole_withinFunds h) e
  | collision => exact whenPowered_keeps h (collide_withinFunds h) e
  | exchangeAnswerDeadline => exact whenDue_keeps h (attemptFails_withinFunds h) e
  | exchangeStart => exact whenPowered_keeps h (startExchange_withinFunds h) e
  | joiningWindowEnd => exact whenDue_keeps h (becomeMember_withinFunds h) e
  | rollAnswerDelayEnd => exact whenDue_keeps h (answerRoll_withinFunds h) e
  | accountRequestTaken =>
    simp only [exec, execAccountRequestTaken] at e
    refine whenPowered_keeps h ?_ e
    split
    · exact takeRequest_withinFunds h _
    · exact h
  | holdLapse id =>
    simp only [exec, execHoldLapse] at e
    refine whenPowered_keeps h ?_ e
    split
    · exact lapseHold_withinFunds h _
    · exact h
  | outboundRound => exact whenDue_keeps h (beginRound_withinFunds h) e
  | sensorSample l door => exact whenDue_keeps h (samplePath_withinFunds h l door) e
  | cardPresenceSample p => exact whenDue_keeps h (samplePresence_withinFunds h p) e
  | lineBusy => exact whenPowered_keeps h (lineGoesBusy_withinFunds h) e

/-- Settles O56: every command (`exec_withinFunds`) and every count of the time base (`idle_withinFunds`) keeps the law. -/
theorem jobsPromiseNoMoreThanTheyHave : Obligations.JobsPromiseNoMoreThanTheyHave := by
  unfold Obligations.JobsPromiseNoMoreThanTheyHave
  intro s t h e
  exact step_keeps (P := State.withinFunds) (fun x l hx => (setPending_withinFunds x l).mpr hx) exec_withinFunds
    (fun x hx => idle_withinFunds hx) h e

end Sys2Proof.Machine
end

section
/-! The law of reserved places (R5, R92, R154) is not kept by every step. -/

namespace Sys2Proof.Machine

/-- A context in NONE that still carries a serial and a funding kind, beside a purse write of a move that is in flight:
`State.placesKept` does not exclude it, and no run reaches it, since a job that ends drops both (R24). -/
def strayMove : State :=
  { State.reset with
    job := { JobUnit.start 1 with ctx := { JobContext.blank with serial := some 1, funding := some .purse } }
    card := { CardUnit.start [] with
      state := .ready
      request := some (.write 2 [], 0)
      writing := some { purpose := .move 0, purse := { balance := 0, escrow := 0, station := none, tag := 0, counter := 1 } } }
    pending := [.cardWriteAck] }

/-- The state `strayMove` leads to: the move is acknowledged, and a checkpoint write of the context begins (R12, R25). -/
def strayMoveAcknowledged : State :=
  { strayMove with
    job := { strayMove.job with ctx := { strayMove.job.ctx with funded := 0 } }
    card := { strayMove.card with
      writing := none, request := none }
    store := { strayMove.store with
      current := some ({ tag := .plain, what := .checkpoint (some
        { serial := 1, funding := .purse, openingCard := none, purse := none, account := none, funded := 0, charged := 0
          delivered := 0, usage := UsageOf.all 0 }) }, 0) }
    pending := [] }

theorem strayMove_step : step strayMove = .next strayMoveAcknowledged := rfl

/-- A factory store holds no entry and no checkpoint (R182). -/
theorem StoreRecords.factory_placesKept : StoreRecords.factory.placesKept where
  refunds := by decide
  refundNames := by decide
  outbound := by decide
  outboundKeys := by decide
  purse := fun _ _ h => nomatch h
  account := fun _ _ h => nomatch h

theorem strayMove_placesKept : strayMove.placesKept where
  store := ⟨fun _ => rfl, by decide, fun h => absurd rfl h⟩
  refunds := by decide
  refundNames := by decide
  outbound := by decide
  outboundKeys := by decide
  purse := fun _ h => nomatch h
  account := fun _ h => nomatch h
  card := by decide
  found := fun n => by
    have quiet : strayMove.store.after n = StoreRecords.factory := Store.after_quiet _ n
    rw [quiet]; exact StoreRecords.factory_placesKept
  kept := fun _ => ⟨rfl, rfl, fun _ => rfl, fun _ h => nomatch h⟩

/-- Refutes O58: from `strayMove`, which meets the law, the acknowledgement of the move writes a checkpoint of a job
that is NONE, where the law has the settled store hold none. The law lacks the premise that a context in NONE has no
serial. -/
theorem not_settlementPlacesStayReserved : ¬ Obligations.SettlementPlacesStayReserved := by
  unfold Obligations.SettlementPlacesStayReserved
  intro keeps
  have law := keeps _ _ strayMove_placesKept strayMove_step
  obtain ⟨_, _, noCheckpoint, _⟩ := law.kept rfl
  exact nomatch noCheckpoint (.inl rfl)

end Sys2Proof.Machine
end

section
/-! ## What the statements on jobs share: a command taken, writes in hand, frames heard, a job's end -/

namespace Sys2Proof.Machine

/-! ### A command taken by the port -/

/-- The state in which the owner of a command runs: an unread result discarded, the port EXECUTING (R173). -/
def commandTaken (o : Opcode) (s : State) : State :=
  (discardResult s).setPort { (discardResult s).port with state := .executing o }

section
variable (o : Opcode) (s : State)

@[simp] theorem commandTaken_powered : (commandTaken o s).powered = s.powered := by simp [commandTaken]
@[simp] theorem commandTaken_timeBase : (commandTaken o s).timeBase = s.timeBase := by simp [commandTaken]
@[simp] theorem commandTaken_options : (commandTaken o s).options = s.options := by simp [commandTaken]
@[simp] theorem commandTaken_port_state : (commandTaken o s).port.state = .executing o := rfl
@[simp] theorem commandTaken_job : (commandTaken o s).job = s.job := by simp [commandTaken]
@[simp] theorem commandTaken_tariff : (commandTaken o s).tariff = s.tariff := by simp [commandTaken]
@[simp] theorem commandTaken_path : (commandTaken o s).path = s.path := by simp [commandTaken]
@[simp] theorem commandTaken_card : (commandTaken o s).card = s.card := by simp [commandTaken]
@[simp] theorem commandTaken_line : (commandTaken o s).line = s.line := by simp [commandTaken]
@[simp] theorem commandTaken_accounts : (commandTaken o s).accounts = (discardResult s).accounts := rfl
@[simp] theorem commandTaken_settle : (commandTaken o s).settle = s.settle := by simp [commandTaken]
@[simp] theorem commandTaken_meter : (commandTaken o s).meter = (discardResult s).meter := rfl
@[simp] theorem commandTaken_store : (commandTaken o s).store = s.store := by simp [commandTaken]
@[simp] theorem commandTaken_free : (commandTaken o s).free = s.free := by simp [commandTaken]
@[simp] theorem commandTaken_pending : (commandTaken o s).pending = s.pending := by simp [commandTaken]

@[simp] theorem discardResult_arrivals : (discardResult s).accounts.arrivals = s.accounts.arrivals := by
  unfold discardResult; split <;> rfl
@[simp] theorem discardResult_inHand : (discardResult s).accounts.inHand = s.accounts.inHand := by
  unfold discardResult; split <;> rfl
@[simp] theorem discardResult_record : (discardResult s).meter.record = s.meter.record := by
  unfold discardResult; split <;> rfl
@[simp] theorem discardResult_notices : (discardResult s).port.notices = s.port.notices := by
  unfold discardResult; split <;> rfl
@[simp] theorem commandTaken_notices : (commandTaken o s).port.notices = s.port.notices := by simp [commandTaken]

/-- The owner's answer is the result placed for the command (R174). -/
@[simp] theorem complete_commandTaken (r : Reason) (v : Values) : complete r v (commandTaken o s) = answered o r v s := rfl

@[simp] theorem answered_job (r : Reason) (v : Values) : (answered o r v s).job = s.job := by simp [answered]

/-- The result placed takes the place of the command in hand. -/
@[simp] theorem placeResult_port (r : Result) :
    (placeResult r s).port = { s.port with state := .result r, refused := 0, held := none } := rfl

variable {o s}

theorem complete_holdsResult (r : Reason) (v : Values) (h : s.port.state = .executing o) :
    (complete r v s).holdsResult o r v := by
  rw [complete_executing _ _ _ _ h]
  exact ⟨rfl, rfl⟩

@[simp] theorem complete_port_notices (r : Reason) (v : Values) : (complete r v s).port.notices = s.port.notices := by
  unfold complete; split <;> rfl

theorem execOpenJob_taken (h : s.accepts) {ps : List Byte} (hp : ps.length ≤ 240) :
    exec (.openJob ps) s = .next (openJob ps (commandTaken .openJob s)) := by
  show whenPowered s (openJobCommand ps) = _
  rw [whenPowered_on _ _ h.1, openJobCommand, takeCommand_taken _ _ _ _ h.2 hp, commandTaken]

theorem execFeed_taken (h : s.accepts) {ps : List Byte} (hp : ps.length ≤ 240) :
    exec (.feed ps) s = .next (feed ps (commandTaken .feed s)) := by
  show whenPowered s (feedCommand ps) = _
  rw [whenPowered_on _ _ h.1, feedCommand, takeCommand_taken _ _ _ _ h.2 hp, commandTaken]

theorem execCloseJob_taken (h : s.accepts) : exec (.closeJob []) s = .next (closeJob (commandTaken .closeJob s)) := by
  show whenPowered s (closeJobCommand []) = _
  rw [whenPowered_on _ _ h.1, closeJobCommand, takeBare_taken _ _ _ h.2, commandTaken]

end

/-! ### Parameter bytes -/

theorem number_cons (b : Byte) (l : List Byte) : number (b :: l) = b.toNat * 256 ^ l.length + number l := by
  have acc (n : Nat) : l.foldl (fun n b => n * 256 + b.toNat) n = n * 256 ^ l.length + number l := by
    induction l generalizing n with
    | nil => simp [number]
    | cons x rest ih =>
      have tail := ih (0 * 256 + x.toNat)
      simp only [number, List.foldl_cons, List.length_cons] at tail ih ⊢
      rw [ih, tail]
      ring
  simpa [number] using acc b.toNat

/-- A number spelled in `width` bytes reads back modulo what they hold (R190). -/
theorem number_spell (width n : Nat) : number (spell width n) = n % 256 ^ width := by
  induction width with
  | zero => simp [spell, number, Nat.mod_one]
  | succ width ih =>
    calc number (spell (width + 1) n) = n / 256 ^ width % 256 * 256 ^ width + n % 256 ^ width := by
          rw [spell, number_cons, Laws.Wire.spell_length, ih, BitVec.toNat_ofNat]
      _ = n % 256 ^ width + 256 ^ width * (n / 256 ^ width % 256) := by ring
      _ = n % (256 ^ width * 256) := Nat.mod_mul.symm

/-- A field at the front of a run of bytes. -/
theorem field_front (l rest : List Byte) {len : Nat} (h : l.length = len) : field (l ++ rest) 0 len = number l := by
  simp [field, ← h]

/-- A field behind the front of a run of bytes. -/
theorem field_behind (l rest : List Byte) {start k : Nat} (len : Nat) (h : start = l.length + k) :
    field (l ++ rest) start len = field rest k len := by
  simp [field, h, ← List.drop_drop]

/-- A number spelled at the front of a run of bytes. -/
theorem field_spell (width n : Nat) (rest : List Byte) : field (spell width n ++ rest) 0 width = n % 256 ^ width := by
  rw [field_front _ _ (Laws.Wire.spell_length width n), number_spell]

/-! ### OPEN JOB -/

/-- What OPEN JOB checks of the station the port does not concern. -/
@[simp] theorem openRefusal_commandTaken (o : Opcode) (s : State) : openRefusal (commandTaken o s) = openRefusal s := by
  simp [openRefusal, State.jobOpen]

/-- A station not in order for OPEN JOB refuses it (R2). -/
theorem execOpenJob_refused {s : State} (h : s.accepts) {ps : List Byte} (hp : ps.length ≤ 240) {r : Reason}
    (hr : openRefusal s = some r) : exec (.openJob ps) s = .next (answered .openJob r .none s) := by
  rw [execOpenJob_taken h hp, openJob, openRefusal_commandTaken, hr]
  rfl

/-- A station in order for OPEN JOB (R2). -/
theorem openRefusal_eq_none {s : State} (hj : s.job.ctx.state = .none) (hp : s.path.profile ≠ none)
    (ht : s.tariff ≠ none) (hs : s.path.state = .idle ∨ s.path.state = .active) (hc : s.path.filters.clear = true) :
    openRefusal s = none := by
  simp only [Filters.clear, Bool.and_eq_true, Bool.not_eq_true'] at hc
  rcases hs with hs | hs <;> simp [openRefusal, State.jobOpen, hj, hp, ht, hs, hc.1, show s.path.filters.door.on = false from hc.2]

/-- OPEN JOB with CARD funding at a station in order (R2). -/
theorem execOpenJob_onCard {s : State} (h : s.accepts) {ps : List Byte} (hp : ps.length ≤ 240)
    (hr : openRefusal s = none) (hf : FundingOperand.read ps = some .card) :
    exec (.openJob ps) s = .next (openOnCard (commandTaken .openJob s)) := by
  simp only [execOpenJob_taken h hp, openJob, openRefusal_commandTaken, hr, hf]

/-- OPEN JOB with an account number at a station in order (R2). -/
theorem execOpenJob_onAccount {s : State} (h : s.accepts) {ps : List Byte} (hp : ps.length ≤ 240)
    (hr : openRefusal s = none) {n : Nat} (hf : FundingOperand.read ps = some (.account n)) :
    exec (.openJob ps) s = .next
      (if n = 0 then answered .openJob .badParam .none s else openAccount n none (commandTaken .openJob s)) := by
  simp only [execOpenJob_taken h hp, openJob, openRefusal_commandTaken, hr, hf, complete_commandTaken]

/-- Settles O11, check by check of `openRefusal` and `openOnCard`. -/
theorem openJobChecksTheStationInOrder : Obligations.OpenJobChecksTheStationInOrder := by
  unfold Obligations.OpenJobChecksTheStationInOrder
  intro s ps ha hlen
  have inOrder (h0 : s.job.ctx.state = .none) (h1 : s.path.profile ≠ none) (h2 : s.tariff ≠ none)
      (h3 : s.path.state = .idle ∨ s.path.state = .active) (h4 : s.path.filters.door.on = false)
      (h5 : ¬ (s.path.filters.feed.on = true ∨ s.path.filters.reg.on = true ∨ s.path.filters.fuse.on = true ∨
        s.path.filters.duplex.on = true ∨ s.path.filters.exit.on = true)) : openRefusal s = none := by
    refine openRefusal_eq_none h0 h1 h2 h3 ?_
    simpa [Filters.clear, Filters.states, FilterStates.covered, h4, not_or, and_assoc] using h5
  refine ⟨fun h0 => ?_, fun h0 h1 => ?_, fun ⟨h0, h1⟩ h2 => ?_, fun ⟨⟨h0, h1⟩, h2⟩ h3 => ?_,
    fun ⟨⟨⟨h0, h1⟩, h2⟩, h3⟩ h4 => ?_, fun ⟨⟨⟨⟨h0, h1⟩, h2⟩, h3⟩, h4⟩ h5 => ?_,
    fun ⟨⟨⟨⟨⟨h0, h1⟩, h2⟩, h3⟩, h4⟩, h5⟩ hp => ?_, fun ⟨⟨⟨⟨⟨h0, h1⟩, h2⟩, h3⟩, h4⟩, h5⟩ hp hc => ?_,
    fun ⟨⟨⟨⟨⟨h0, h1⟩, h2⟩, h3⟩, h4⟩, h5⟩ hp hc => ?_⟩
  · exact execOpenJob_refused ha hlen (by simp [openRefusal, State.jobOpen, h0])
  · exact execOpenJob_refused ha hlen (by simp [openRefusal, State.jobOpen, h0, h1])
  · exact execOpenJob_refused ha hlen (by simp [openRefusal, State.jobOpen, h0, h1, h2])
  · exact execOpenJob_refused ha hlen (by simp [openRefusal, State.jobOpen, h0, h1, h2, h3])
  · refine execOpenJob_refused ha hlen ?_
    rcases h3 with h3 | h3 <;> simp [openRefusal, State.jobOpen, h0, h1, h2, h3, h4]
  · refine execOpenJob_refused ha hlen ?_
    have hc : s.path.filters.states.covered = true := by
      simpa [Filters.states, FilterStates.covered, or_assoc] using h5
    rcases h3 with h3 | h3 <;> simp [openRefusal, State.jobOpen, h0, h1, h2, h3, h4, hc]
  · rw [execOpenJob_onAccount ha hlen (inOrder h0 h1 h2 h3 h4 h5) (n := 0) (by subst hp; decide)]
    rfl
  · rw [execOpenJob_onCard ha hlen (inOrder h0 h1 h2 h3 h4 h5) (by subst hp; decide)]
    rcases hc with hc | ⟨n, hc⟩ <;> simp [openOnCard, hc]
  · obtain ⟨r, hc⟩ := hc
    rw [execOpenJob_onCard ha hlen (inOrder h0 h1 h2 h3 h4 h5) (by subst hp; decide)]
    simp [openOnCard, hc]

end Sys2Proof.Machine
end

section
/-! ## Writes in hand -/

namespace Sys2Proof.Machine

/-- A checkpoint write joins the writes in hand (R25, R181). -/
theorem writeCheckpoint_writes {s : State} {k : Checkpoint} (ho : s.store.orderly) (hk : s.job.ctx.checkpoint = some k) :
    (writeCheckpoint s).store.writes = s.store.writes ++ [.checkpoint (some k)] := by
  rw [writeCheckpoint, hk]
  exact submit_writes _ _ _ ho rfl

theorem writeCheckpoint_orderly {s : State} (ho : s.store.orderly) : (writeCheckpoint s).store.orderly := by
  unfold writeCheckpoint
  split
  · exact submit_orderly _ _ _ ho
  · exact ho

@[simp] theorem writeCheckpoint_records (s : State) : (writeCheckpoint s).store.records = s.store.records := by
  unfold writeCheckpoint; split <;> simp

theorem takeSerial_writes {s : State} (t : WriteTag) (ho : s.store.orderly) :
    (takeSerial t s).store.writes = s.store.writes ++ [.serial (serialAfter s.job.nextSerial)] :=
  submit_writes t _ (s.setJob _) ho rfl

theorem takeSerial_orderly {s : State} (t : WriteTag) (ho : s.store.orderly) : (takeSerial t s).store.orderly :=
  submit_orderly t _ (s.setJob _) ho

@[simp] theorem takeSerial_records (t : WriteTag) (s : State) : (takeSerial t s).store.records = s.store.records := by
  simp [takeSerial]

@[simp] theorem takeSerial_job (t : WriteTag) (s : State) :
    (takeSerial t s).job = { s.job with nextSerial := serialAfter s.job.nextSerial } := by
  simp [takeSerial]

@[simp] theorem enterPath_filters (p : PathState) (s : State) : (enterPath p s).path.filters = s.path.filters := by
  unfold enterPath; split <;> rfl

@[simp] theorem enterPath_jam (p : PathState) (s : State) : (enterPath p s).path.jam = s.path.jam := by
  unfold enterPath; split <;> rfl

/-! ## A job enters RUNNING (R7) -/

/-- The context of a job that enters RUNNING (R7). -/
def JobContext.entered (c : JobContext) : JobContext :=
  { c with state := .running, charged := 0, delivered := 0, reserved := 0, fed := 0, lost := 0, redone := 0
           usage := UsageOf.all 0 }

theorem enterRunning_eq (s : State) :
    enterRunning s = enterPath .active (writeCheckpoint (s.setJob { s.job with
      ctx := s.job.ctx.entered, lostList := { owner := s.job.ctx.serial, tags := [], overflow := false } })) := rfl

@[simp] theorem enterRunning_job (s : State) : (enterRunning s).job =
    { s.job with ctx := s.job.ctx.entered, lostList := { owner := s.job.ctx.serial, tags := [], overflow := false } } := by
  simp [enterRunning_eq]

@[simp] theorem enterRunning_powered (s : State) : (enterRunning s).powered = s.powered := by simp [enterRunning_eq]
@[simp] theorem enterRunning_timeBase (s : State) : (enterRunning s).timeBase = s.timeBase := by simp [enterRunning_eq]
@[simp] theorem enterRunning_options (s : State) : (enterRunning s).options = s.options := by simp [enterRunning_eq]
@[simp] theorem enterRunning_port (s : State) : (enterRunning s).port = s.port := by simp [enterRunning_eq]
@[simp] theorem enterRunning_tariff (s : State) : (enterRunning s).tariff = s.tariff := by simp [enterRunning_eq]
@[simp] theorem enterRunning_card (s : State) : (enterRunning s).card = s.card := by simp [enterRunning_eq]
@[simp] theorem enterRunning_line (s : State) : (enterRunning s).line = s.line := by simp [enterRunning_eq]
@[simp] theorem enterRunning_accounts (s : State) : (enterRunning s).accounts = s.accounts := by simp [enterRunning_eq]
@[simp] theorem enterRunning_settle (s : State) : (enterRunning s).settle = s.settle := by simp [enterRunning_eq]
@[simp] theorem enterRunning_meter (s : State) : (enterRunning s).meter = s.meter := by simp [enterRunning_eq]
@[simp] theorem enterRunning_free (s : State) : (enterRunning s).free = s.free := by simp [enterRunning_eq]
@[simp] theorem enterRunning_pending (s : State) : (enterRunning s).pending = s.pending := by simp [enterRunning_eq]

theorem enterRunning_path (s : State) : (enterRunning s).path.state = .active ∧
    (enterRunning s).path.queue = s.path.queue ∧ (enterRunning s).path.filters = s.path.filters ∧
    (enterRunning s).path.jam = s.path.jam := by
  simp [enterRunning_eq]

@[simp] theorem enterRunning_records (s : State) : (enterRunning s).store.records = s.store.records := by
  simp [enterRunning_eq]

theorem enterRunning_writes {s : State} {k : Checkpoint} (ho : s.store.orderly)
    (hk : s.job.ctx.entered.checkpoint = some k) :
    (enterRunning s).store.writes = s.store.writes ++ [.checkpoint (some k)] := by
  simpa [enterRunning_eq] using writeCheckpoint_writes (s := s.setJob { s.job with
      ctx := s.job.ctx.entered, lostList := { owner := s.job.ctx.serial, tags := [], overflow := false } }) ho hk

/-! ## OPEN JOB on a purse card (R3) -/

/-- The context of a purse job at its opening (R3). -/
def JobContext.ofPurse (serial card : Nat) : JobContext :=
  { JobContext.blank with
    serial := some serial, funding := some .purse, openingCard := some card, purse := some { card := card, tag := none } }

/-- The part with the serial, the refund-list entry and the context of a purse job taken (R3, R5). -/
def takePurseJob (card : Nat) (s : State) : State :=
  ((takeSerial .command s).setCard { (takeSerial .command s).card with refundReserved := true }).setCtx
    (JobContext.ofPurse s.job.nextSerial card)

/-- With room for its store write, an accepted OPEN JOB on a purse card completes at once (R3, R174). -/
theorem openPurse_opened {i : PurseImage} {s : State} (he : i.purse.escrow = 0) (hl : s.card.refundsOccupied < 24)
    (hr : s.store.taken < 8) : openPurse i s =
      complete .ok (.jobOpened s.job.nextSerial .purse 0 0) (enterRunning (takePurseJob i.serial s)) := by
  have opened : (enterRunning (takePurseJob i.serial s)).job.ctx.opened = .jobOpened s.job.nextSerial .purse 0 0 := by
    rw [enterRunning_job]; rfl
  unfold openPurse
  rw [if_neg (by simp [he]), if_neg (by omega)]
  show (if s.store.taken < 8 then complete .ok (enterRunning (takePurseJob i.serial s)).job.ctx.opened _ else _) = _
  rw [if_pos hr, opened]
  rfl

/-- Settles O12. -/
theorem purseJobOpensOnAReadyCard : Obligations.PurseJobOpensOnAReadyCard := by
  unfold Obligations.PurseJobOpensOnAReadyCard
  intro s id i ha hj hp ht hs hc hready hid hkind himage
  have onPurse : exec (.openJob [0]) s = .next (openPurse i (commandTaken .openJob s)) := by
    rw [execOpenJob_onCard ha (by decide) (openRefusal_eq_none hj hp ht (.inl hs) hc) (by decide)]
    simp [openOnCard, hready, hid, himage, hkind]
  refine ⟨fun he => ?_, fun he hl => ?_, fun he hl ho hr => ?_⟩
  · rw [onPurse, openPurse, if_pos he]; rfl
  · rw [onPurse, openPurse, if_neg (by simp [he]), if_pos (by simpa [CardUnit.refundsOccupied] using hl)]; rfl
  · have ho' : (commandTaken .openJob s).store.orderly := by simpa using ho
    rw [onPurse, openPurse_opened he (by simpa [CardUnit.refundsOccupied] using hl) (by simpa using hr),
      commandTaken_job]
    obtain ⟨pathState, queue, filters, jam⟩ := enterRunning_path (takePurseJob i.serial (commandTaken .openJob s))
    refine ⟨_, rfl, complete_holdsResult _ _ ?_, ?_, ?_, ?_, ?_, ?_, ?_, ?_, ?_, ?_⟩
    · simp [takePurseJob]
    · simp [takePurseJob, State.setCtx, JobContext.ofPurse, JobContext.entered, JobContext.blank, serialAfter]
    · simp [takePurseJob]
    · simpa using pathState
    · simpa [takePurseJob] using queue
    · simpa [takePurseJob] using filters
    · simpa [takePurseJob] using jam
    · rw [complete_store, enterRunning_writes (s := takePurseJob _ _) (takeSerial_orderly _ ho') rfl,
        show (takePurseJob i.serial (commandTaken .openJob s)).store = (takeSerial .command (commandTaken .openJob s)).store
          from rfl, takeSerial_writes .command ho']
      simp [serialAfter, takePurseJob, JobContext.entered, JobContext.ofPurse, JobContext.blank]
    · simp [takePurseJob]
    · simp [takePurseJob, State.unchangedBut]

end Sys2Proof.Machine
end

section
/-! ## OPEN JOB on an account (R4, R6) -/

namespace Sys2Proof.Machine

/-- The context of an account job at its opening (R4). -/
def JobContext.ofAccount (serial : Nat) (card : Option Nat) (number home own : Nat) : JobContext :=
  { JobContext.blank with
    serial := some serial, funding := some .account, openingCard := card, state := .authorising
    account := some { number := number, home := home, hold := { station := own, serial := serial }, discount := 0, acked := 0 } }

/-- The part with the serial, the outbound entry and the context of an account job taken (R4, R5). -/
def takeAccountJob (card : Option Nat) (number home own : Nat) (s : State) : State :=
  ((takeSerial .plain s).setSettle { (takeSerial .plain s).settle with reservedJob := true }).setJob
    { (takeSerial .plain s).job with
      removed := false, ctx := JobContext.ofAccount s.job.nextSerial card number home own }

section
variable (card : Option Nat) (number home own : Nat) (s : State)

@[simp] theorem takeAccountJob_job : (takeAccountJob card number home own s).job = { s.job with
    nextSerial := serialAfter s.job.nextSerial, removed := false
    ctx := JobContext.ofAccount s.job.nextSerial card number home own } := by simp [takeAccountJob]
@[simp] theorem takeAccountJob_settle :
    (takeAccountJob card number home own s).settle = { s.settle with reservedJob := true } := by simp [takeAccountJob]
@[simp] theorem takeAccountJob_powered : (takeAccountJob card number home own s).powered = s.powered := by
  simp [takeAccountJob]
@[simp] theorem takeAccountJob_timeBase : (takeAccountJob card number home own s).timeBase = s.timeBase := by
  simp [takeAccountJob]
@[simp] theorem takeAccountJob_options : (takeAccountJob card number home own s).options = s.options := by
  simp [takeAccountJob]
@[simp] theorem takeAccountJob_port : (takeAccountJob card number home own s).port = s.port := by simp [takeAccountJob]
@[simp] theorem takeAccountJob_tariff : (takeAccountJob card number home own s).tariff = s.tariff := by
  simp [takeAccountJob]
@[simp] theorem takeAccountJob_path : (takeAccountJob card number home own s).path = s.path := by simp [takeAccountJob]
@[simp] theorem takeAccountJob_card : (takeAccountJob card number home own s).card = s.card := by simp [takeAccountJob]
@[simp] theorem takeAccountJob_line : (takeAccountJob card number home own s).line = s.line := by simp [takeAccountJob]
@[simp] theorem takeAccountJob_accounts : (takeAccountJob card number home own s).accounts = s.accounts := by
  simp [takeAccountJob]
@[simp] theorem takeAccountJob_meter : (takeAccountJob card number home own s).meter = s.meter := by
  simp [takeAccountJob]
@[simp] theorem takeAccountJob_free : (takeAccountJob card number home own s).free = s.free := by simp [takeAccountJob]
@[simp] theorem takeAccountJob_pending : (takeAccountJob card number home own s).pending = s.pending := by
  simp [takeAccountJob]
@[simp] theorem takeAccountJob_records :
    (takeAccountJob card number home own s).store.records = s.store.records := by simp [takeAccountJob]

variable {s}

theorem takeAccountJob_writes (ho : s.store.orderly) : (takeAccountJob card number home own s).store.writes =
    s.store.writes ++ [.serial (serialAfter s.job.nextSerial)] := takeSerial_writes _ ho

end

/-- The HOLD request of an account job (R4). -/
def holdRequestOf (number own : Nat) (s : State) : Payload :=
  .holdRequest { account := number, hold := { station := own, serial := s.job.nextSerial }
                 amount := s.options.accountBlock, minimum := 1 }

/-- An account job that may open goes by where its home is (R4, R6). -/
theorem openAccount_resolved {number own : Nat} {card : Option Nat} {e : RosterEntry} {s : State}
    (hc : s.line.state ≠ .conflict) (hr : resolveHome s.line.roster number = some e) (hn : s.options.station = some own)
    (hm : e.station = own ∨ s.line.state = .member) (ho : s.settle.occupied < 16) :
    openAccount number card s =
      if e.station = own then handOwn .job (holdRequestOf number own s) (takeAccountJob card number e.station own s)
      else if e.present then
        askExchange .job e.station (holdRequestOf number own s) 3 (takeAccountJob card number e.station own s)
      else homeUnreachable (takeAccountJob card number e.station own s) := by
  have station : s.own = some own := hn
  have reachable : ¬ (e.station ≠ own ∧ s.member = false) := by
    rcases hm with hm | hm <;> simp [hm, State.member]
  unfold openAccount
  rw [if_neg hc, hr, station]
  dsimp only
  rw [if_neg reachable, if_neg (by omega)]
  rfl

/-- The part with the OFFLINE funding of a job taken (R6). -/
def fundOffline (amount : Nat) (s : State) : State :=
  s.setJob { s.job with
    postDue := none
    ctx := { s.job.ctx with
      funding := some .offline, funded := amount, topUp := .none
      account := s.job.ctx.account.map fun a => { a with discount := 0, acked := 0 } } }

/-- A job whose home is unreachable and that has an allowance runs OFFLINE (R6, R152). -/
theorem takeFunding_offline {s : State} (hr : s.job.removed = false) (amount : Nat) :
    takeFunding .offline amount 0 s =
      complete .ok (.jobOpened (s.job.ctx.serial.getD 0) .offline amount 0) (enterRunning (fundOffline amount s)) := by
  have opened : (enterRunning (fundOffline amount s)).job.ctx.opened =
      .jobOpened (s.job.ctx.serial.getD 0) .offline amount 0 := by
    cases hac : s.job.ctx.account <;> simp [fundOffline, JobContext.entered, JobContext.opened, hac]
  unfold takeFunding
  dsimp only
  rw [if_neg (by simp [hr]), ← opened]
  rfl

/-- Settles O13: `openAccount` refuses check by check, and then goes by `openAccount_resolved`. -/
theorem accountJobAsksItsHomeForAHold : Obligations.AccountJobAsksItsHomeForAHold := by
  unfold Obligations.AccountJobAsksItsHomeForAHold
  intro s a n e ps card ha hj hp ht hs hclear ha1 ha2 hps
  have hr := openRefusal_eq_none hj hp ht (.inl hs) hclear
  have onAccount : exec (.openJob ps) s = .next (openAccount a card (commandTaken .openJob s)) := by
    rcases hps with ⟨rfl, rfl⟩ | ⟨rfl, hready, id, hid, hkind, rfl, rfl⟩
    · have reads : FundingOperand.read ([1] ++ spell 2 a) = some (.account a) := by
        have number : field ([1] ++ spell 2 a) 1 2 = a := by
          rw [field_behind [1] (spell 2 a) (start := 1) (k := 0) 2 rfl, ← List.append_nil (spell 2 a), field_spell]
          exact Nat.mod_eq_of_lt ha2
        have kind : field ([1] ++ spell 2 a) 0 1 = 1 := field_front [1] _ rfl
        simp only [FundingOperand.read, number, kind]
        simp [Laws.Wire.spell_length]
      rw [execOpenJob_onAccount ha (by simp [Laws.Wire.spell_length]) hr reads, if_neg (by omega)]
    · rw [execOpenJob_onCard ha (by decide) hr (by decide)]
      cases himage : s.card.image <;> simp [openOnCard, hready, hid, hkind, himage]
  refine ⟨fun hc => ?_, fun hc hh => ?_, fun hc hh hn hne hm => ?_, fun hc hh hn hm hocc => ?_,
    fun hc hh hn hm hocc ho => ?_⟩
  · rw [onAccount, openAccount, if_pos (by simpa using hc)]; rfl
  · rw [onAccount, openAccount, if_neg (by simpa using hc)]
    simp [hh]
  · have station : (commandTaken .openJob s).own = some n := by simpa [State.own] using hn
    rw [onAccount, openAccount, if_neg (by simpa using hc), station]
    simp [hh, hne, State.member, hm]
  · have station : (commandTaken .openJob s).own = some n := by simpa [State.own] using hn
    have reachable : ¬ (e.station ≠ n ∧ (commandTaken .openJob s).member = false) := by
      rcases hm with hm | hm <;> simp [hm, State.member]
    rw [onAccount, openAccount, if_neg (by simpa using hc), station]
    simp only [commandTaken_line, hh, if_neg reachable, commandTaken_settle, ge_iff_le, hocc, if_true]
    rfl
  · have resolved := openAccount_resolved (s := commandTaken .openJob s) (card := card) (by simpa using hc)
      (by simpa using hh) (by simpa using hn) (by simpa using hm) (by simpa using hocc)
    have ho' : (commandTaken .openJob s).store.orderly := by simpa using ho
    have writes := takeAccountJob_writes card a e.station n ho'
    rw [onAccount, resolved]
    refine ⟨fun he => ?_, fun he hpr => ?_, fun he hpr hal => ?_, fun he hpr hal => ?_⟩
    · rw [if_pos he]
      refine ⟨_, rfl, ?_, ?_, ?_, ?_, ?_, ?_, ?_⟩
      · simp
      · simp [JobContext.ofAccount, serialAfter]
      · simp
      · simp [handOwn, holdRequestOf]
      · simpa [serialAfter] using writes
      · simp
      · simp [State.unchangedBut]
    · rw [if_neg he, if_pos hpr]
      refine ⟨_, rfl, ?_, ?_, ?_, ?_, ?_, ?_, ?_⟩
      · simp
      · simp [JobContext.ofAccount, serialAfter]
      · simp
      · simp [askExchange, holdRequestOf]
      · simpa [serialAfter] using writes
      · simp
      · simp [State.unchangedBut]
    · rw [if_neg he, if_neg (by simp [hpr]), homeUnreachable, if_neg (by simp [hal])]
      refine ⟨_, rfl, complete_holdsResult _ _ ?_, ?_, ?_, ?_, ?_⟩
      · simp
      · simp [refuseOpening, jobToNone, JobContext.ended]
      · simp [refuseOpening, jobToNone, serialAfter]
      · simp [refuseOpening, jobToNone]
      · simpa [refuseOpening, serialAfter] using writes
    · rw [if_neg he, if_neg (by simp [hpr]), homeUnreachable, if_pos (by simpa using hal), takeFunding_offline (by simp)]
      refine ⟨_, rfl, ?_, ?_, ?_, ?_, ?_⟩
      · simpa [JobContext.ofAccount] using complete_holdsResult (o := .openJob) .ok
          (.jobOpened s.job.nextSerial .offline s.options.allowance 0) (s := enterRunning (fundOffline s.options.allowance
            (takeAccountJob card a e.station n (commandTaken .openJob s)))) (by simp [fundOffline])
      · simp [fundOffline, JobContext.entered, JobContext.ofAccount, JobContext.blank]
      · simp [fundOffline, serialAfter]
      · simp [fundOffline]
      · simpa using (enterRunning_path (fundOffline s.options.allowance
          (takeAccountJob card a e.station n (commandTaken .openJob s)))).1

end Sys2Proof.Machine
end

section
/-! ## FEED and the feed gate (R9, R10) -/

namespace Sys2Proof.Machine

/-- The nine parameter bytes of FEED read back (R190). -/
theorem FeedOperand.read_spell {set page size mode faces front back : Nat} (h1 : set < 65536) (h2 : page < 65536)
    (h3 : size < 256) (h4 : mode < 256) (h5 : faces < 256) (h6 : front < 256) (h7 : back < 256) :
    FeedOperand.read (spell 2 set ++ spell 2 page ++ spell 1 size ++ spell 1 mode ++ spell 1 faces ++ spell 1 front ++
      spell 1 back) = some
        { set := set, page := page, size := size, mode := mode, faces := faces, front := front, back := back } := by
  simp [FeedOperand.read, spell, field, number]
  omega

/-- The ranges of FEED's parameters besides the codes of size and mode (R9). -/
def FeedOperand.inRange (f : FeedOperand) : Prop :=
  (1 ≤ f.set ∧ f.set ≤ 9999) ∧ (1 ≤ f.page ∧ f.page ≤ 9999) ∧ (f.faces = 1 ∨ f.faces = 2) ∧ f.front ≤ 3 ∧
    (f.faces = 2 ∧ f.mode = 1 → f.back ≤ 3)

/-- A FEED in range is a tag and a sheet (R9). -/
theorem FeedOperand.sheet_inRange {f : FeedOperand} (hs : f.size ≤ 1) (hm : f.mode ≤ 1) (h : f.inRange) :
    f.sheet = some ({ set := f.set, page := f.page },
      { size := if f.size = 0 then .std else .large, mode := if f.mode = 0 then .mono else .colour, faces := f.faces
        front := f.front, back := if f.faces = 2 ∧ f.mode = 1 then f.back else 0 }) := by
  obtain ⟨hset, hpage, hfaces, hfront, hback⟩ := h
  exact if_pos ⟨hset, hpage, hs, hm, hfaces, hfront, hback⟩

theorem FeedOperand.sheet_outOfRange {f : FeedOperand} (h : ¬ f.inRange) : f.sheet = none :=
  if_neg fun ⟨hset, hpage, _, _, hfaces, hfront, hback⟩ => h ⟨hset, hpage, hfaces, hfront, hback⟩

/-- FEED of a RUNNING job goes by its range (R9). -/
theorem execFeed_running {s : State} (ha : s.accepts) (hs : s.job.ctx.state = .running) {ps : List Byte}
    (hp : ps.length ≤ 240) {x : Option (Tag × Sheet)} (hx : (FeedOperand.read ps).bind FeedOperand.sheet = x) :
    exec (.feed ps) s = .next (match x with
      | some x => feedGate x.1 x.2 (commandTaken .feed s)
      | none => answered .feed .badParam .none s) := by
  rw [execFeed_taken ha hp, feed]
  simp only [commandTaken_job, hs, hx, complete_commandTaken]
  cases x <;> rfl

/-- Settles O14, by the job's state and then by range. -/
theorem feedIsTakenRunningAndInRange : Obligations.FeedIsTakenRunningAndInRange := by
  unfold Obligations.FeedIsTakenRunningAndInRange
  intro s ha
  refine ⟨fun ps hp => ⟨fun hs => ?_, fun hs => ?_, fun hs => ?_⟩, fun r => answered_job _ _ _ _, ?_⟩
  · simp [execFeed_taken ha hp, feed, hs]
  · simp [execFeed_taken ha hp, feed, hs]
  · rcases hs with hs | hs | hs <;> simp [execFeed_taken ha hp, feed, hs]
  · intro set page size mode faces front back hs h1 h2 h3 h4 h5 h6 h7
    have hp : (spell 2 set ++ spell 2 page ++ spell 1 size ++ spell 1 mode ++ spell 1 faces ++ spell 1 front ++
        spell 1 back).length ≤ 240 := by simp [Laws.Wire.spell_length]
    have reads := FeedOperand.read_spell h1 h2 (show size < 256 by omega) (show mode < 256 by omega) h5 h6 h7
    refine ⟨fun hout => ?_, fun hin => ?_⟩
    · rw [execFeed_running ha hs hp (by rw [reads, Option.bind_some, FeedOperand.sheet_outOfRange (by exact hout)])]
    · rw [execFeed_running ha hs hp (by rw [reads, Option.bind_some, FeedOperand.sheet_inRange h3 h4 (by exact hin)])]
      rfl

/-! ## The grant -/

/-- The FEED that the gate judges: its price at the next ordinal, and its reservation (R33, R34). -/
def State.priced (s : State) (x : Tariff) (tag : Tag) (d : Sheet) : PendingFeed :=
  let price := x.price d (nextOrdinal s.job.ctx.fed s.job.ctx.lost)
    ((s.job.ctx.account.map AccountPart.discount).getD 0)
  { tag := tag, sheet := d, price := price, reserve := reservation price }

/-- The gate of a FEED that finds a place, an ordinal, a tariff and a charge within the limit goes by the free amount
(R10). -/
theorem feedGate_priced {s : State} {x : Tariff} {tag : Tag} {d : Sheet} (hx : s.tariff = some x)
    (hq : s.path.queue.length < 6) (hfed : s.job.ctx.fed < 65535)
    (hlimit : s.job.ctx.charged + s.job.ctx.reserved + (s.priced x tag d).reserve ≤ 999999) :
    feedGate tag d s =
      if (s.priced x tag d).reserve ≤ s.job.ctx.free then grantFeed (s.priced x tag d) s
      else match s.job.ctx.funding with
        | some .purse => seekPurse (s.priced x tag d) s
        | some .account => seekAccount (s.priced x tag d) s
        | _ => complete .noFunds .none s := by
  have limit : ¬ s.job.ctx.charged + s.job.ctx.reserved + (s.priced x tag d).reserve > 999999 := by omega
  unfold feedGate
  dsimp only
  rw [if_neg (by omega), if_neg (by omega), hx]
  exact if_neg limit

/-- A granted feed (R10, R50, R77): the part it leaves, before the result. -/
def granted (f : PendingFeed) (s : State) : State :=
  (s.setPath { s.path with queue := s.path.queue ++
      [newRecord f (s.job.ctx.fed + 1) ((s.path.profile.map Profile.pick).getD 0) s.timeBase] }).setJob
    { s.job with
      ctx := { s.job.ctx with
        reserved := s.job.ctx.reserved + f.reserve, fed := s.job.ctx.fed + 1
        redone := if s.job.lostList.tags.contains f.tag then s.job.ctx.redone + 1 else s.job.ctx.redone }
      lostList := { s.job.lostList with tags := s.job.lostList.tags.erase f.tag }
      feed := none }

theorem grantFeed_active {f : PendingFeed} {s : State} (hs : s.path.state = .active) (hq : s.path.queue.length < 6) :
    grantFeed f s = complete .granted
      (.granted (s.job.ctx.fed + 1) f.price f.reserve (granted f s).job.ctx.free) (granted f s) :=
  if_pos ⟨hs, hq⟩

theorem granted_free (f : PendingFeed) (s : State) : (granted f s).job.ctx.free = s.job.ctx.free - f.reserve := by
  simp [granted, JobContext.free]
  omega

/-- Settles O15: the gate refuses step by step, and grants by `grantFeed_active`. -/
theorem feedGateGrantsWithinTheFreeAmount : Obligations.FeedGateGrantsWithinTheFreeAmount := by
  unfold Obligations.FeedGateGrantsWithinTheFreeAmount
  refine ⟨fun s tag d x hport hx => ?_, fun s x set page ha hs hx hactive hq hfed h1 h2 h3 h4 hlimit hfree => ?_⟩
  · have refused (r : Reason) (h : feedGate tag d s = complete r .none s) :
        feedGate tag d s = placeResult { command := some .feed, reason := r, values := .none } s := by
      rw [h, complete_executing _ _ _ _ hport]
    refine ⟨fun hq => refused _ ?_, fun hq hfed => refused _ ?_, fun hq hfed hlimit => refused _ ?_,
      fun hq hfed hlimit hfree hoff => refused _ ?_, fun hq hfed hlimit hfree hactive => ?_⟩
    · rw [feedGate, if_pos hq]
    · rw [feedGate, if_neg (by omega), if_pos hfed]
    · rw [feedGate, if_neg (by omega), if_neg (by omega), hx]
      exact if_pos hlimit
    · have short : ¬ (s.priced x tag d).reserve ≤ s.job.ctx.free := Nat.not_le.mpr hfree
      rw [feedGate_priced hx hq hfed hlimit, if_neg short, hoff]
    · have funds : (s.priced x tag d).reserve ≤ s.job.ctx.free := hfree
      refine ⟨_, rfl, ?_⟩
      rw [feedGate_priced hx hq hfed hlimit, if_pos funds, grantFeed_active hactive hq, granted_free]
      refine ⟨complete_holdsResult _ _ hport, ?_, ?_, ?_, ?_⟩
      · simp [granted, newRecord, State.priced, reservation, nextOrdinal, after]
      · simp [granted, State.priced, reservation, nextOrdinal]
      · simp [granted, State.priced]
      · simp [granted, State.unchangedBut]
  · have hp : (spell 2 set ++ spell 2 page ++ [0, 0, 1, 0, 0] : List Byte).length ≤ 240 := by
      simp [Laws.Wire.spell_length]
    have reads : (FeedOperand.read (spell 2 set ++ spell 2 page ++ [0, 0, 1, 0, 0])).bind FeedOperand.sheet =
        some ({ set := set, page := page }, { size := .std, mode := .mono, faces := 1, front := 0, back := 0 }) := by
      have bytes := FeedOperand.read_spell (set := set) (page := page) (size := 0) (mode := 0) (faces := 1) (front := 0)
        (back := 0) (by omega) (by omega) (by decide) (by decide) (by decide) (by decide) (by decide)
      have same : (spell 2 set ++ spell 2 page ++ [0, 0, 1, 0, 0] : List Byte) =
          spell 2 set ++ spell 2 page ++ spell 1 0 ++ spell 1 0 ++ spell 1 1 ++ spell 1 0 ++ spell 1 0 := by
        simp [spell]
      rw [same, bytes]
      exact FeedOperand.sheet_inRange (Nat.zero_le _) (Nat.zero_le _) ⟨⟨h1, h2⟩, ⟨h3, h4⟩, .inl rfl, Nat.zero_le _, by simp⟩
    rw [execFeed_running ha hs hp reads]
    dsimp only
    rw [feedGate_priced (x := x) (by simpa using hx) (by simpa using hq) (by simpa using hfed)
        (by simpa [State.priced, reservation, nextOrdinal] using hlimit),
      if_pos (by simpa [State.priced, reservation, nextOrdinal, JobContext.free] using hfree),
      grantFeed_active (by simpa using hactive) (by simpa using hq), granted_free]
    refine ⟨_, rfl, ?_, ?_, ?_⟩
    · simpa [State.priced, reservation, nextOrdinal, JobContext.free] using complete_holdsResult (o := .feed) .granted
        (.granted _ _ _ _) (s := granted (State.priced (commandTaken .feed s) x _ _) (commandTaken .feed s)) rfl
    · simp [granted]
    · simp [granted, State.unchangedBut]

end Sys2Proof.Machine
end

section
/-! ## Requests of the job unit (R130, R149) -/

namespace Sys2Proof.Machine

theorem jobIsLocal_iff {s : State} {a : AccountPart} (ha : s.job.ctx.account = some a) :
    s.jobIsLocal = true ↔ a.home = a.hold.station := by
  simp [State.jobIsLocal, ha, AccountPart.isLocal]

theorem setJob_noneWaiting {s : State} (hw : s.job.waiting = []) : s.setJob { s.job with waiting := [] } = s := by
  rw [← hw]
  rfl

/-! A request that finds nothing waiting before it. -/

section
variable {s : State} {r : JobRequest} (hw : s.job.waiting = [])
include hw

/-- It waits while the one before it is under way. -/
theorem askJob_busy (hb : s.jobBusy = true) : askJob r s = s.setJob { s.job with waiting := [r] } := by
  unfold askJob pumpJob
  rw [hw]
  exact if_pos hb

theorem askJob_free (hb : s.jobBusy = false) : askJob r s =
    if s.jobIsLocal then handOwn .job (s.job.ctx.body r) s
    else if s.member then
      askExchange .job ((s.job.ctx.account.map AccountPart.home).getD 0) (s.job.ctx.body r) (s.job.ctx.attempts r) s
    else jobRequestNoLine r s := by
  have free : ¬ (s.setJob { s.job with waiting := [] ++ [r] }).jobBusy = true := by
    show ¬ s.jobBusy = true
    simp [hb]
  have handed : (s.setJob { s.job with waiting := [] ++ [r] }).setJob
      { (s.setJob { s.job with waiting := [] ++ [r] }).job with waiting := [] } = s := setJob_noneWaiting hw
  unfold askJob pumpJob
  rw [hw]
  show handRequests [r] _ = _
  rw [handRequests, if_neg free, handed]
  rfl

/-- The account unit of this station takes it (R130). -/
theorem askJob_own (hl : s.jobIsLocal = true) (hb : s.ownBusy .job = false) :
    askJob r s = handOwn .job (s.job.ctx.body r) s := by
  rw [askJob_free hw (by simp [State.jobBusy, hl, hb]), if_pos hl]

/-- A home of another station is asked on the line (R110). -/
theorem askJob_line (hl : s.jobIsLocal = false) (hm : s.line.state = .member) (hb : s.slotBusy .job = false) :
    askJob r s = askExchange .job ((s.job.ctx.account.map AccountPart.home).getD 0) (s.job.ctx.body r)
      (s.job.ctx.attempts r) s := by
  rw [askJob_free hw (by simp [State.jobBusy, hl, hb]), if_neg (by simp [hl]), if_pos (by simp [State.member, hm])]

/-- Outside MEMBER the line does not take it (R149). -/
theorem askJob_noLine (hl : s.jobIsLocal = false) (hm : s.line.state ≠ .member) (hb : s.slotBusy .job = false) :
    askJob r s = jobRequestNoLine r s := by
  rw [askJob_free hw (by simp [State.jobBusy, hl, hb]), if_neg (by simp [hl]), if_neg (by simp [State.member, hm])]

end

/-- A free slot holds no periodic post. -/
theorem postPending_of_slotFree {s : State} (hw : s.job.waiting = []) (hb : s.slotBusy .job = false) :
    s.postPending = false := by
  have source {e : Exchange} (h : e.isPeriodic = true) : (e.source == .job) = true := by
    unfold Exchange.isPeriodic at h
    split at h
    · simp [*]
    · cases h
  simp only [State.slotBusy, Bool.or_eq_false_iff, Option.any_eq_false, List.any_eq_false] at hb
  obtain ⟨inProgress, pending⟩ := hb
  simp only [State.postPending, hw, Bool.or_eq_false_iff, Option.any_eq_false, List.any_eq_false]
  refine ⟨⟨rfl, fun e he => ?_⟩, fun e he hp => pending e he (source hp)⟩
  rw [← Bool.not_eq_true]
  exact fun hp => absurd (source hp) (by simp [inProgress e he])

/-- Settles O19: the post is asked for by the rules of one request, or not at all. -/
theorem periodicPostGoesToItsHome : Obligations.PeriodicPostGoesToItsHome := by
  unfold Obligations.PeriodicPostGoesToItsHome
  intro s a due hp hf hs hd hr ha hw post later
  have ready : s.postReady = true := by
    rcases hs with hs | hs | hs <;> simp [State.postReady, JobState.posts, dueAt, hf, hs, hd, hr]
  have taken : exec .periodicPostDue s = .next (if s.jobIsLocal = false ∧ (s.member = false ∨ s.postPending = true)
      then s.setJob later else askJob .periodicPost (s.setJob later)) := by
    show whenDue State.postReady s postPeriodically = _
    rw [whenDue_on _ _ _ hp ready, postPeriodically, hd]
    rfl
  have waits : (s.setJob later).job.waiting = [] := hw
  have body : s.job.ctx.body .periodicPost = post := by simp [JobContext.body, ha, post]
  refine ⟨fun hh hb => ?_, fun hh hm hb => ?_, fun hh hm => ?_⟩
  · have isLocal : s.jobIsLocal = true := (jobIsLocal_iff ha).mpr hh
    rw [taken, if_neg (by simp [isLocal]), askJob_own waits isLocal hb, ← body]
    rfl
  · have away : s.jobIsLocal = false := by simpa [hh] using jobIsLocal_iff ha
    rw [taken, if_neg (by simp [State.member, hm, postPending_of_slotFree hw hb]), askJob_line waits away hm hb, ← body]
    simp [askExchange, later, ha, JobContext.attempts]
    rfl
  · have away : s.jobIsLocal = false := by simpa [hh] using jobIsLocal_iff ha
    rw [taken, if_pos ⟨away, .inl (by simp [State.member, hm])⟩]
    rfl

end Sys2Proof.Machine
end

section
/-! ## A FEED short of funds (R11, R13, R14, R90) -/

namespace Sys2Proof.Machine

theorem commandTaken_setJob (o : Opcode) (j : JobUnit) (s : State) :
    commandTaken o (s.setJob j) = (commandTaken o s).setJob j := by
  cases hp : s.port.state <;> simp [commandTaken, discardResult, hp] <;> rfl

theorem commandTaken_setLine (o : Opcode) (l : LineUnit) (s : State) :
    commandTaken o (s.setLine l) = (commandTaken o s).setLine l := by
  cases hp : s.port.state <;> simp [commandTaken, discardResult, hp] <;> rfl

theorem commandTaken_setCtx (o : Opcode) (c : JobContext) (s : State) :
    commandTaken o (s.setCtx c) = (commandTaken o s).setCtx c := by
  simp [State.setCtx, commandTaken_setJob]

theorem commandTaken_askExchange (o : Opcode) (src : Source) (dest : Nat) (body : Payload) (attempts : Nat) (s : State) :
    commandTaken o (askExchange src dest body attempts s) = askExchange src dest body attempts (commandTaken o s) := by
  simp [askExchange, commandTaken_setLine]

@[simp] theorem commandTaken_priced (o : Opcode) (s : State) (x : Tariff) (tag : Tag) (d : Sheet) :
    (commandTaken o s).priced x tag d = s.priced x tag d := by
  simp [State.priced]

/-! ### Purse writes -/

theorem writableImage_eq_some {s : State} {i : PurseImage} :
    s.writableImage false = some i ↔ s.card.writable i := by
  unfold State.writableImage CardUnit.writable counterEnd
  split
  next j hj =>
    constructor
    · intro h
      obtain ⟨⟨ready, idle, settled, room⟩, same⟩ := Option.ite_none_right_eq_some.mp h
      obtain rfl : j = i := Option.some.inj same
      exact ⟨ready, hj, idle, settled, room⟩
    · rintro ⟨ready, same, idle, settled, room⟩
      obtain rfl : j = i := Option.some.inj (hj.symm.trans same)
      exact if_pos ⟨ready, idle, settled, room⟩
  next hn => simp [hn]

theorem startWrite_eq (purpose : WritePurpose) (i : PurseImage) (p : Purse) (s : State) :
    startWrite purpose i p s = s.setCard (s.card.writes purpose i.slot p s.timeBase) := by
  unfold startWrite CardUnit.writes
  cases i.slot <;> rfl

section
variable {s : State} {f : PendingFeed} {part : PursePart} {short : Nat} (hp : s.job.ctx.purse = some part)
  (hs : f.reserve - s.job.ctx.free = short)
include hp hs

/-- A move that the card does not allow is refused (R11). -/
theorem seekPurse_refused (h : ∀ i, s.card.writable i → (i.serial ≠ part.card ∨ i.purse.balance < short) ∨
      (i.purse.escrow ≠ 0 ∧ ¬ (s.escrowIsOwn i.purse = true ∧ part.tag = some i.purse.tag))) :
    seekPurse f s = complete .noFunds .none s := by
  unfold seekPurse
  rw [hp, hs]
  cases hw : s.writableImage false with
  | none => rfl
  | some i =>
    dsimp only
    rcases h i (writableImage_eq_some.mp hw) with h | h
    · rw [if_pos h]
    · rw [if_pos h, ite_self]

/-- A move that the card allows is sent to its spare slot (R90). -/
theorem seekPurse_moves {i : PurseImage} (hw : s.card.writable i) (hi : i.serial = part.card)
    (hb : short ≤ i.purse.balance)
    (he : i.purse.escrow = 0 ∨ (s.escrowIsOwn i.purse = true ∧ part.tag = some i.purse.tag)) :
    seekPurse f s =
      let m := min i.purse.balance (max s.options.purseBlock short)
      (s.setJob { s.job with feed := some f }).setCard
        (s.card.writes (.move m) i.slot (movedPurse s.cardStation i.purse m) s.timeBase) := by
  unfold seekPurse
  rw [hp, hs, writableImage_eq_some.mpr hw]
  dsimp only
  rw [if_neg (by omega), if_neg (by tauto), startWrite_eq]
  rfl

end

/-! ### Top-ups -/

theorem mayAsk_iff (t : TopUp) (now : TimePoint) : t.mayAsk now = true ↔
    t = .none ∨ ∃ time aged, t = .refused time aged ∧ (aged = true ∨ 5000 ≤ elapsed now time) := by
  cases t with
  | refused time aged =>
    simp only [TopUp.mayAsk, Bool.or_eq_true, decide_eq_true_eq, reduceCtorEq, TopUp.refused.injEq, false_or]
    exact ⟨fun h => ⟨time, aged, ⟨rfl, rfl⟩, h⟩, fun ⟨_, _, ⟨htime, haged⟩, h⟩ => htime ▸ haged ▸ h⟩
  | _ => simp [TopUp.mayAsk]

section
variable {s : State} {f : PendingFeed} {a : AccountPart} {free short : Nat} (ha : s.job.ctx.account = some a)
include ha

/-- A home of this station is asked whatever the top-up state (R14). -/
theorem seekAccount_own (hs : f.reserve - s.job.ctx.free = short) (hl : a.home = a.hold.station) : seekAccount f s =
    askJob (.topUp (max s.options.accountBlock short) short) (s.setJob { s.job with feed := some f }) := by
  simp [seekAccount, ha, hs, AccountPart.isLocal, hl]

variable (hl : a.home ≠ a.hold.station)
include hl

theorem seekAccount_pending (ht : s.job.ctx.topUp = .pending) :
    seekAccount f s = complete .wait (.free s.job.ctx.free) s := by
  simp [seekAccount, ha, AccountPart.isLocal, hl, ht]

theorem seekAccount_notYet (hp : s.job.ctx.topUp ≠ .pending) (ht : s.job.ctx.topUp.mayAsk s.timeBase = false) :
    seekAccount f s = complete .noFunds .none s := by
  simp [seekAccount, ha, AccountPart.isLocal, hl, hp, ht]

variable (ht : s.job.ctx.topUp.mayAsk s.timeBase = true)
include ht

theorem seekAccount_unreachable (hm : s.line.state ≠ .member ∨ s.marksPresent a.home = false) :
    seekAccount f s = complete .noFunds .none (topUpRefused s) := by
  have notPending : s.job.ctx.topUp ≠ .pending := by rintro h; simp [h, TopUp.mayAsk] at ht
  have unreachable : s.member = false ∨ s.marksPresent a.home = false := by simpa [State.member] using hm
  simp [seekAccount, ha, AccountPart.isLocal, hl, notPending, ht, unreachable]

theorem seekAccount_asks (hs : f.reserve - s.job.ctx.free = short) (hm : s.line.state = .member)
    (hpr : s.marksPresent a.home = true) :
    seekAccount f s = complete .wait (.free s.job.ctx.free)
      (askJob (.topUp (max s.options.accountBlock short) short) (s.setCtx { s.job.ctx with topUp := .pending })) := by
  have notPending : s.job.ctx.topUp ≠ .pending := by rintro h; simp [h, TopUp.mayAsk] at ht
  simp [seekAccount, ha, hs, AccountPart.isLocal, hl, notPending, ht, State.member, hm, hpr]

end

/-! ### A FEED command of an account job, by what stands before its request -/

section
variable {s : State} {f : PendingFeed} {a : AccountPart} {short : Nat} (ha : s.job.ctx.account = some a)
  (hs : f.reserve - s.job.ctx.free = short) (hw : s.job.waiting = [])

/-- The top-up that a FEED short of funds asks for (R13, R14). -/
def State.topUpFor (s : State) (short : Nat) : JobRequest := .topUp (max s.options.accountBlock short) short

/-- Its payload. -/
def State.topUpBody (s : State) (hold : HoldId) (short : Nat) : Payload :=
  .topUpRequest { hold := hold, amount := max s.options.accountBlock short, minimum := short }

include ha in
theorem body_topUpFor : s.job.ctx.body (s.topUpFor short) = s.topUpBody a.hold short := by
  simp [JobContext.body, State.topUpFor, State.topUpBody, ha]

theorem jobIsLocal_commandTaken (o : Opcode) : (commandTaken o s).jobIsLocal = s.jobIsLocal := by
  simp [State.jobIsLocal]

theorem ownBusy_commandTaken (o : Opcode) (x : Origin) : (commandTaken o s).ownBusy x = s.ownBusy x := by
  simp [State.ownBusy]

theorem slotBusy_commandTaken (o : Opcode) (x : Source) : (commandTaken o s).slotBusy x = s.slotBusy x := by
  simp [State.slotBusy]

include ha hs hw

theorem feedOwn_waits (hl : a.home = a.hold.station) (hb : s.ownBusy .job = true) :
    seekAccount f (commandTaken .feed s) = (commandTaken .feed s).setJob
      { s.job with feed := some f, waiting := [s.topUpFor short] } := by
  have isLocal : (commandTaken .feed s).jobIsLocal = true := by rw [jobIsLocal_commandTaken, (jobIsLocal_iff ha).mpr hl]
  have busy : (commandTaken .feed s).jobBusy = true := by simp [State.jobBusy, isLocal, ownBusy_commandTaken, hb]
  rw [seekAccount_own (by simpa using ha) (by simpa using hs) hl, askJob_busy (by simpa using hw) (by exact busy), commandTaken_job,
    commandTaken_options]
  rfl

theorem feedOwn_asks (hl : a.home = a.hold.station) (hb : s.ownBusy .job = false) :
    seekAccount f (commandTaken .feed s) = handOwn .job (s.topUpBody a.hold short)
      ((commandTaken .feed s).setJob { s.job with feed := some f }) := by
  have isLocal : (commandTaken .feed s).jobIsLocal = true := by rw [jobIsLocal_commandTaken, (jobIsLocal_iff ha).mpr hl]
  have free : (commandTaken .feed s).ownBusy .job = false := (ownBusy_commandTaken _ _).trans hb
  rw [seekAccount_own (by simpa using ha) (by simpa using hs) hl,
    askJob_own (by simpa using hw) (by exact isLocal) (by exact free), commandTaken_job, commandTaken_options,
    ← body_topUpFor ha]
  rfl

variable (hl : a.home ≠ a.hold.station) (ht : s.job.ctx.topUp.mayAsk s.timeBase = true) (hm : s.line.state = .member)
  (hpr : s.marksPresent a.home = true)
include hl ht hm hpr

omit hw in
theorem feedLine_eq : seekAccount f (commandTaken .feed s) = complete .wait (.free s.job.ctx.free)
    (askJob (s.topUpFor short) (commandTaken .feed (s.setCtx { s.job.ctx with topUp := .pending }))) := by
  rw [seekAccount_asks (by simpa using ha) hl (by simpa using ht) (by simpa using hs) (by simpa using hm)
    (by simpa [State.marksPresent] using hpr), commandTaken_setCtx, commandTaken_job, commandTaken_options]
  rfl

theorem feedLine_waits (hb : s.slotBusy .job = true) : seekAccount f (commandTaken .feed s) =
    answered .feed .wait (.free s.job.ctx.free) (s.setJob
      { s.job with ctx := { s.job.ctx with topUp := .pending }, waiting := [s.topUpFor short] }) := by
  have away : s.jobIsLocal = false := by simpa [hl] using jobIsLocal_iff ha
  rw [feedLine_eq ha hs hl ht hm hpr, askJob_busy, commandTaken_job, ← commandTaken_setJob, complete_commandTaken]
  · rfl
  · rw [commandTaken_job]; exact hw
  · rw [State.jobBusy, jobIsLocal_commandTaken, slotBusy_commandTaken]
    exact (if_neg (ne_true_of_eq_false away)).trans hb

theorem feedLine_asks (hb : s.slotBusy .job = false) : seekAccount f (commandTaken .feed s) =
    answered .feed .wait (.free s.job.ctx.free) (askExchange .job a.home (s.topUpBody a.hold short) 3
      (s.setJob { s.job with ctx := { s.job.ctx with topUp := .pending }, waiting := [] })) := by
  have away : s.jobIsLocal = false := by simpa [hl] using jobIsLocal_iff ha
  have none_waits : ({ s.job with ctx := { s.job.ctx with topUp := .pending }, waiting := [] } : JobUnit) =
      { s.job with ctx := { s.job.ctx with topUp := .pending } } := by rw [← hw]
  rw [feedLine_eq ha hs hl ht hm hpr, askJob_line, ← commandTaken_askExchange, complete_commandTaken, commandTaken_job,
    ← body_topUpFor ha, none_waits]
  · simp [ha, JobContext.attempts, JobContext.body, State.topUpFor]
    rfl
  · rw [commandTaken_job]; exact hw
  · rw [jobIsLocal_commandTaken]; exact away
  · rw [commandTaken_line]; exact hm
  · rw [slotBusy_commandTaken]; exact hb

end

/-- Settles O16: the gate goes by the funding, a purse job's move by `seekPurse_moves`, an account job's request by the
rules of one request. -/
theorem shortFeedSeeksFunds : Obligations.ShortFeedSeeksFunds := by
  unfold Obligations.ShortFeedSeeksFunds
  intro s ps x tag d ha hps hrun hx hread hq hfed c price r free short f taken refused hlimit hshort
  have free_eq : (commandTaken .feed s).job.ctx.free = free := by rw [commandTaken_job]; rfl
  have short_eq : f.reserve - (commandTaken .feed s).job.ctx.free = short := by rw [free_eq]
  have sought : exec (.feed ps) s = .next (match s.job.ctx.funding with
      | some .purse => seekPurse f (commandTaken .feed s)
      | some .account => seekAccount f (commandTaken .feed s)
      | _ => complete .noFunds .none (commandTaken .feed s)) := by
    have priced : (commandTaken .feed s).priced x tag d = f := commandTaken_priced _ _ _ _ _
    have above : ¬ f.reserve ≤ (commandTaken .feed s).job.ctx.free := by rw [free_eq]; exact Nat.not_le.mpr hshort
    rw [execFeed_running ha hrun hps hread]
    dsimp only
    rw [feedGate_priced (by simpa using hx) (by simpa using hq) (by simpa using hfed) (by simpa [priced] using hlimit),
      priced, if_neg above, commandTaken_job] <;> rfl
  refine ⟨fun part hf hpart => ?_, fun a hf hac hw => ?_⟩
  · rw [hf] at sought
    dsimp only at sought
    have purse : (commandTaken .feed s).job.ctx.purse = some part := by rw [commandTaken_job]; exact hpart
    have refuses (h : ∀ i, s.card.writable i → (i.serial ≠ part.card ∨ i.purse.balance < short) ∨
        (i.purse.escrow ≠ 0 ∧ ¬ (s.escrowIsOwn i.purse = true ∧ part.tag = some i.purse.tag))) : refused := by
      show exec (.feed ps) s = _
      rw [sought, seekPurse_refused purse short_eq (by simpa [State.escrowIsOwn, State.cardStation] using h)]
      rfl
    refine ⟨fun h => refuses ?_, fun h => refuses ?_, fun i hi hserial => ⟨fun hb => refuses ?_,
      fun hb he foreign => refuses ?_, fun hb he => ?_⟩⟩
    · rintro i ⟨ready, -, idle, settled, -⟩
      simp [ready, idle, settled] at h
    · exact fun i hi => .inl (.inl (h i hi.2.1))
    · intro j hj
      obtain rfl : i = j := Option.some.inj (hi.2.1.symm.trans hj.2.1)
      exact .inl (.inr hb)
    · intro j hj
      obtain rfl : i = j := Option.some.inj (hi.2.1.symm.trans hj.2.1)
      refine .inr ⟨he, fun ⟨held, tag⟩ => ?_⟩
      rw [State.escrowIsOwn, Bool.and_eq_true, beq_iff_eq] at held
      exact foreign.elim (absurd held.2) (absurd tag)
    · have fits : i.purse.escrow = 0 ∨
          ((commandTaken .feed s).escrowIsOwn i.purse = true ∧ part.tag = some i.purse.tag) := by
        simp only [State.escrowIsOwn, State.cardStation, commandTaken_options]
        by_cases h0 : i.purse.escrow = 0
        · exact .inl h0
        · exact .inr (by simpa [h0] using he)
      rw [sought, seekPurse_moves purse short_eq (by simpa using hi) hserial hb fits]
      simp only [commandTaken_job, commandTaken_card, commandTaken_options, commandTaken_timeBase, State.cardStation]
      rfl
  · rw [hf] at sought
    dsimp only at sought
    have account : (commandTaken .feed s).job.ctx.account = some a := by rw [commandTaken_job]; exact hac
    intro request body
    refine ⟨fun hl => ?_, fun hl => ?_⟩
    · intro mayAsk asked
      have asks (h : mayAsk) : s.job.ctx.topUp.mayAsk s.timeBase = true := (mayAsk_iff _ _).mpr h
      have notYet (hp : s.job.ctx.topUp ≠ .pending) (h : s.job.ctx.topUp.mayAsk s.timeBase = false) : refused := by
        show exec (.feed ps) s = _
        rw [sought, seekAccount_notYet account hl (by simpa using hp) (by simpa using h)]
        rfl
      refine ⟨fun ht => ?_, fun ht => ?_, fun time ht hnow => ?_, fun ht hm => ?_,
        fun ht hm hpr => ⟨fun hb => ?_, fun hb => ?_⟩⟩
      · rw [sought, seekAccount_pending account hl (by simpa using ht), free_eq]
        rfl
      · have ht : s.job.ctx.topUp = .permanent := ht
        exact notYet (by simp [ht]) (by simp [ht, TopUp.mayAsk])
      · have ht : s.job.ctx.topUp = .refused time false := ht
        exact notYet (by simp [ht]) (by simp [ht, TopUp.mayAsk, hnow])
      · rw [sought, seekAccount_unreachable account hl (by simpa using asks ht) (by simpa [State.marksPresent] using hm),
          topUpRefused, ← commandTaken_setCtx, complete_commandTaken, commandTaken_job, commandTaken_timeBase]
        rfl
      · exact sought.trans (congrArg _ (feedLine_waits hac rfl hw hl (asks ht) hm hpr hb))
      · exact sought.trans (congrArg _ (feedLine_asks hac rfl hw hl (asks ht) hm hpr hb))
    · refine ⟨fun hb => ?_, fun hb => ?_⟩
      · exact sought.trans (congrArg _ (feedOwn_waits hac rfl hw hl hb))
      · rw [sought, feedOwn_asks hac rfl hw hl hb]
        simp only [handOwn, State.setJob_accounts, commandTaken_accounts, discardResult_arrivals]
        rfl

end Sys2Proof.Machine
end

section
/-! ## A move acknowledged (R12, R88) -/

namespace Sys2Proof.Machine

theorem retakeFeed_running {s : State} {f : PendingFeed} (hf : s.job.feed = some f) (hs : s.job.ctx.state = .running)
    (hr : f.reserve ≤ s.job.ctx.free) : retakeFeed s = grantFeed f s := by
  simp [retakeFeed, hf, hs, hr]

theorem retakeFeed_halted {s : State} {f : PendingFeed} (hf : s.job.feed = some f) (hs : s.job.ctx.state = .halted) :
    retakeFeed s = complete .pathFault .none (s.setJob { s.job with feed := none }) := by
  simp [retakeFeed, hf, hs]

/-- The image after a write of these figures: they stand in the other slot (R88). -/
def PurseImage.wrote (i : PurseImage) (p : Purse) : PurseImage :=
  { i with slot := (match i.slot with | .a => .b | .b => .a), purse := p }

theorem takeWrite_eq {s : State} {i : PurseImage} (hi : s.card.image = some i) (w : CardWrite) :
    takeWrite w s = s.setCard
      { s.card with writing := none, request := none, image := some (i.wrote w.purse) } := by
  have wrote : { i with slot := i.slot.spare, purse := w.purse } = i.wrote w.purse := by
    cases h : i.slot <;> simp [PurseImage.wrote, SlotName.spare, h]
  rw [takeWrite, hi, Option.map_some, wrote]

/-- An acknowledgement in its time is taken for the write in flight (R88). -/
theorem execCardWriteAck_taken {s : State} {record : Nat} {bytes : List Byte} {t0 : TimePoint} {w : CardWrite}
    {i : PurseImage} (hp : s.powered = true) (hreq : s.card.request = some (.write record bytes, t0))
    (ht : elapsed s.timeBase t0 ≤ 20) (hw : s.card.writing = some w) (hi : s.card.image = some i) :
    exec .cardWriteAck s = .next (writeCompleted w (s.setCard
      { s.card with writing := none, request := none, image := some (i.wrote w.purse) })) := by
  show whenDue State.awaitsAck s writeAcknowledged = _
  rw [whenDue_on _ _ _ hp (by simp [State.awaitsAck, hreq, ht]), writeAcknowledged, hw, ← takeWrite_eq hi]

/-- The context with the funds of a move (R12). -/
def JobContext.moved (c : JobContext) (m tag : Nat) (part : PursePart) : JobContext :=
  { c with funded := c.funded + m, purse := some { part with tag := some (part.tag.getD tag) } }

/-- The part with the funds of a move, before the FEED in hand is taken afresh (R12). -/
def moveTaken (m : Nat) (p : Purse) (i : PurseImage) (part : PursePart) (s : State) : State :=
  writeCheckpoint ((s.setCard { s.card with writing := none, request := none, image := some (i.wrote p) }).setCtx
    (s.job.ctx.moved m p.tag part))

theorem execCardWriteAck_move {s : State} {record : Nat} {bytes : List Byte} {t0 : TimePoint} {m : Nat} {p : Purse}
    {i : PurseImage} {part : PursePart} (hp : s.powered = true) (hreq : s.card.request = some (.write record bytes, t0))
    (ht : elapsed s.timeBase t0 ≤ 20) (hw : s.card.writing = some { purpose := .move m, purse := p })
    (hi : s.card.image = some i) (hpart : s.job.ctx.purse = some part) :
    exec .cardWriteAck s = .next (retakeFeed (moveTaken m p i part s)) := by
  rw [execCardWriteAck_taken hp hreq ht hw hi]
  simp [writeCompleted, moveCompleted, moveTaken, JobContext.moved, hpart]

section
variable (m : Nat) (p : Purse) (i : PurseImage) (part : PursePart) (s : State)

@[simp] theorem moveTaken_job : (moveTaken m p i part s).job = { s.job with ctx := s.job.ctx.moved m p.tag part } := by
  simp [moveTaken, State.setCtx]
@[simp] theorem moveTaken_card : (moveTaken m p i part s).card =
    { s.card with writing := none, request := none, image := some (i.wrote p) } := by
  simp [moveTaken, State.setCtx]
@[simp] theorem moveTaken_port : (moveTaken m p i part s).port = s.port := by simp [moveTaken, State.setCtx]
@[simp] theorem moveTaken_path : (moveTaken m p i part s).path = s.path := by simp [moveTaken, State.setCtx]

end

/-- Settles O17: after `execCardWriteAck_move`, the FEED in hand is granted or refused by the job's state. -/
theorem acknowledgedMoveFundsTheFeed : Obligations.AcknowledgedMoveFundsTheFeed := by
  unfold Obligations.AcknowledgedMoveFundsTheFeed
  intro s record bytes t0 m serial p i part f hp hport hreq ht hw hi hf hfund hserial hpart ho c c1 card saved
  have taken := execCardWriteAck_move hp hreq ht hw hi hpart
  have feed : (moveTaken m p i part s).job.feed = some f := by rw [moveTaken_job]; exact hf
  have port : (moveTaken m p i part s).port.state = .executing .feed := by rw [moveTaken_port]; exact hport
  have writes (hs : c.state ≠ .authorising) : (moveTaken m p i part s).store.writes = s.store.writes ++ [saved] := by
    have checkpoint : (s.job.ctx.moved m p.tag part).checkpoint = some
        { serial := serial, funding := .purse, openingCard := c.openingCard, purse := c1.purse, account := c.account,
          funded := c1.funded, charged := c.charged, delivered := c.delivered, usage := c.usage } :=
      JobContext.checkpoint_eq_some.mpr ⟨serial, .purse, hserial, hfund, hs, rfl⟩
    exact writeCheckpoint_writes (s := (s.setCard _).setCtx _) ho checkpoint
  refine ⟨fun hs hr hactive hq => ?_, fun hs => ?_⟩
  · have running : (moveTaken m p i part s).job.ctx.state = .running := by rw [moveTaken_job]; exact hs
    have funds : f.reserve ≤ (moveTaken m p i part s).job.ctx.free := by rw [moveTaken_job]; exact hr
    rw [taken, retakeFeed_running feed running funds, grantFeed_active (by simpa using hactive) (by simpa using hq)]
    refine ⟨_, rfl, ?_, ?_, ?_, ?_, ?_, ?_, ?_⟩
    · rw [complete_card]
      exact moveTaken_card m p i part s
    · simp [granted, JobContext.moved, c, c1]
    · simp [granted]
    · simp [granted]
    · have result := complete_holdsResult (o := .feed) .granted (.granted ((moveTaken m p i part s).job.ctx.fed + 1) f.price
        f.reserve (granted f (moveTaken m p i part s)).job.ctx.free) (s := granted f (moveTaken m p i part s)) port
      simpa [granted, JobContext.free, JobContext.moved] using result
    · rw [complete_store]
      exact writes (by simp [hs])
    · simp [granted, moveTaken, State.setCtx, State.unchangedBut]
  · have halted : (moveTaken m p i part s).job.ctx.state = .halted := by rw [moveTaken_job]; exact hs
    rw [taken, retakeFeed_halted feed halted]
    refine ⟨_, rfl, ?_, ?_, ?_, ?_, ?_⟩
    · rw [complete_card]
      exact moveTaken_card m p i part s
    · simp [JobContext.moved, c, c1]
    · exact complete_holdsResult _ _ port
    · rw [complete_store]
      exact writes (by simp [hs])
    · simp [moveTaken, State.setCtx, State.unchangedBut]

end Sys2Proof.Machine
end

section
/-! ## The meters (R163 to R165) and a delivery (R16) -/

namespace Sys2Proof.Machine

/-! ### The meter record and its write -/

/-- The meter record's write is submitted, follows the one in progress, or waits in the queue already (R165). -/
theorem noteMeters_cases (s : State) : noteMeters s = s ∨ noteMeters s = s.setStore { s.store with metersAgain := true } ∨
    noteMeters s = submit .plain (.meters s.meter.record) s := by
  unfold noteMeters
  split
  · exact .inl rfl
  split
  · exact .inr (.inl rfl)
  · exact .inr (.inr rfl)

/-- With no write of the meters in hand, one is submitted (R165). -/
theorem noteMeters_submits {s : State} (h : ∀ w ∈ s.store.writes, w.isMeters = false) :
    noteMeters s = submit .plain (.meters s.meter.record) s := by
  have queued : ¬ (s.store.queue ++ s.store.waiting).any (fun w => w.what.isMeters) = true := by
    rw [List.any_eq_true]
    rintro ⟨w, hw, hm⟩
    rw [h w.what (List.mem_append_right _ (List.mem_map_of_mem hw))] at hm
    exact Bool.false_ne_true hm
  have begun : ¬ s.store.current.any (fun w => w.1.what.isMeters) = true := by
    rw [Option.any_eq_true]
    rintro ⟨w, hw, hm⟩
    rw [h w.1.what (List.mem_append_left _ (by simp [hw]))] at hm
    exact Bool.false_ne_true hm
  rw [noteMeters, if_neg queued, if_neg begun]

@[simp] theorem noteMeters_records (s : State) : (noteMeters s).store.records = s.store.records := by
  rcases noteMeters_cases s with h | h | h <;> simp [h]

theorem noteMeters_orderly {s : State} (ho : s.store.orderly) : (noteMeters s).store.orderly := by
  rcases noteMeters_cases s with h | h | h <;> rw [h]
  · exact ho
  · exact ho
  · exact submit_orderly _ _ _ ho

theorem noteMeters_writes {s : State} (ho : s.store.orderly) : (noteMeters s).store.writes = s.store.writes ∨
    (noteMeters s).store.writes = s.store.writes ++ [.meters s.meter.record] := by
  rcases noteMeters_cases s with h | h | h <;> rw [h]
  · exact .inl rfl
  · exact .inl rfl
  · exact .inr (submit_writes _ _ _ ho (begun_meters _))

section
variable (n : MetersOf Nat) (s : State)

@[simp] theorem addMeters_meter : (addMeters n s).meter = { s.meter with record := s.meter.record.plus n } := by
  unfold addMeters
  split
  next same => rw [same]
  next => simp

@[simp] theorem addMeters_records : (addMeters n s).store.records = s.store.records := by
  unfold addMeters; split <;> simp

variable {s}

theorem addMeters_orderly (ho : s.store.orderly) : (addMeters n s).store.orderly := by
  unfold addMeters
  split
  · exact ho
  · exact noteMeters_orderly (s := s.setMeter _) ho

theorem addMeters_writes (ho : s.store.orderly) : (addMeters n s).store.writes = s.store.writes ∨
    (addMeters n s).store.writes = s.store.writes ++ [.meters (addMeters n s).meter.record] := by
  rw [addMeters_meter]
  unfold addMeters
  split
  · exact .inl rfl
  · exact noteMeters_writes (s := s.setMeter _) ho

theorem addMeters_submits (ho : s.store.orderly) (hn : s.meter.record.plus n ≠ s.meter.record)
    (h : ∀ w ∈ s.store.writes, w.isMeters = false) :
    (addMeters n s).store.writes = s.store.writes ++ [.meters (addMeters n s).meter.record] := by
  rw [addMeters_meter, addMeters, if_neg hn, noteMeters_submits (by exact h)]
  exact submit_writes _ _ (s.setMeter _) ho (begun_meters _)

end

/-! ### A delivery -/

/-- The context with a sheet delivered and charged (R16, R35). -/
def JobContext.delivering (c : JobContext) (r : SheetRecord) : JobContext :=
  { c with
    charged := c.charged + charge c.delivered r.price, delivered := c.delivered + r.price
    reserved := c.reserved - r.reserve, usage := UsageOf.zip (· + ·) c.usage r.sheet.usage }

/-- What a delivery adds to the meters (R163). -/
def JobContext.deliveryCounts (c : JobContext) (r : SheetRecord) : MetersOf Nat :=
  { MetersOf.zero with usage := r.sheet.usage, charged := FundsOf.only c.funding (charge c.delivered r.price) }

/-- A delivery of a RUNNING job (R16). -/
theorem deliver_running {s : State} (r : SheetRecord) (hs : s.job.ctx.state = .running) :
    deliver r s = addMeters (s.job.ctx.deliveryCounts r) (writeCheckpoint (s.setCtx (s.job.ctx.delivering r))) := by
  unfold deliver
  exact if_neg (by simp [hs])

/-- What the checkpoint of a job holds after a delivery (R16, R25). -/
theorem JobContext.delivering_checkpoint {c : JobContext} {k : Checkpoint} (hk : c.checkpoint = some k) (r : SheetRecord) :
    (c.delivering r).checkpoint = some { k with
      charged := (c.delivering r).charged, delivered := (c.delivering r).delivered, usage := (c.delivering r).usage } := by
  obtain ⟨n, kind, hserial, hfunding, hstate, rfl⟩ := JobContext.checkpoint_eq_some.mp hk
  exact JobContext.checkpoint_eq_some.mpr ⟨n, kind, hserial, hfunding, hstate, rfl⟩

/-- The part with this record gone from the path by a trailing edge of the exit (R44, R54). -/
def leftAtExit (r : SheetRecord) (s : State) : State :=
  s.setPath { s.path with
    filters := { s.path.filters with exit := { s.path.filters.exit with on := false, edge := none } }
    queue := s.path.queue.filter fun y => y.number != r.number }

/-- The part with its delivery charged and the checkpoint's write submitted, before the meters (R16; log 46). -/
def deliverySaved (r : SheetRecord) (s : State) : State :=
  writeCheckpoint ((leftAtExit r s).setCtx (s.job.ctx.delivering r))

/-- A trailing edge of the exit in the stay window of the record that awaits it there (R16, R53, R54). -/
theorem execTrailingEdge_exit {s : State} {time : TimePoint} {r : SheetRecord} {before rest : List SheetRecord}
    (hp : s.powered = true) (hs : s.path.state = .active) (hon : s.path.filters.exit.on = true)
    (hedge : s.path.filters.exit.edge = some time) (hq : s.path.queue = before ++ r :: rest) (hr : r.awaits = .trail)
    (hbefore : ∀ y ∈ before, ¬ (y.awaits = .trail ∧ y.sensor = some .exit))
    (hpos : r.position = if r.sheet.faces = 2 then 7 else 4) (hearly : reached time r.earliest = true)
    (hlate : beyond time r.latest = false) :
    exec (.trailingEdge .exit) s = .next (deliver r (leftAtExit r s)) := by
  have sensor : r.sensor = some .exit := by
    by_cases h : r.sheet.faces = 2 <;> simp [SheetRecord.sensor, route, hpos, h]
  have last : (route r.sheet.faces)[r.position]? = none := by
    by_cases h : r.sheet.faces = 2 <;> simp [route, hpos, h]
  have found : s.path.queue.find? (SheetRecord.awaitsAt .trail .exit) = some r := by
    rw [hq, List.find?_append, List.find?_eq_none.mpr fun y hy => by simpa [SheetRecord.awaitsAt] using hbefore y hy]
    simp [SheetRecord.awaitsAt, hr, sensor]
  show execTrailingEdge .exit s = _
  have edge : s.sensorEdge .exit true = some time := by simp [State.sensorEdge, Filters.get, hon, hedge]
  rw [execTrailingEdge, whenPowered_on _ _ hp, edge]
  simp [takeSensorEdge, matchTrailing, moveOn, hs, found, hearly, SheetRecord.overdue, hlate, last, Filters.set,
    Filters.get, Filter.flip, hon, leftAtExit]

/-- Settles O23, by `execTrailingEdge_exit` and `deliver_running`. -/
theorem exitDeliversAndCharges : Obligations.ExitDeliversAndCharges := by
  unfold Obligations.ExitDeliversAndCharges
  intro s time r before rest k hp hs hon hedge hq hr hbefore hpos hearly hlate hrun hk ho c paid used counters
  have taken : exec (.trailingEdge .exit) s = .next (addMeters (c.deliveryCounts r) (deliverySaved r s)) := by
    rw [execTrailingEdge_exit hp hs hon hedge hq hr hbefore hpos hearly hlate, deliver_running r (by exact hrun)]
    rfl
  have writes : (deliverySaved r s).store.writes = s.store.writes ++ [.checkpoint (some { k with
      charged := c.charged + paid, delivered := c.delivered + r.price, usage := UsageOf.zip (· + ·) c.usage used })] :=
    writeCheckpoint_writes (s := (leftAtExit r s).setCtx (c.delivering r)) ho (JobContext.delivering_checkpoint hk r)
  have orderly : (deliverySaved r s).store.orderly := writeCheckpoint_orderly (s := (leftAtExit r s).setCtx (c.delivering r)) ho
  have meter : (deliverySaved r s).meter = s.meter := by simp [deliverySaved, leftAtExit, State.setCtx]
  refine ⟨_, taken, ?_, ?_, ?_, ⟨?_, fun hne hno => ?_⟩, ?_, ?_⟩
  · simp [deliverySaved, leftAtExit, State.setCtx]
    rfl
  · simp [deliverySaved, leftAtExit, State.setCtx]
  · rw [addMeters_meter, meter]
    rfl
  · have split := addMeters_writes (c.deliveryCounts r) orderly
    rw [writes, List.append_assoc] at split
    exact split
  · have split := addMeters_submits (c.deliveryCounts r) orderly (by
      rw [meter]; exact fun h => hne (congrArg MeterRecord.counters h)) (by
      rw [writes, List.forall_mem_append]; exact ⟨hno, by simp [RecordWrite.isMeters]⟩)
    rw [writes, List.append_assoc] at split
    exact split
  · simp [deliverySaved, leftAtExit, State.setCtx]
  · simp [deliverySaved, leftAtExit, State.setCtx, State.unchangedBut]

end Sys2Proof.Machine
end

section
/-! ## An answer heard for the job unit (R107, R111) and the funds of a HOLD ANSWER (R6, R15) -/

namespace Sys2Proof.Machine

/-! ### Frames heard -/

theorem settlementHears_none {s : State} (hq : s.settle.queue = []) (station : Nat) : settlementHears station s = s := by
  unfold settlementHears
  rw [hq, List.find?_nil, ite_self]

theorem noteHeard_other {s : State} (hq : s.settle.queue = []) {station : Nat} (hown : s.own ≠ some station) :
    noteHeard station s = s.setLine { s.line with roster := markHeard station s.line.roster } := by
  rw [noteHeard, settlementHears_none (by exact hq)]
  simp [markPresence, markHeard, hown]

/-- A frame for this station ends the run on the line, marks its source PRESENT and is acted on (R104, R106, R107). -/
theorem hearFrame_heard {s : State} {head : FrameHead} {body : Payload} (h : s.hears head body)
    (hq : s.settle.queue = []) (act : State → State) : hearFrame { head := head, body := body } act s =
      act (s.setLine (s.line.heard (markHeard head.source s.line.roster))) := by
  obtain ⟨-, state, sending, share, good, other, mine⟩ := h
  have idle : lineGoesIdle s = s.setLine { s.line with busy := false, share := .nothing } :=
    if_neg (by rcases state with state | state <;> simp [state])
  have notOwn : s.ownRun head.source = false := by
    cases hs : s.line.share with
    | nothing => simp [State.ownRun, hs]
    | part => exact absurd hs share
    | whole => simpa [State.ownRun, hs] using other
  rw [hearFrame, if_neg (by simp [sending]), idle]
  dsimp only
  rw [if_neg (by rcases state with state | state <;> simp [State.onLine, state, good, notOwn]), if_neg (by exact other),
    noteHeard_other (by exact hq) (by exact other)]
  exact if_pos mine

/-! ### The answer to the exchange of the job unit -/

theorem pumpJob_none {s : State} (hw : s.job.waiting = []) : pumpJob s = s := by
  rw [pumpJob, hw, handRequests]

/-- An answer to the exchange in progress of the job unit ends it with that outcome (R111). -/
theorem hearFrame_jobAnswer {s : State} {head : FrameHead} {body : Payload} {e : Exchange} (h : s.hears head body)
    (hq : s.settle.queue = []) (he : s.line.inProgress = some e) (hsource : e.source = .job) (hdest : e.dest = head.source)
    (hnumber : e.number = head.exch) (hkind : Payload.answeredBy e.body body = true) :
    hearFrame { head := head, body := body } (takeAnswer { head := head, body := body }) s =
      jobOutcome e.body (.answer body) (s.setLine (s.line.ended (markHeard head.source s.line.roster))) := by
  have sending : s.line.sending = none := h.2.2.1
  have inProgress : (s.setLine (s.line.heard (markHeard head.source s.line.roster))).line.inProgress = some e := he
  have matched : e.matchedBy { head := head, body := body } = true := by
    simp [Exchange.matchedBy, hdest, hnumber, hkind]
  rw [hearFrame_heard h hq, takeAnswer, inProgress]
  dsimp only
  rw [if_pos matched, endExchange, inProgress]
  simp [exchangeEnds, hsource, emptyPlace, LineUnit.ended, LineUnit.heard, sending]
  rfl

/-- A HOLD ANSWER to the first hold of a job (R150). -/
theorem jobOutcome_firstHold {s : State} {r : HoldRequestFields} {o : ExchangeOutcome} :
    jobOutcome (.holdRequest r) o s = pumpJob (firstHold r.amount o s) := rfl

/-- A HOLD ANSWER to a top-up of a job with a home of another station (R151). -/
theorem jobOutcome_remoteTopUp {s : State} {r : TopUpRequestFields} {o : ExchangeOutcome} (h : s.jobIsLocal = false) :
    jobOutcome (.topUpRequest r) o s = pumpJob (remoteTopUp r.amount o s) := by
  simp [jobOutcome, h]

theorem jobOutcome_post {s : State} {r : PostFields} {o : ExchangeOutcome} :
    jobOutcome (.post r) o s = pumpJob (if r.final then finalOutcome o s else periodicOutcome o s) := rfl

/-! ### The funds -/

theorem remoteTopUp_granted {s : State} {asked : Nat} {a : HoldAnswerFields} (hok : a.status = Reason.ok.code)
    (hg : 0 < a.granted) : remoteTopUp asked (.answer (.holdAnswer a)) s =
      raiseNotice (.fundsGranted (min a.granted (min asked 100000)))
        (topUpGranted (min a.granted (min asked 100000)) s) := by
  simp only [remoteTopUp, hok, if_true]
  exact if_neg (by omega)

theorem firstHold_granted {s : State} {asked : Nat} {a : HoldAnswerFields} (hs : s.job.ctx.state = .authorising)
    (hok : a.status = Reason.ok.code) (hg : 0 < a.granted) : firstHold asked (.answer (.holdAnswer a)) s =
      takeFunding .account (min a.granted (min asked 100000)) (min a.discount 50) s := by
  rw [firstHold, if_neg (by simp [hs])]
  simp only [hok, if_true]
  exact if_neg (by omega)

/-- The part with the ACCOUNT funding of a job taken (R6). -/
def fundAccount (amount discount : Nat) (s : State) : State :=
  s.setJob { s.job with
    postDue := some (after s.timeBase 30000)
    ctx := { s.job.ctx with
      funding := some .account, funded := amount, topUp := .none
      account := s.job.ctx.account.map fun a => { a with discount := discount, acked := 0 } } }

/-- A job with a granted hold runs on it (R6, R150). -/
theorem takeFunding_account {s : State} {part : AccountPart} (hr : s.job.removed = false)
    (ha : s.job.ctx.account = some part) (amount discount : Nat) :
    takeFunding .account amount discount s =
      complete .ok (.jobOpened (s.job.ctx.serial.getD 0) .account amount discount)
        (enterRunning (fundAccount amount discount s)) := by
  have opened : (enterRunning (fundAccount amount discount s)).job.ctx.opened =
      .jobOpened (s.job.ctx.serial.getD 0) .account amount discount := by
    simp [fundAccount, JobContext.entered, JobContext.opened, ha]
  unfold takeFunding
  dsimp only
  rw [if_neg (by simp [hr]), ← opened]
  rfl

/-- Settles O37: the answer is matched by `hearFrame_jobAnswer`, and funds the job by the kind of its request. -/
theorem holdAnswerFundsTheJob : Obligations.HoldAnswerFundsTheJob := by
  unfold Obligations.HoldAnswerFundsTheJob
  intro s head a e part n h hown hq he hsource hdest hnumber hok hgranted hw hac hl hserial hfund hroom c line
  have away : s.jobIsLocal = false := by simpa [hl] using jobIsLocal_iff hac
  have answered (hkind : Payload.answeredBy e.body (.holdAnswer a) = true) :
      exec (.holdAnswer head a) s = .next (jobOutcome e.body (.answer (.holdAnswer a)) (s.setLine line)) := by
    show execHoldAnswer head a s = _
    rw [execHoldAnswer, whenPowered_on _ _ h.1, hearFrame_jobAnswer h hq he hsource hdest hnumber hkind]
  refine ⟨fun r hr => ?_, fun r hr hport hremoved hstate => ?_⟩
  · intro g
    have granted : exec (.holdAnswer head a) s = .next (raiseNotice (.fundsGranted g) (topUpGranted g (s.setLine line))) := by
      rw [answered (by rw [hr]; rfl), hr, jobOutcome_remoteTopUp (by exact away), remoteTopUp_granted hok hgranted,
        pumpJob_none (by simpa [topUpGranted, State.setCtx] using hw)]
    refine ⟨_, granted, ?_, ?_, ?_, ?_, ?_⟩
    · simp [topUpGranted, State.setCtx]
    · simp [topUpGranted, State.setCtx, c]
    · rw [raiseNotice_port, if_pos (by simpa [topUpGranted, State.setCtx] using hroom)]
      simp [topUpGranted, State.setCtx]
    · simp [topUpGranted, State.setCtx]
    · simp [topUpGranted, State.setCtx, State.unchangedBut]
  · intro g
    have opened : exec (.holdAnswer head a) s = .next (complete .ok (.jobOpened n .account g (min a.discount 50))
        (enterRunning (fundAccount g (min a.discount 50) (s.setLine line)))) := by
      rw [answered (by rw [hr]; rfl), hr, jobOutcome_firstHold, firstHold_granted (by exact hstate) hok hgranted,
        takeFunding_account (by exact hremoved) (by exact hac), pumpJob_none (by simpa [fundAccount] using hw)]
      simp [hserial, g]
    have port : (enterRunning (fundAccount g (min a.discount 50) (s.setLine line))).port.state = .executing .openJob := by
      simpa [fundAccount] using hport
    refine ⟨_, opened, ?_, ?_, ?_, ?_, ?_, complete_holdsResult _ _ port, ?_, ?_⟩
    · simp [fundAccount]
    · simp [fundAccount, JobContext.entered, hac, c]
    · simp [fundAccount, after]
    · simp [fundAccount, hserial]
    · simpa using (enterRunning_path (fundAccount g (min a.discount 50) (s.setLine line))).1
    · simp [fundAccount]
    · simp [fundAccount, State.unchangedBut]

end Sys2Proof.Machine
end

section
/-! ## The end of a job (R24) -/

namespace Sys2Proof.Machine

/-! ### Writes that stay in hand -/

/-- A write other than the meters' stays in hand as it is while others join (R165, R181). -/
theorem mem_beginWrite {s : State} {w : RecordWrite} (hw : w ∈ s.store.writes) (hm : w.isMeters = false) :
    w ∈ (beginWrite s).store.writes := by
  unfold beginWrite
  split
  next q rest hc hq =>
    simp only [Store.writes, hc, hq, Option.map_none, Option.toList_none, List.nil_append, List.cons_append,
      List.map_cons, List.mem_cons] at hw
    rcases hw with rfl | hw
    · simp [Store.writes, begun_of_not_meters _ _ hm]
    · exact List.mem_append_right _ hw
  next => exact hw

theorem mem_submit_of_mem {s : State} {w : RecordWrite} (hw : w ∈ s.store.writes) (hm : w.isMeters = false)
    (t : WriteTag) (x : RecordWrite) : w ∈ (submit t x s).store.writes := by
  have kept : w ∈ (s.store.current.map fun w => w.1.what).toList ∨ (∃ q ∈ s.store.queue, q.what = w) ∨
      ∃ q ∈ s.store.waiting, q.what = w := by
    simpa only [Store.writes, List.map_append, List.mem_append, List.mem_map] using hw
  unfold submit
  split
  · refine mem_beginWrite ?_ hm
    simp only [Store.writes, State.setStore_store, List.map_append, List.mem_append, List.mem_map]
    rcases kept with h | h | h
    · exact .inl h
    · exact .inr (.inl (.inl h))
    · exact .inr (.inr h)
  · simp only [Store.writes, State.setStore_store, List.map_append, List.mem_append, List.mem_map]
    rcases kept with h | h | h
    · exact .inl h
    · exact .inr (.inl h)
    · exact .inr (.inr (.inl h))

theorem mem_submit {s : State} {w : RecordWrite} (hm : w.isMeters = false) (t : WriteTag) :
    w ∈ (submit t w s).store.writes := by
  unfold submit
  split
  · exact mem_beginWrite (by simp [Store.writes]) hm
  · simp [Store.writes]

theorem mem_addMeters {s : State} {w : RecordWrite} (hw : w ∈ s.store.writes) (hm : w.isMeters = false)
    (n : MetersOf Nat) : w ∈ (addMeters n s).store.writes := by
  unfold addMeters
  split
  · exact hw
  · rcases noteMeters_cases (s.setMeter { s.meter with record := s.meter.record.plus n }) with h | h | h <;> rw [h]
    · exact hw
    · exact hw
    · refine mem_submit_of_mem ?_ hm _ _
      exact hw

/-! ### What the end of a job leaves -/

/-- The job unit after its job (R5, R24). -/
def JobUnit.ended (j : JobUnit) : JobUnit :=
  { j with ctx := j.ctx.ended, removed := false, feed := none, waiting := [], postDue := none, awaitsCard := false }

/-- What the end of a job adds to the meters (R24, R163). -/
def JobContext.endCounts (c : JobContext) : MetersOf Nat :=
  { MetersOf.zero with jobs := FundsOf.only c.funding 1 }

/-- The job counted, its notice raised and the clearing of its checkpoint submitted (R24). -/
def jobCounted (route : Route) (s : State) : State :=
  submit .plain (.checkpoint none) (raiseNotice (.jobEnd (s.job.ctx.endItems route)) (addMeters s.job.ctx.endCounts s))

theorem endJob_eq (route : Route) (s : State) : endJob route s =
    if s.path.state = .active then enterPath .idle (jobToNone (jobCounted route s)) else jobToNone (jobCounted route s) := by
  have path : (jobToNone (jobCounted route s)).path = s.path := by simp [jobCounted]
  rw [← path]
  rfl

section
variable (route : Route) (s : State)

@[simp] theorem jobToNone_job : (jobToNone s).job = s.job.ended := by simp [jobToNone, JobUnit.ended]
@[simp] theorem jobToNone_card : (jobToNone s).card = { s.card with refundReserved := false } := by simp [jobToNone]
@[simp] theorem jobToNone_settle : (jobToNone s).settle = { s.settle with reservedJob := false } := by simp [jobToNone]

@[simp] theorem endJob_job : (endJob route s).job = s.job.ended := by
  rw [endJob_eq]; split <;> simp [jobCounted]
@[simp] theorem endJob_card : (endJob route s).card = { s.card with refundReserved := false } := by
  rw [endJob_eq]; split <;> simp [jobCounted]
@[simp] theorem endJob_settle : (endJob route s).settle = { s.settle with reservedJob := false } := by
  rw [endJob_eq]; split <;> simp [jobCounted]
@[simp] theorem endJob_meter : (endJob route s).meter =
    { s.meter with record := s.meter.record.plus s.job.ctx.endCounts } := by
  rw [endJob_eq]; split <;> simp [jobCounted]
@[simp] theorem endJob_records : (endJob route s).store.records = s.store.records := by
  rw [endJob_eq]; split <;> simp [jobCounted]
@[simp] theorem endJob_port_state : (endJob route s).port.state = s.port.state := by
  rw [endJob_eq]; split <;> simp [jobCounted]
@[simp] theorem endJob_path_state :
    (endJob route s).path.state = if s.path.state = .active then .idle else s.path.state := by
  rw [endJob_eq]; split <;> simp [jobCounted]
@[simp] theorem endJob_path_queue : (endJob route s).path.queue = s.path.queue := by
  rw [endJob_eq]; split <;> simp [jobCounted]

variable {s}

theorem endJob_inProgress (h : s.line.inProgress = none) : (endJob route s).line.inProgress = none := by
  rw [endJob_eq]; split <;> simp [jobCounted, jobToNone, dropExchanges, h]

theorem endJob_notices (h : s.port.notices.length < 16) : (endJob route s).port.notices =
    s.port.notices ++ [{ time := s.timeBase, body := .jobEnd (s.job.ctx.endItems route) }] := by
  rw [endJob_eq]; split <;> simp [jobCounted, raiseNotice_port, h]

theorem endJob_writes (ho : s.store.orderly) : (endJob route s).store.writes.getLast? = some (.checkpoint none) := by
  have orderly : (raiseNotice (.jobEnd (s.job.ctx.endItems route)) (addMeters s.job.ctx.endCounts s)).store.orderly := by
    simpa using addMeters_orderly s.job.ctx.endCounts ho
  have last : (jobCounted route s).store.writes.getLast? = some (.checkpoint none) := by
    rw [jobCounted, submit_writes _ _ _ orderly rfl, List.getLast?_concat]
  rw [endJob_eq]; split <;> simpa using last

theorem mem_endJob {w : RecordWrite} (hw : w ∈ s.store.writes) (hm : w.isMeters = false) :
    w ∈ (endJob route s).store.writes := by
  have kept : w ∈ (jobCounted route s).store.writes :=
    mem_submit_of_mem (by simpa using mem_addMeters hw hm s.job.ctx.endCounts) hm _ _
  rw [endJob_eq]; split <;> simpa using kept

/-- The end of a job is that of R24. -/
theorem endJob_jobEnded {n : Nat} {kind : FundingKind} (hn : s.job.ctx.serial = some n)
    (hk : s.job.ctx.funding = some kind) :
    s.jobEnded n kind route s.job.ctx.closeReason (endJob route s) := by
  refine ⟨by rw [endJob_job]; rfl, by simp, by simp, ?_, by simp, fun ho => endJob_writes route ho, by simp, by simp,
    fun h => ?_⟩
  · simp [MeterRecord.plus, JobContext.endCounts, FundsOf.only, hk]
  · rw [endJob_notices route h]
    simp [JobContext.endItems, hn, hk]

end

/-! ### Where a job is said to end -/

/-- The end of a job does not depend on what its settlement did on the way: the amounts and counts, the counters, the
stored records, the path, the notices and the time are those of the state it is said of. -/
theorem State.jobEnded.of_same {x s t : State} {n : Nat} {kind : FundingKind} {route : Route} {reason : Option CloseReason}
    (h : x.jobEnded n kind route reason t) (hj : x.job.ended = s.job.ended)
    (hm : x.meter.record.counters = s.meter.record.counters) (hr : x.store.records = s.store.records)
    (ho : s.store.orderly → x.store.orderly) (hp : x.path = s.path) (hn : x.port.notices = s.port.notices)
    (ht : x.timeBase = s.timeBase) : s.jobEnded n kind route reason t := by
  obtain ⟨job, refund, place, meter, records, last, pathState, queue, notice⟩ := h
  have usage : x.job.ctx.usage = s.job.ctx.usage := by
    simpa [JobUnit.ended, JobContext.ended] using congrArg (fun j : JobUnit => j.ctx.usage) hj
  have lost : x.job.ctx.lost = s.job.ctx.lost := by
    simpa [JobUnit.ended, JobContext.ended] using congrArg (fun j : JobUnit => j.ctx.lost) hj
  have redone : x.job.ctx.redone = s.job.ctx.redone := by
    simpa [JobUnit.ended, JobContext.ended] using congrArg (fun j : JobUnit => j.ctx.redone) hj
  have charged : x.job.ctx.charged = s.job.ctx.charged := by
    simpa [JobUnit.ended, JobContext.ended] using congrArg (fun j : JobUnit => j.ctx.charged) hj
  exact ⟨job.trans hj, refund, place, hm ▸ meter, hr ▸ records, fun h => last (ho h), hp ▸ pathState, hp ▸ queue,
    fun h => by simpa only [hn, ht, usage, lost, redone, charged] using notice (by rw [hn]; exact h)⟩

/-- A result placed after the end of a job leaves that end as it is. -/
theorem State.jobEnded.complete {s t : State} {n : Nat} {kind : FundingKind} {route : Route} {reason : Option CloseReason}
    (h : s.jobEnded n kind route reason t) (r : Reason) (v : Values) :
    s.jobEnded n kind route reason (Machine.complete r v t) := by
  simpa only [State.jobEnded, complete_job, complete_card, complete_settle, complete_meter, complete_store,
    complete_path, complete_port_notices] using h

end Sys2Proof.Machine
end

section
/-! ## The answer to a post (R21, R23, R148) -/

namespace Sys2Proof.Machine

/-- The context with a home's figure for the posted amount (R148). -/
def JobContext.acknowledging (c : JobContext) (part : AccountPart) (posted : Nat) : JobContext :=
  { c with account := some { part with acked := posted } }

theorem acknowledge_eq {s : State} {part : AccountPart} (ha : s.job.ctx.account = some part) (posted : Nat) :
    acknowledge posted s = s.setCtx (s.job.ctx.acknowledging part posted) := by
  rw [acknowledge, ha]
  rfl

/-- What the checkpoint of a job holds after a home's figure and with any top-up state (R25, R148). -/
theorem JobContext.acknowledging_checkpoint {c : JobContext} {k : Checkpoint} (hk : c.checkpoint = some k)
    (part : AccountPart) (posted : Nat) (topUp : TopUp) :
    ({ c.acknowledging part posted with topUp := topUp } : JobContext).checkpoint =
      some { k with account := some { part with acked := posted } } := by
  obtain ⟨n, kind, hserial, hfunding, hstate, rfl⟩ := JobContext.checkpoint_eq_some.mp hk
  exact JobContext.checkpoint_eq_some.mpr ⟨n, kind, hserial, hfunding, hstate, rfl⟩

section
variable {s : State} {part : AccountPart} {a : PostAnswerFields} (ha : s.job.ctx.account = some part)
include ha

theorem periodicOutcome_ok (h : a.status = Reason.ok.code) : periodicOutcome (.answer (.postAnswer a)) s =
    writeCheckpoint (s.setCtx (s.job.ctx.acknowledging part a.posted)) := by
  rw [← acknowledge_eq ha]
  exact if_pos h

theorem periodicOutcome_late (h : a.status = Reason.late.code) : periodicOutcome (.answer (.postAnswer a)) s =
    writeCheckpoint (raiseNotice .fundsLapsed
      (s.setCtx { s.job.ctx.acknowledging part a.posted with topUp := .permanent })) := by
  have notOk : ¬ a.status = Reason.ok.code := by rw [h]; decide
  calc periodicOutcome (.answer (.postAnswer a)) s
      = writeCheckpoint (raiseNotice .fundsLapsed (topUpLapsed (acknowledge a.posted s))) :=
        (if_neg notOk).trans (if_pos h)
    _ = _ := by rw [acknowledge_eq ha]; rfl

omit ha in
theorem periodicOutcome_notHome (h : a.status = Reason.notHome.code) :
    periodicOutcome (.answer (.postAnswer a)) s = s := by
  have notOk : ¬ a.status = Reason.ok.code := by rw [h]; decide
  have notLate : ¬ a.status = Reason.late.code := by rw [h]; decide
  exact ((if_neg notOk).trans (if_neg notLate)).trans (if_pos h)

theorem finalAcknowledged_cases (posted : Nat) : finalAcknowledged posted s = s ∨
    finalAcknowledged posted s = writeCheckpoint (s.setCtx (s.job.ctx.acknowledging part posted)) := by
  unfold finalAcknowledged
  split
  · exact .inl rfl
  · exact .inr (by rw [acknowledge_eq ha])

theorem finalOutcome_failed (hs : s.job.ctx.state = .settling) (hok : a.status ≠ Reason.ok.code)
    (hlate : a.status ≠ Reason.late.code) : finalOutcome (.answer (.postAnswer a)) s =
      endJob .posted (raiseNotice (.settle
        (.postFailed part.home part.hold part.number a.status ((s.job.ctx.charged : Int) - part.acked))) s) := by
  simp [finalOutcome, whenSettling, hs, hok, hlate, finalFailed, ha]

omit ha in
theorem finalOutcome_taken (hs : s.job.ctx.state = .settling)
    (h : a.status = Reason.ok.code ∨ a.status = Reason.late.code) :
    finalOutcome (.answer (.postAnswer a)) s = endJob .posted (finalAcknowledged a.posted s) := by
  simp [finalOutcome, whenSettling, hs, h]

end

theorem endJob_waiting (route : Route) (s : State) : (endJob route s).job.waiting = [] := by
  rw [endJob_job]; rfl

/-- A final post taken by the home ends the job, its figure checkpointed or not (R23, R148). -/
theorem finalTaken_jobEnded {s : State} {part : AccountPart} {n : Nat} {kind : FundingKind}
    (ha : s.job.ctx.account = some part) (hn : s.job.ctx.serial = some n) (hk : s.job.ctx.funding = some kind)
    (posted : Nat) :
    s.jobEnded n kind .posted s.job.ctx.closeReason (endJob .posted (finalAcknowledged posted s)) := by
  rcases finalAcknowledged_cases ha posted with h | h <;> rw [h]
  · exact endJob_jobEnded .posted hn hk
  · have ended := endJob_jobEnded .posted
      (s := writeCheckpoint (s.setCtx (s.job.ctx.acknowledging part posted))) (n := n) (kind := kind)
      (by simpa [State.setCtx, JobContext.acknowledging] using hn)
      (by simpa [State.setCtx, JobContext.acknowledging] using hk)
    have reason : (writeCheckpoint (s.setCtx (s.job.ctx.acknowledging part posted))).job.ctx.closeReason =
        s.job.ctx.closeReason := by simp [State.setCtx, JobContext.acknowledging]
    rw [reason] at ended
    refine ended.of_same ?_ ?_ ?_ (fun ho => writeCheckpoint_orderly (s := s.setCtx _) ho) ?_ ?_ ?_
    · simp [State.setCtx, JobContext.acknowledging, JobUnit.ended, JobContext.ended]
    · simp [State.setCtx]
    · simp [State.setCtx]
    · simp [State.setCtx]
    · simp [State.setCtx]
    · simp [State.setCtx]

/-- Settles O38: the answer is matched by `hearFrame_jobAnswer`; the outcome goes by the kind of post and the status. -/
theorem postAnswerAcknowledges : Obligations.PostAnswerAcknowledges := by
  unfold Obligations.PostAnswerAcknowledges
  intro s head a e part r k h hown hq he hsource hdest hnumber hbody hw hac hl hk ho hroom c part1 line saved
  have answered : exec (.postAnswer head a) s =
      .next (pumpJob (if r.final then finalOutcome (.answer (.postAnswer a)) (s.setLine line)
        else periodicOutcome (.answer (.postAnswer a)) (s.setLine line))) := by
    show execPostAnswer head a s = _
    rw [execPostAnswer, whenPowered_on _ _ h.1, hearFrame_jobAnswer h hq he hsource hdest hnumber (by rw [hbody]; rfl),
      hbody, jobOutcome_post]
  have idle : line.inProgress = none := rfl
  have writes (topUp : TopUp) (x : State) (hx : x.store = s.store)
      (hjob : x.job.ctx = { c.acknowledging part a.posted with topUp := topUp }) :
      (writeCheckpoint x).store.writes = s.store.writes ++ [saved] := by
    rw [writeCheckpoint_writes (by rw [hx]; exact ho)
      (by rw [hjob]; exact JobContext.acknowledging_checkpoint hk part a.posted topUp), hx]
  refine ⟨fun hfinal hok => ?_, fun hfinal hlate => ?_, fun hfinal hnot => ?_, fun n kind hfinal hstate hn hkind =>
    ⟨fun hstatus => ?_, fun hok hlate hroom' => ?_⟩⟩
  · rw [answered, if_neg (by simp [hfinal]), periodicOutcome_ok (by exact hac) hok,
      pumpJob_none (by simpa [State.setCtx] using hw)]
    refine ⟨_, rfl, ?_, ?_, ?_, ?_⟩
    · simp [State.setCtx]
    · simp [State.setCtx, JobContext.acknowledging, c, part1]
    · exact writes c.topUp _ rfl rfl
    · simp [State.setCtx, State.unchangedBut]
  · rw [answered, if_neg (by simp [hfinal]), periodicOutcome_late (by exact hac) hlate,
      pumpJob_none (by simpa [State.setCtx] using hw)]
    refine ⟨_, rfl, ?_, ?_, ?_, ?_, ?_⟩
    · simp [State.setCtx]
    · simp [State.setCtx, JobContext.acknowledging, c, part1]
    · simp [State.setCtx, raiseNotice_port, hroom]
    · exact writes .permanent _ (by simp [State.setCtx]) (by simp [State.setCtx, c])
    · simp [State.setCtx, State.unchangedBut]
  · rw [answered, if_neg (by simp [hfinal]), periodicOutcome_notHome hnot, pumpJob_none (by exact hw)]
    rfl
  · rw [answered, if_pos hfinal, finalOutcome_taken (by exact hstate) hstatus, pumpJob_none (endJob_waiting _ _)]
    have acknowledged := finalAcknowledged_cases (s := s.setLine line) hac a.posted
    refine ⟨_, rfl, finalTaken_jobEnded (s := s.setLine line) hac hn hkind a.posted, ?_, ?_⟩
    · refine endJob_inProgress _ ?_
      rcases acknowledged with h | h <;> simp [h, State.setCtx, idle]
    · rcases acknowledged with h | h <;> simp [h, State.setCtx, State.unchangedBut]
  · intro failed
    rw [answered, if_pos hfinal, finalOutcome_failed (by exact hac) (by exact hstate) hok hlate,
      pumpJob_none (endJob_waiting _ _)]
    refine ⟨_, rfl, ?_, ?_, ?_⟩
    · have ended := endJob_jobEnded .posted (s := raiseNotice failed.body (s.setLine line)) (n := n) (kind := kind)
        (by simpa using hn) (by simpa using hkind)
      rw [raiseNotice_job] at ended
      exact ended.of_same (by simp) (by simp) (by simp) (by simp) (by simp) (by simp [raiseNotice_port, hroom, failed])
        (by simp)
    · exact endJob_inProgress _ (by simpa using idle)
    · simp [State.unchangedBut]

end Sys2Proof.Machine
end

section
/-! ## The settlement routes of a job (R22, R23, R91, R93, R155) -/

namespace Sys2Proof.Machine

/-! ### The reserved entries -/

/-- A settlement that fills its refund-list entry (R93). -/
theorem fillRefund_card (serial tag charged : Nat) (s : State) : (fillRefund serial tag charged s).card =
    { s.card with refunds := withEntry serial tag charged s.card.refunds, refundReserved := false } := by
  simp [fillRefund, setRefunds, withEntry, RefundEntry.names]

theorem fillRefund_orderly {s : State} (ho : s.store.orderly) (serial tag charged : Nat) :
    (fillRefund serial tag charged s).store.orderly :=
  submit_orderly _ _ ((s.setCard _).setCard _) ho

@[simp] theorem fillRefund_records (serial tag charged : Nat) (s : State) :
    (fillRefund serial tag charged s).store.records = s.store.records := by
  simp [fillRefund, setRefunds]

theorem mem_fillRefund (serial tag charged : Nat) (s : State) :
    .refunds (withEntry serial tag charged s.card.refunds) ∈ (fillRefund serial tag charged s).store.writes := by
  have list : (fillRefund serial tag charged s).card.refunds = withEntry serial tag charged s.card.refunds := by
    rw [fillRefund_card]
  rw [← list]
  simpa [fillRefund, setRefunds] using mem_submit (by rfl) _

theorem addOutbound_eq (e : OutEntry) (s : State) : addOutbound e s =
    submit .plain (.outbound (withOutbound e s.settle.queue))
      (s.setSettle { s.settle with queue := withOutbound e s.settle.queue }) := rfl

/-! ### The routes -/

theorem settleableImage_eq_some {s : State} {card tag charged : Nat} {i : PurseImage} :
    s.settleableImage card tag charged = some i ↔ s.settleable card tag charged i := by
  have own (p : Purse) : s.escrowIsOwn p = true ↔ p.escrow ≠ 0 ∧ p.station = some (s.options.station.getD 0) := by
    simp [State.escrowIsOwn, State.cardStation]
  unfold State.settleableImage State.settleable
  split
  next j hj =>
    rw [Option.ite_none_right_eq_some]
    constructor
    · rintro ⟨⟨serial, held, htag, hcharged⟩, same⟩
      obtain rfl : j = i := Option.some.inj same
      exact ⟨writableImage_eq_some.mp hj, serial, ((own _).mp held).1, ((own _).mp held).2, htag, hcharged⟩
    · rintro ⟨writable, serial, hescrow, hstation, htag, hcharged⟩
      obtain rfl : j = i := Option.some.inj (hj.symm.trans (writableImage_eq_some.mpr writable))
      exact ⟨⟨serial, (own _).mpr ⟨hescrow, hstation⟩, htag, hcharged⟩, rfl⟩
  next hn =>
    refine ⟨fun h => absurd h (by simp), fun h => ?_⟩
    exact absurd (writableImage_eq_some.mpr h.1) (by simp [hn])

section
variable {s : State} {card tag : Nat}

/-- The charged total is left to the refund list (R22, R93). -/
theorem settleByRefund_eq (hs : s.job.ctx.state = .settling) (hp : s.job.ctx.purse = some { card := card, tag := some tag }) :
    settleByRefund s = endJob .refundList (fillRefund card tag s.job.ctx.charged s) := by
  simp [settleByRefund, whenSettling, hs, hp]

theorem settlePurse_unmoved (hf : s.job.ctx.funded = 0) : settlePurse s = endJob .card s := if_pos hf

/-- A purse job whose escrow stands on its card in the slot is settled there (R22, R91). -/
theorem settlePurse_onCard {i : PurseImage} (hf : s.job.ctx.funded ≠ 0)
    (hp : s.job.ctx.purse = some { card := card, tag := some tag }) (h : s.settleable card tag s.job.ctx.charged i) :
    settlePurse s = s.setCard
      (s.card.writes .jobSettlement i.slot (i.purse.settledTo s.job.ctx.charged) s.timeBase) := by
  rw [settlePurse, if_neg hf, hp]
  dsimp only
  rw [settleableImage_eq_some.mpr h]
  exact startWrite_eq _ _ _ _

theorem settlePurse_byRefund (hs : s.job.ctx.state = .settling) (hf : s.job.ctx.funded ≠ 0)
    (hp : s.job.ctx.purse = some { card := card, tag := some tag })
    (h : ∀ i, ¬ s.settleable card tag s.job.ctx.charged i) :
    settlePurse s = endJob .refundList (fillRefund card tag s.job.ctx.charged s) := by
  have none : s.settleableImage card tag s.job.ctx.charged = none :=
    Option.eq_none_iff_forall_not_mem.mpr fun i hi => h i (settleableImage_eq_some.mp hi)
  rw [settlePurse, if_neg hf, hp]
  dsimp only
  rw [none]
  exact settleByRefund_eq hs hp

end

/-- With nothing waiting the final post is asked for by the rules of one request (R23). -/
theorem settleAccount_eq {s : State} (hw : s.job.waiting = []) : settleAccount s = askJob .finalPost s := by
  have same : s.setJob { s.job with waiting := s.job.waiting.filter fun r => r != .periodicPost } = s := by
    rw [hw, List.filter_nil]
    exact setJob_noneWaiting hw
  rw [settleAccount, same, ite_self]

/-- The outbound entry of a job's final post (R155). -/
def JobContext.outEntry (c : JobContext) (a : AccountPart) : OutEntry :=
  .finalPost a.home a.hold a.number c.charged c.usage a.acked (c.funding == some .offline)

/-- The part with a job's outbound entry filled (R153, R155). -/
def queueFilled (a : AccountPart) (s : State) : State :=
  addOutbound (s.job.ctx.outEntry a) (s.setSettle { s.settle with reservedJob := false })

theorem settleByQueue_eq {s : State} {a : AccountPart} (hs : s.job.ctx.state = .settling)
    (ha : s.job.ctx.account = some a) : settleByQueue s = endJob .queued (queueFilled a s) := by
  simp only [settleByQueue, whenSettling, hs, ha, if_true]
  rfl

/-! ### CLOSE JOB -/

/-- The part once CLOSE JOB is taken, its job closed and SETTLING (R19). -/
def closing (s : State) : State :=
  (commandTaken .closeJob s).setJob
    { s.job with ctx := { s.job.ctx with state := .settling, closeReason := some .closed }, postDue := none }

/-- The result of CLOSE JOB (R19; log 13). -/
def closeResult (s : State) : State := complete .ok (.jobState s.job.ctx.state) s

/-- CLOSE JOB of a job whose path is empty begins its settlement route (R19, R22, R23). -/
theorem execCloseJob_settles {s : State} (ha : s.accepts)
    (hs : (s.job.ctx.state = .running ∧ s.path.queue = []) ∨ s.job.ctx.state = .halted) :
    exec (.closeJob []) s = .next (closeResult (if s.job.ctx.funding = some .purse
      then settlePurse (closing s) else settleAccount (closing s))) := by
  have stops : stopFeeding .closed (commandTaken .closeJob s) =
      if s.job.ctx.funding = some .purse then settlePurse (closing s)
      else settleAccount (closing s) := by
    rcases hs with ⟨hs, hq⟩ | hs <;>
      simp [stopFeeding, enterSettling, closing, State.setCtx, *] <;> rfl
  rw [execCloseJob_taken ha, closeJob, stops, commandTaken_job]
  rcases hs with ⟨hs, -⟩ | hs <;> rw [hs] <;> rfl

/-! ### What a route leaves to the end of its job -/

/-- A route's own step before the end of the job: what the end of a job is said of is as it was (R22, R23). -/
structure State.routeKeeps (x y : State) : Prop where
  job : y.job = x.job
  meter : y.meter = x.meter
  records : y.store.records = x.store.records
  orderly : x.store.orderly → y.store.orderly
  path : y.path = x.path
  port : y.port = x.port
  timeBase : y.timeBase = x.timeBase

theorem State.routeKeeps.refl (x : State) : x.routeKeeps x := ⟨rfl, rfl, rfl, id, rfl, rfl, rfl⟩

theorem fillRefund_routeKeeps (serial tag charged : Nat) (x : State) : x.routeKeeps (fillRefund serial tag charged x) :=
  ⟨by simp, by simp, by simp, fun ho => fillRefund_orderly ho _ _ _, by simp, by simp, by simp⟩

theorem queueFilled_routeKeeps (a : AccountPart) (x : State) : x.routeKeeps (queueFilled a x) := by
  refine ⟨by simp [queueFilled], by simp [queueFilled], ?_, fun ho => ?_, by simp [queueFilled], by simp [queueFilled],
    by simp [queueFilled]⟩
  · rw [queueFilled, addOutbound_eq, submit_records]
    rfl
  · exact submit_orderly _ _ ((x.setSettle _).setSettle _) ho

theorem State.routeKeeps.jobEnded {x y : State} (h : x.routeKeeps y) {n : Nat} {kind : FundingKind}
    (hn : x.job.ctx.serial = some n) (hk : x.job.ctx.funding = some kind) (route : Route) :
    x.jobEnded n kind route x.job.ctx.closeReason (endJob route y) := by
  have ended := endJob_jobEnded route (s := y) (n := n) (kind := kind) (by rw [h.job]; exact hn) (by rw [h.job]; exact hk)
  rw [h.job] at ended
  exact ended.of_same (by rw [h.job]) (by rw [h.meter]) h.records h.orderly h.path (by rw [h.port]) h.timeBase

/-- CLOSE JOB of a job whose route ends at once (R19, R24). -/
theorem closeResult_ended {s y : State} (h : (closing s).routeKeeps y) {n : Nat}
    {kind : FundingKind} (hn : s.job.ctx.serial = some n) (hk : s.job.ctx.funding = some kind) (route : Route) :
    (closeResult (endJob route y)).holdsResult .closeJob .ok (.jobState .none) ∧
      (discardResult s).jobEnded n kind route (some .closed) (closeResult (endJob route y)) := by
  constructor
  · have port : (endJob route y).port.state = .executing .closeJob := by rw [endJob_port_state, h.port]; rfl
    have none : (endJob route y).job.ctx.state = .none := by rw [endJob_job]; rfl
    rw [closeResult, none]
    exact complete_holdsResult _ _ port
  · have ended := h.jobEnded (n := n) (kind := kind) (by simpa [closing] using hn) (by simpa [closing] using hk) route
    have reason : (closing s).job.ctx.closeReason = some .closed := rfl
    rw [reason] at ended
    have here : (discardResult s).jobEnded n kind route (some .closed) (endJob route y) :=
      ended.of_same (by simp [closing, JobUnit.ended, JobContext.ended]) (by simp [closing]) (by simp [closing])
        (by simp [closing]) (by simp [closing]) (by simp [closing]) (by simp [closing])
    exact here.complete _ _

/-- CLOSE JOB of a job whose settlement is still under way (R19, R22, R23). -/
theorem closeResult_settling {s t : State} (hj : t.job = (closing s).job)
    (hp : t.port.state = .executing .closeJob) :
    (closeResult t).holdsResult .closeJob .ok (.jobState .settling) ∧
      (closeResult t).job = { s.job with
        ctx := { s.job.ctx with state := .settling, closeReason := some .closed }, postDue := none } := by
  constructor
  · have state : t.job.ctx.state = .settling := by rw [hj]; rfl
    rw [closeResult, state]
    exact complete_holdsResult _ _ hp
  · rw [closeResult, complete_job, hj]
    simp [closing]

end Sys2Proof.Machine
end

section
/-! ## CLOSE JOB and the settlement write of its job (R19, R22, R23, R89) -/

namespace Sys2Proof.Machine

/-- The answers of CLOSE JOB to a job that does not begin its settlement (R19). -/
theorem execCloseJob_stays {s : State} (ha : s.accepts) (hs : s.job.ctx.state = .draining ∨ s.job.ctx.state = .settling) :
    exec (.closeJob []) s = .next (answered .closeJob .ok (.jobState s.job.ctx.state) s) := by
  rcases hs with hs | hs <;>
    simp [execCloseJob_taken ha, closeJob, stopFeeding, hs]

/-- A RUNNING job with sheets in the path drains (R19). -/
theorem execCloseJob_drains {s : State} (ha : s.accepts) (hs : s.job.ctx.state = .running) (hq : s.path.queue ≠ []) :
    exec (.closeJob []) s = .next (closeResult ((commandTaken .closeJob s).setJob
      { s.job with ctx := { s.job.ctx with state := .draining, closeReason := some .closed } })) := by
  simp [execCloseJob_taken ha, closeJob, stopFeeding, hs, hq, closeResult, State.setCtx]
  rfl

/-- A settlement write acknowledged ends a job that was not interrupted (R22). -/
theorem settlementWritten_ends {s : State} (hs : s.job.ctx.state = .settling)
    (hr : s.job.ctx.closeReason ≠ some .interrupted) : settlementWritten s = endJob .card s := by
  rw [settlementWritten, whenSettling, if_pos hs]
  cases h : s.job.ctx.closeReason with
  | none => rfl
  | some reason => cases reason <;> simp_all

/-- A settlement write that gets no acknowledgement in its time leaves its job to the refund list, and the card is read
again (R22, R89). -/
theorem execCardAnswerDeadline_settlement {s : State} {record card tag : Nat} {bytes : List Byte} {t0 : TimePoint}
    {p : Purse} (hp : s.powered = true) (hreq : s.card.request = some (.write record bytes, t0))
    (ht : 20 ≤ elapsed s.timeBase t0) (hw : s.card.writing = some { purpose := .jobSettlement, purse := p })
    (hs : s.job.ctx.state = .settling) (hpart : s.job.ctx.purse = some { card := card, tag := some tag }) :
    exec .cardAnswerDeadline s =
      .next (endJob .refundList (fillRefund card tag s.job.ctx.charged (beginReading s))) := by
  show whenDue State.cardLate s cardSilent = _
  rw [whenDue_on _ _ _ hp (by simp [State.cardLate, hreq, ht]), cardSilent, hw]
  exact congrArg _ (settleByRefund_eq (by exact hs) (by exact hpart))

/-- A settlement write acknowledged in its time (R22, R88). -/
theorem execCardWriteAck_settlement {s : State} {record : Nat} {bytes : List Byte} {t0 : TimePoint} {p : Purse}
    {i : PurseImage} (hp : s.powered = true) (hreq : s.card.request = some (.write record bytes, t0))
    (ht : elapsed s.timeBase t0 ≤ 20) (hw : s.card.writing = some { purpose := .jobSettlement, purse := p })
    (hi : s.card.image = some i) (hs : s.job.ctx.state = .settling) (hr : s.job.ctx.closeReason ≠ some .interrupted) :
    exec .cardWriteAck s = .next (endJob .card (s.setCard
      { s.card with writing := none, request := none, image := some (i.wrote p) })) := by
  rw [execCardWriteAck_taken hp hreq ht hw hi, ← settlementWritten_ends (by exact hs) (by exact hr)]
  rfl

theorem setCard_routeKeeps (c : CardUnit) (s : State) : s.routeKeeps (s.setCard c) :=
  ⟨rfl, rfl, rfl, id, rfl, rfl, rfl⟩

theorem State.routeKeeps.trans {x y z : State} (h : x.routeKeeps y) (h' : y.routeKeeps z) : x.routeKeeps z :=
  ⟨h'.job.trans h.job, h'.meter.trans h.meter, h'.records.trans h.records, h'.orderly ∘ h.orderly,
    h'.path.trans h.path, h'.port.trans h.port, h'.timeBase.trans h.timeBase⟩

/-! ### CLOSE JOB, route by route -/

section
variable {s : State} (ha : s.accepts) (hs : (s.job.ctx.state = .running ∧ s.path.queue = []) ∨ s.job.ctx.state = .halted)
include ha hs

section
variable (hk : s.job.ctx.funding = some .purse)
include hk

theorem execCloseJob_purse : exec (.closeJob []) s = .next (closeResult (settlePurse (closing s))) := by
  rw [execCloseJob_settles ha hs, if_pos hk]

theorem execCloseJob_unmoved (hf : s.job.ctx.funded = 0) :
    exec (.closeJob []) s = .next (closeResult (endJob .card (closing s))) := by
  rw [execCloseJob_purse ha hs hk, settlePurse_unmoved (by simpa [closing] using hf)]

variable {card tag : Nat} (hf : s.job.ctx.funded ≠ 0)
  (hpart : s.job.ctx.purse = some { card := card, tag := some tag })
include hf hpart

theorem execCloseJob_onCard {i : PurseImage} (hi : s.settleable card tag s.job.ctx.charged i) :
    exec (.closeJob []) s = .next (closeResult ((closing s).setCard
      (s.card.writes .jobSettlement i.slot (i.purse.settledTo s.job.ctx.charged) s.timeBase))) := by
  have onCard : (closing s).settleable card tag (closing s).job.ctx.charged i := by
    simpa [closing, State.settleable] using hi
  rw [execCloseJob_purse ha hs hk, settlePurse_onCard (by exact hf) (by exact hpart) onCard]
  simp [closing]

theorem execCloseJob_byRefund (hno : ∀ i, ¬ s.settleable card tag s.job.ctx.charged i) :
    exec (.closeJob []) s = .next (closeResult
      (endJob .refundList (fillRefund card tag s.job.ctx.charged (closing s)))) := by
  have notOnCard (i : PurseImage) : ¬ (closing s).settleable card tag (closing s).job.ctx.charged i := by
    simpa [closing, State.settleable] using hno i
  rw [execCloseJob_purse ha hs hk, settlePurse_byRefund (by rfl) (by exact hf) (by exact hpart) notOnCard]
  rfl

end

variable {a : AccountPart} (hk : s.job.ctx.funding ≠ some .purse) (hac : s.job.ctx.account = some a)
  (hw : s.job.waiting = [])
include hk hac hw

omit hac in
theorem execCloseJob_post : exec (.closeJob []) s = .next (closeResult (askJob .finalPost (closing s))) := by
  rw [execCloseJob_settles ha hs, if_neg hk, settleAccount_eq (by exact hw)]

theorem execCloseJob_own (hl : a.home = a.hold.station) (hb : s.ownBusy .job = false) :
    exec (.closeJob []) s = .next (closeResult (handOwn .job (s.job.ctx.body .finalPost) (closing s))) := by
  have free : (closing s).ownBusy .job = false := by simpa [closing, State.ownBusy] using hb
  rw [execCloseJob_post ha hs hk hw, askJob_own (by exact hw) ((jobIsLocal_iff (by exact hac)).mpr hl) free]
  rfl

variable (hl : a.home ≠ a.hold.station) (hb : s.slotBusy .job = false)
include hl hb

theorem execCloseJob_line (hm : s.line.state = .member) :
    exec (.closeJob []) s = .next (closeResult
      (askExchange .job a.home (s.job.ctx.body .finalPost) (s.job.ctx.attempts .finalPost) (closing s))) := by
  have away : (closing s).jobIsLocal = false := by simpa [hl] using jobIsLocal_iff (s := closing s) hac
  have slot : (closing s).slotBusy .job = false := by simpa [closing, State.slotBusy] using hb
  have home : ((closing s).job.ctx.account.map AccountPart.home).getD 0 = a.home := by simp [closing, hac]
  rw [execCloseJob_post ha hs hk hw, askJob_line (by exact hw) away (by simpa [closing] using hm) slot, home]
  rfl

theorem execCloseJob_queued (hm : s.line.state ≠ .member) :
    exec (.closeJob []) s = .next (closeResult (endJob .queued (queueFilled a (closing s)))) := by
  have away : (closing s).jobIsLocal = false := by simpa [hl] using jobIsLocal_iff (s := closing s) hac
  have slot : (closing s).slotBusy .job = false := by simpa [closing, State.slotBusy] using hb
  rw [execCloseJob_post ha hs hk hw, askJob_noLine (by exact hw) away (by simpa [closing] using hm) slot,
    jobRequestNoLine, settleByQueue_eq (by rfl) (by exact hac)]

end

theorem queueFilled_settle (a : AccountPart) (s : State) : (queueFilled a s).settle =
    { s.settle with queue := withOutbound (s.job.ctx.outEntry a) s.settle.queue, reservedJob := false } := by
  rw [queueFilled, addOutbound_eq, submit_settle]
  rfl

theorem mem_queueFilled (a : AccountPart) (s : State) :
    .outbound (withOutbound (s.job.ctx.outEntry a) s.settle.queue) ∈ (queueFilled a s).store.writes := by
  rw [queueFilled, addOutbound_eq]
  exact mem_submit rfl _

theorem JobContext.body_finalPost {c : JobContext} {a : AccountPart} {k : FundingKind} (ha : c.account = some a)
    (hk : c.funding = some k) : c.body .finalPost = .post
      { hold := a.hold, account := a.number, charged := c.charged, usage := c.usage, final := true
        offline := decide (k = .offline) } := by
  cases k <;> simp [JobContext.body, ha, hk]

theorem JobContext.outEntry_eq {c : JobContext} {k : FundingKind} (a : AccountPart) (hk : c.funding = some k) :
    c.outEntry a =
      .finalPost a.home a.hold a.number c.charged c.usage a.acked (decide (k = .offline)) := by
  cases k <;> simp [JobContext.outEntry, hk]

/-- Settles O18: the refusals by state, each settlement route by its lemma, and the two ends of a settlement write. -/
theorem closeJobByTheJobState : Obligations.CloseJobByTheJobState := by
  unfold Obligations.CloseJobByTheJobState
  refine ⟨fun s ha => ⟨fun hs => ?_, fun hs => ?_, execCloseJob_stays ha, fun hs hq => ?_, fun n k hs hn hk => ?_⟩,
    fun s record card tag n bytes p i t0 hp hreq hw hi hs hn hk hpart => ⟨fun ht hr => ?_, fun ht => ?_⟩⟩
  · simp [execCloseJob_taken ha, closeJob, hs]
  · simp [execCloseJob_taken ha, closeJob, hs]
  · refine ⟨_, execCloseJob_drains ha hs hq, complete_holdsResult _ _ rfl, ?_, ?_⟩
    · simp [closeResult]
    · simp [closeResult, State.unchangedBut]
  · intro c settling ended
    refine ⟨fun hkind hf => ?_, fun card tag hkind hf hpart => ⟨fun i hi => ?_, fun hno => ?_⟩, fun a hkind hac hw => ?_⟩
    · obtain ⟨result, ends⟩ := closeResult_ended (State.routeKeeps.refl _) hn hk .card
      refine ⟨_, execCloseJob_unmoved ha hs (hkind ▸ hk) hf, ⟨result, ends, ?_⟩, ?_, ?_⟩
      · simp [closeResult, closing, State.unchangedBut]
      · simp [closeResult, closing]
      · simp [closeResult, closing]
    · refine ⟨_, execCloseJob_onCard ha hs (hkind ▸ hk) hf hpart hi,
        ⟨(closeResult_settling rfl rfl).1, (closeResult_settling rfl rfl).2, ?_⟩, ?_⟩
      · simp [closeResult, closing, State.unchangedBut]
      · simp [closeResult, c]
    · obtain ⟨result, ends⟩ := closeResult_ended (fillRefund_routeKeeps card tag c.charged (closing s)) hn hk .refundList
      have card_eq : (closing s).card = s.card := by simp [closing]
      refine ⟨_, execCloseJob_byRefund ha hs (hkind ▸ hk) hf hpart hno, ⟨result, ends, ?_⟩, ?_, ?_, ?_⟩
      · simp [closeResult, closing, State.unchangedBut]
      · rw [closeResult, complete_card, endJob_card, fillRefund_card, card_eq]
      · simp [closeResult, closing]
      · rw [closeResult, complete_store, ← card_eq]
        exact mem_endJob _ (mem_fillRefund card tag _ _) rfl
    · have notPurse : s.job.ctx.funding ≠ some .purse := by rcases hkind with rfl | rfl <;> simp [hk]
      have body := JobContext.body_finalPost (c := s.job.ctx) hac hk
      refine ⟨fun hl hb => ?_, fun hl hm hb => ?_, fun hl hm hb => ?_⟩
      · refine ⟨_, execCloseJob_own ha hs notPurse hac hw hl hb,
          ⟨(closeResult_settling rfl rfl).1, (closeResult_settling rfl rfl).2, ?_⟩, ?_⟩
        · simp [closeResult, closing, handOwn, State.unchangedBut]
        · simp [closeResult, closing, handOwn, body, c]
      · refine ⟨_, execCloseJob_line ha hs notPurse hac hw hl hb hm,
          ⟨(closeResult_settling rfl rfl).1, (closeResult_settling rfl rfl).2, ?_⟩, ?_⟩
        · simp [closeResult, closing, askExchange, State.unchangedBut]
        · simp [closeResult, closing, askExchange, body, JobContext.attempts, hk, c]
      · have entry : (closing s).job.ctx.outEntry a = _ := JobContext.outEntry_eq a hk
        have settle_eq : (closing s).settle = s.settle := by simp [closing]
        have filled := mem_queueFilled a (closing s)
        rw [entry, settle_eq] at filled
        obtain ⟨result, ends⟩ := closeResult_ended (queueFilled_routeKeeps a (closing s)) hn hk .queued
        refine ⟨_, execCloseJob_queued ha hs notPurse hac hw hl hb hm, ⟨result, ends, ?_⟩, ?_, ?_, ?_⟩
        · simp [closeResult, closing, queueFilled, State.unchangedBut]
        · rw [closeResult, complete_settle, endJob_settle, queueFilled_settle, entry, settle_eq]
          rfl
        · simp [closeResult, closing, queueFilled]
        · rw [closeResult, complete_store]
          exact mem_endJob _ filled rfl
  · refine ⟨_, execCardWriteAck_settlement hp hreq ht hw hi hs hr, (setCard_routeKeeps _ s).jobEnded hn hk .card, ?_, ?_⟩
    · rw [endJob_card]
      rfl
    · simp [State.unchangedBut]
  · intro list
    have reading : s.routeKeeps (beginReading s) := setCard_routeKeeps _ s
    refine ⟨_, execCardAnswerDeadline_settlement hp hreq ht hw hs hpart,
      (reading.trans (fillRefund_routeKeeps card tag _ _)).jobEnded hn hk .refundList, ?_, ?_, ?_⟩
    · rw [endJob_card, fillRefund_card]
      rfl
    · exact mem_endJob _ (mem_fillRefund card tag _ _) rfl
    · simp [beginReading, sendCard, State.unchangedBut]

end Sys2Proof.Machine
end

section
/-! ## The law of rounding (R36): its parts, and what leaves them alone -/

namespace Sys2Proof.Machine

/-- C = round(D) in the stored checkpoint and in every checkpoint write in hand. -/
structure Store.checkpointsRounded (x : Store) : Prop where
  stored : ∀ k, x.records.checkpoint = some k → rounded k.charged k.delivered
  writes : ∀ w ∈ x.writes, w.rounds

/-- The law of rounding reads nothing but C and D of the job context, and the store. -/
theorem State.roundedTotals_iff (s : State) :
    s.roundedTotals ↔ rounded s.job.ctx.charged s.job.ctx.delivered ∧ s.store.checkpointsRounded :=
  ⟨fun ⟨hc, hs, hw⟩ => ⟨hc, hs, hw⟩, fun ⟨hc, hs, hw⟩ => ⟨hc, hs, hw⟩⟩

@[simp] theorem State.rounded_and_store (s : State) :
    rounded s.job.ctx.charged s.job.ctx.delivered ∧ s.store.checkpointsRounded ↔ s.roundedTotals :=
  s.roundedTotals_iff.symm

/-- An operation that leaves the job unit and the store alone. -/
theorem State.roundedTotals_congr {s t : State} (hj : t.job = s.job) (hs : t.store = s.store) :
    t.roundedTotals ↔ s.roundedTotals := by
  rw [State.roundedTotals_iff, State.roundedTotals_iff, hj, hs]

theorem State.roundedTotals.store {s : State} (h : s.roundedTotals) : s.store.checkpointsRounded := ⟨h.2.1, h.2.2⟩

/-- No charge has been made: C and D are 0. -/
@[simp] theorem rounded_zero : rounded 0 0 := rfl

/-- A sheet's charge is what keeps C the rounded sum (R35, R36). -/
theorem rounded.charge {charged delivered : Nat} (h : rounded charged delivered) (price : Nat) :
    rounded (charged + charge delivered price) (delivered + price) := by
  unfold rounded at h ⊢
  simp only [Machine.charge, h, roundHalfUp]
  omega

/-! ### Updates of one block, and operations that leave C, D and the store alone -/

section
variable (s : State)

@[simp] theorem setPort_roundedTotals (p : Port) : (s.setPort p).roundedTotals ↔ s.roundedTotals := Iff.rfl
@[simp] theorem setTariff_roundedTotals (t : Option Tariff) : (s.setTariff t).roundedTotals ↔ s.roundedTotals := Iff.rfl
@[simp] theorem setPath_roundedTotals (p : PathMonitor) : (s.setPath p).roundedTotals ↔ s.roundedTotals := Iff.rfl
@[simp] theorem setCard_roundedTotals (c : CardUnit) : (s.setCard c).roundedTotals ↔ s.roundedTotals := Iff.rfl
@[simp] theorem setLine_roundedTotals (l : LineUnit) : (s.setLine l).roundedTotals ↔ s.roundedTotals := Iff.rfl
@[simp] theorem setAccounts_roundedTotals (a : AccountUnit) : (s.setAccounts a).roundedTotals ↔ s.roundedTotals := Iff.rfl
@[simp] theorem setSettle_roundedTotals (u : SettlementUnit) : (s.setSettle u).roundedTotals ↔ s.roundedTotals := Iff.rfl
@[simp] theorem setMeter_roundedTotals (m : MeterUnit) : (s.setMeter m).roundedTotals ↔ s.roundedTotals := Iff.rfl
@[simp] theorem setPending_roundedTotals (l : List Instr) : (s.setPending l).roundedTotals ↔ s.roundedTotals := Iff.rfl
@[simp] theorem advanceFree_roundedTotals : (advanceFree s).roundedTotals ↔ s.roundedTotals := Iff.rfl

/-- A new job unit brings its own C and D. -/
@[simp] theorem setJob_roundedTotals (j : JobUnit) :
    (s.setJob j).roundedTotals ↔ rounded j.ctx.charged j.ctx.delivered ∧ s.store.checkpointsRounded :=
  State.roundedTotals_iff _
@[simp] theorem setCtx_roundedTotals (c : JobContext) :
    (s.setCtx c).roundedTotals ↔ rounded c.charged c.delivered ∧ s.store.checkpointsRounded :=
  State.roundedTotals_iff _

@[simp] theorem raiseNotice_roundedTotals (b : NoticeBody) : (raiseNotice b s).roundedTotals ↔ s.roundedTotals :=
  State.roundedTotals_congr (by simp) (by simp)
@[simp] theorem placeResult_roundedTotals (r : Result) : (placeResult r s).roundedTotals ↔ s.roundedTotals := Iff.rfl
@[simp] theorem complete_roundedTotals (r : Reason) (v : Values) : (complete r v s).roundedTotals ↔ s.roundedTotals :=
  State.roundedTotals_congr (by simp) (by simp)
@[simp] theorem holdResult_roundedTotals (r : Reason) (v : Values) :
    (holdResult r v s).roundedTotals ↔ s.roundedTotals :=
  State.roundedTotals_congr (by simp) (by simp)
@[simp] theorem releaseHeld_roundedTotals : (releaseHeld s).roundedTotals ↔ s.roundedTotals :=
  State.roundedTotals_congr (by simp) (by simp)
@[simp] theorem discardResult_roundedTotals : (discardResult s).roundedTotals ↔ s.roundedTotals :=
  State.roundedTotals_congr (by simp) (by simp)
@[simp] theorem askExchange_roundedTotals (x : Source) (d : Nat) (b : Payload) (n : Nat) :
    (askExchange x d b n s).roundedTotals ↔ s.roundedTotals := Iff.rfl
@[simp] theorem readyFrame_roundedTotals (p : Place) (f : Frame) : (readyFrame p f s).roundedTotals ↔ s.roundedTotals :=
  Iff.rfl
@[simp] theorem emptyPlace_roundedTotals (p : Place) : (emptyPlace p s).roundedTotals ↔ s.roundedTotals := Iff.rfl
@[simp] theorem dropExchanges_roundedTotals (x : Source) : (dropExchanges x s).roundedTotals ↔ s.roundedTotals :=
  State.roundedTotals_congr (by simp) (by simp)
@[simp] theorem markPresence_roundedTotals (n : Nat) (b : Bool) :
    (markPresence n b s).roundedTotals ↔ s.roundedTotals := Iff.rfl
@[simp] theorem handOwn_roundedTotals (o : Origin) (b : Payload) : (handOwn o b s).roundedTotals ↔ s.roundedTotals :=
  Iff.rfl
@[simp] theorem startWrite_roundedTotals (p : WritePurpose) (i : PurseImage) (q : Purse) :
    (startWrite p i q s).roundedTotals ↔ s.roundedTotals := Iff.rfl
@[simp] theorem sendCard_roundedTotals (r : CardRequest) : (sendCard r s).roundedTotals ↔ s.roundedTotals := Iff.rfl
@[simp] theorem freeCardPlace_roundedTotals : (freeCardPlace s).roundedTotals ↔ s.roundedTotals := Iff.rfl
@[simp] theorem enterPath_roundedTotals (p : PathState) : (enterPath p s).roundedTotals ↔ s.roundedTotals :=
  State.roundedTotals_congr (by simp) (by simp)
@[simp] theorem clearOnEntry_roundedTotals : (clearOnEntry s).roundedTotals ↔ s.roundedTotals := by
  unfold clearOnEntry; split <;> simp
@[simp] theorem clearAfterEdge_roundedTotals (b : Bool) (t : TimePoint) :
    (clearAfterEdge b t s).roundedTotals ↔ s.roundedTotals := by
  unfold clearAfterEdge; split <;> simp
@[simp] theorem lineGoesIdle_roundedTotals : (lineGoesIdle s).roundedTotals ↔ s.roundedTotals := by
  unfold lineGoesIdle; split <;> simp
@[simp] theorem escrowUnresolved_roundedTotals (r : Reason) : (escrowUnresolved r s).roundedTotals ↔ s.roundedTotals := by
  unfold escrowUnresolved; split <;> simp
@[simp] theorem endResolving_roundedTotals : (endResolving s).roundedTotals ↔ s.roundedTotals := Iff.rfl
@[simp] theorem beginReading_roundedTotals : (beginReading s).roundedTotals ↔ s.roundedTotals := Iff.rfl
@[simp] theorem takeWrite_roundedTotals (w : CardWrite) : (takeWrite w s).roundedTotals ↔ s.roundedTotals := Iff.rfl
@[simp] theorem readyRequest_roundedTotals (e : Exchange) : (readyRequest e s).roundedTotals ↔ s.roundedTotals := Iff.rfl
@[simp] theorem topUpRefused_roundedTotals : (topUpRefused s).roundedTotals ↔ s.roundedTotals := Iff.rfl
@[simp] theorem topUpLapsed_roundedTotals : (topUpLapsed s).roundedTotals ↔ s.roundedTotals := Iff.rfl
@[simp] theorem acknowledge_roundedTotals (posted : Nat) : (acknowledge posted s).roundedTotals ↔ s.roundedTotals := Iff.rfl
@[simp] theorem jobToNone_roundedTotals : (jobToNone s).roundedTotals ↔ s.roundedTotals := by
  simp [jobToNone, JobContext.ended]
@[simp] theorem refuseOpening_roundedTotals (r : Reason) : (refuseOpening r s).roundedTotals ↔ s.roundedTotals := by
  simp [refuseOpening]
@[simp] theorem faultJob_roundedTotals : (faultJob s).roundedTotals ↔ s.roundedTotals := by
  unfold faultJob; split <;> simp
@[simp] theorem refuseFeed_roundedTotals (r : Reason) : (refuseFeed r s).roundedTotals ↔ s.roundedTotals := by
  simp [refuseFeed]
@[simp] theorem grantFeed_roundedTotals (f : PendingFeed) : (grantFeed f s).roundedTotals ↔ s.roundedTotals := by
  unfold grantFeed; dsimp only; split <;> simp
@[simp] theorem retakeFeed_roundedTotals : (retakeFeed s).roundedTotals ↔ s.roundedTotals := by
  unfold retakeFeed
  split
  · rfl
  · split
    · split <;> simp
    all_goals simp
@[simp] theorem seekPurse_roundedTotals (f : PendingFeed) : (seekPurse f s).roundedTotals ↔ s.roundedTotals := by
  unfold seekPurse
  dsimp only
  split
  · split_ifs <;> simp
  · simp

end

end Sys2Proof.Machine
end

section
/-! ### Store writes -/

namespace Sys2Proof.Machine

/-- What is true of every write in hand, whatever counters a meter write carries, is true as well once the store begins
one (R165, R181). -/
theorem forall_writes_beginWrite {Q : RecordWrite → Prop} (hQ : ∀ m w, Q (w.begun m) ↔ Q w) (s : State) :
    (∀ w ∈ (beginWrite s).store.writes, Q w) ↔ ∀ w ∈ s.store.writes, Q w := by
  unfold beginWrite
  split
  · rename_i x rest hc hq
    simp [Store.writes, hc, hq, hQ]
  · rfl

/-- A submission puts its write among those in hand, with room or without (R181). -/
theorem forall_writes_submit {Q : RecordWrite → Prop} (hQ : ∀ m w, Q (w.begun m) ↔ Q w) (t : WriteTag) (v : RecordWrite)
    (s : State) : (∀ w ∈ (submit t v s).store.writes, Q w) ↔ Q v ∧ ∀ w ∈ s.store.writes, Q w := by
  unfold submit
  split
  · rw [forall_writes_beginWrite hQ]
    simp only [Store.writes, State.setStore_store, List.map_append, List.mem_append, List.map_cons, List.map_nil,
      List.mem_singleton, or_imp, forall_and, forall_eq]
    tauto
  · simp only [Store.writes, State.setStore_store, List.map_append, List.mem_append, List.map_cons, List.map_nil,
      List.mem_singleton, or_imp, forall_and, forall_eq]
    tauto

/-- The law concerns the checkpoint writes of jobs alone. -/
@[simp] theorem RecordWrite.rounds_of_no_job {w : RecordWrite} (h : ∀ k, w ≠ .checkpoint (some k)) : w.rounds := by
  cases w with
  | checkpoint c =>
    cases c with
    | none => trivial
    | some k => exact (h k rfl).elim
  | _ => trivial

@[simp] theorem RecordWrite.begun_rounds (m : MeterRecord) (w : RecordWrite) : (w.begun m).rounds ↔ w.rounds := by
  cases w <;> rfl

/-- The writes of the account unit are of accounts and holds (R131). -/
theorem RecordWrite.rounds_of_ofAccountUnit {w : RecordWrite} (h : w.ofAccountUnit = true) : w.rounds :=
  rounds_of_no_job (by rintro k rfl; cases h)

/-- A checkpoint holds the C and D of its job (R25). -/
theorem JobContext.checkpoint_rounded {c : JobContext} {k : Checkpoint} (h : c.checkpoint = some k) :
    rounded k.charged k.delivered ↔ rounded c.charged c.delivered := by
  obtain ⟨_, _, _, _, _, rfl⟩ := JobContext.checkpoint_eq_some.mp h
  rfl

/-- A completed write leaves a checkpoint with a rounded C, if it is such a write itself. -/
theorem RecordWrite.apply_rounded {w : RecordWrite} (hw : w.rounds) {r : StoreRecords}
    (hr : ∀ k, r.checkpoint = some k → rounded k.charged k.delivered) :
    ∀ k, (w.apply r).checkpoint = some k → rounded k.charged k.delivered := by
  cases w with
  | checkpoint c =>
    rintro k rfl
    exact hw
  | _ => exact hr

section
variable (s : State)

@[simp] theorem beginWrite_checkpointsRounded :
    (beginWrite s).store.checkpointsRounded ↔ s.store.checkpointsRounded :=
  ⟨fun ⟨hs, hw⟩ => ⟨by simpa using hs, (forall_writes_beginWrite RecordWrite.begun_rounds s).mp hw⟩,
    fun ⟨hs, hw⟩ => ⟨by simpa using hs, (forall_writes_beginWrite RecordWrite.begun_rounds s).mpr hw⟩⟩

@[simp] theorem submit_checkpointsRounded (t : WriteTag) (v : RecordWrite) :
    (submit t v s).store.checkpointsRounded ↔ v.rounds ∧ s.store.checkpointsRounded := by
  have writes := forall_writes_submit RecordWrite.begun_rounds t v s
  constructor
  · rintro ⟨hs, hw⟩
    exact ⟨(writes.mp hw).1, by simpa using hs, (writes.mp hw).2⟩
  · rintro ⟨hv, hs, hw⟩
    exact ⟨by simpa using hs, writes.mpr ⟨hv, hw⟩⟩

@[simp] theorem beginWrite_roundedTotals : (beginWrite s).roundedTotals ↔ s.roundedTotals := by
  simp [State.roundedTotals_iff, -State.rounded_and_store]

@[simp] theorem submit_roundedTotals (t : WriteTag) (v : RecordWrite) :
    (submit t v s).roundedTotals ↔ v.rounds ∧ s.roundedTotals := by
  simp [State.roundedTotals_iff, and_left_comm, -State.rounded_and_store]

@[simp] theorem submitAndAnswer_roundedTotals (w : RecordWrite) (v : Values) :
    (submitAndAnswer w v s).roundedTotals ↔ w.rounds ∧ s.roundedTotals := by
  unfold submitAndAnswer; split <;> simp

@[simp] theorem noteMeters_roundedTotals : (noteMeters s).roundedTotals ↔ s.roundedTotals := by
  unfold noteMeters
  split
  · rfl
  · split
    · rfl
    · simp

@[simp] theorem addMeters_roundedTotals (n : MetersOf Nat) : (addMeters n s).roundedTotals ↔ s.roundedTotals := by
  unfold addMeters; split <;> simp

@[simp] theorem setOutbound_roundedTotals (l : List OutEntry) : (setOutbound l s).roundedTotals ↔ s.roundedTotals := by
  simp [setOutbound]

@[simp] theorem addOutbound_roundedTotals (e : OutEntry) : (addOutbound e s).roundedTotals ↔ s.roundedTotals := by
  simp [addOutbound]

@[simp] theorem setRefunds_roundedTotals (t : WriteTag) (l : List RefundEntry) :
    (setRefunds t l s).roundedTotals ↔ s.roundedTotals := by
  simp [setRefunds]

@[simp] theorem fillRefund_roundedTotals (serial tag charged : Nat) :
    (fillRefund serial tag charged s).roundedTotals ↔ s.roundedTotals := by
  simp [fillRefund]

@[simp] theorem removeRefund_roundedTotals (serial tag : Nat) :
    (removeRefund serial tag s).roundedTotals ↔ s.roundedTotals := by
  unfold removeRefund; split <;> simp

@[simp] theorem removeStale_roundedTotals (i : PurseImage) : (removeStale i s).roundedTotals ↔ s.roundedTotals := by
  unfold removeStale; split <;> simp

@[simp] theorem queueRelease_roundedTotals (station serial tag : Nat) :
    (queueRelease station serial tag s).roundedTotals ↔ s.roundedTotals := by
  simp [queueRelease]

@[simp] theorem takeSerial_roundedTotals (t : WriteTag) : (takeSerial t s).roundedTotals ↔ s.roundedTotals := by
  simp [takeSerial]

/-- The checkpoint of a job holds its C and D, so that its write adds nothing to the law (R25). -/
@[simp] theorem writeCheckpoint_roundedTotals : (writeCheckpoint s).roundedTotals ↔ s.roundedTotals := by
  unfold writeCheckpoint
  split
  · rename_i k hk
    rw [submit_roundedTotals]
    exact and_iff_right_of_imp fun h => (JobContext.checkpoint_rounded hk).mpr h.1
  · rfl

theorem submitAll_roundedTotals (tag : WriteTag) {l : List RecordWrite} (hl : ∀ w ∈ l, w.rounds) :
    (l.foldl (fun x w => submit tag w x) s).roundedTotals ↔ s.roundedTotals := by
  induction l generalizing s with
  | nil => rfl
  | cons w rest ih =>
    rw [List.foldl_cons, ih _ fun x hx => hl x (List.mem_cons_of_mem _ hx), submit_roundedTotals]
    exact and_iff_right (hl w List.mem_cons_self)

end

end Sys2Proof.Machine
end

section
/-! ### The job unit keeps the law of rounding -/

namespace Sys2Proof.Machine

/-! #### Settlement -/

section
variable (s : State)

@[simp] theorem endJob_roundedTotals (route : Route) : (endJob route s).roundedTotals ↔ s.roundedTotals := by
  unfold endJob; dsimp only; split <;> simp

/-- What a SETTLING job does leaves the law as it was, if that does. -/
theorem whenSettling_roundedTotals {f : State → State} (hf : (f s).roundedTotals ↔ s.roundedTotals) :
    (whenSettling f s).roundedTotals ↔ s.roundedTotals := by
  unfold whenSettling
  split
  · exact hf
  · rfl

@[simp] theorem settleByRefund_roundedTotals : (settleByRefund s).roundedTotals ↔ s.roundedTotals :=
  whenSettling_roundedTotals s (by split <;> simp)

@[simp] theorem settleByQueue_roundedTotals : (settleByQueue s).roundedTotals ↔ s.roundedTotals :=
  whenSettling_roundedTotals s (by split <;> simp)

@[simp] theorem settlementWritten_roundedTotals : (settlementWritten s).roundedTotals ↔ s.roundedTotals :=
  whenSettling_roundedTotals s (by dsimp only; split <;> simp)

@[simp] theorem settlePurse_roundedTotals : (settlePurse s).roundedTotals ↔ s.roundedTotals := by
  unfold settlePurse
  split
  · simp
  · split
    · split <;> simp
    · simp

@[simp] theorem jobRequestNoLine_roundedTotals (r : JobRequest) :
    (jobRequestNoLine r s).roundedTotals ↔ s.roundedTotals := by
  cases r <;> simp [jobRequestNoLine]

@[simp] theorem handRequests_roundedTotals (l : List JobRequest) :
    (handRequests l s).roundedTotals ↔ s.roundedTotals := by
  induction l generalizing s with
  | nil => rfl
  | cons r rest ih =>
    unfold handRequests
    dsimp only
    split_ifs <;> simp [ih]

@[simp] theorem pumpJob_roundedTotals : (pumpJob s).roundedTotals ↔ s.roundedTotals := handRequests_roundedTotals s _

@[simp] theorem askJob_roundedTotals (r : JobRequest) : (askJob r s).roundedTotals ↔ s.roundedTotals := by
  simp [askJob]

@[simp] theorem settleAccount_roundedTotals : (settleAccount s).roundedTotals ↔ s.roundedTotals := by
  unfold settleAccount; split <;> simp

@[simp] theorem enterSettling_roundedTotals : (enterSettling s).roundedTotals ↔ s.roundedTotals := by
  unfold enterSettling; dsimp only; split <;> simp

@[simp] theorem stopFeeding_roundedTotals (reason : CloseReason) :
    (stopFeeding reason s).roundedTotals ↔ s.roundedTotals := by
  unfold stopFeeding
  dsimp only
  split
  · split <;> simp
  · simp
  · rfl

/-! #### The feed gate, top-ups and posts -/

@[simp] theorem seekAccount_roundedTotals (f : PendingFeed) : (seekAccount f s).roundedTotals ↔ s.roundedTotals := by
  unfold seekAccount
  dsimp only
  split
  · simp
  · split_ifs <;> simp

@[simp] theorem feedGate_roundedTotals (tag : Tag) (d : Sheet) : (feedGate tag d s).roundedTotals ↔ s.roundedTotals := by
  unfold feedGate
  dsimp only
  split_ifs
  · simp
  · simp
  · split
    · simp
    · split_ifs
      · simp
      · simp
      · split <;> simp

@[simp] theorem moveCompleted_roundedTotals (m tag : Nat) : (moveCompleted m tag s).roundedTotals ↔ s.roundedTotals := by
  simp [moveCompleted]

@[simp] theorem moveUncertain_roundedTotals : (moveUncertain s).roundedTotals ↔ s.roundedTotals := by
  simp [moveUncertain]

@[simp] theorem topUpGranted_roundedTotals (g : Nat) : (topUpGranted g s).roundedTotals ↔ s.roundedTotals := by
  simp [topUpGranted]

@[simp] theorem localTopUp_roundedTotals (a : HoldAnswerFields) : (localTopUp a s).roundedTotals ↔ s.roundedTotals := by
  unfold localTopUp; split_ifs <;> simp

@[simp] theorem remoteTopUp_roundedTotals (asked : Nat) (o : ExchangeOutcome) :
    (remoteTopUp asked o s).roundedTotals ↔ s.roundedTotals := by
  unfold remoteTopUp
  split
  · split_ifs <;> simp
  all_goals simp

@[simp] theorem periodicOutcome_roundedTotals (o : ExchangeOutcome) :
    (periodicOutcome o s).roundedTotals ↔ s.roundedTotals := by
  unfold periodicOutcome
  split
  · split_ifs <;> simp
  all_goals simp

@[simp] theorem finalFailed_roundedTotals (status : Nat) : (finalFailed status s).roundedTotals ↔ s.roundedTotals := by
  unfold finalFailed; split <;> simp

@[simp] theorem finalAcknowledged_roundedTotals (posted : Nat) :
    (finalAcknowledged posted s).roundedTotals ↔ s.roundedTotals := by
  unfold finalAcknowledged; split <;> simp

@[simp] theorem finalOutcome_roundedTotals (o : ExchangeOutcome) :
    (finalOutcome o s).roundedTotals ↔ s.roundedTotals := by
  refine whenSettling_roundedTotals s ?_
  split
  · split <;> simp
  all_goals simp

/-! #### Losses and cards -/

@[simp] theorem loseSheet_roundedTotals (r : SheetRecord) : (loseSheet s r).roundedTotals ↔ s.roundedTotals := by
  simp [loseSheet]

/-- A jam loses every sheet of the path; C and D stay as they were (R17, R58). -/
@[simp] theorem declareJam_roundedTotals (kind : JamKind) (place : JamPlace) (named : Option SheetRecord) :
    (declareJam kind place named s).roundedTotals ↔ s.roundedTotals := by
  have lost (q : List SheetRecord) (x : State) : (q.foldl loseSheet x).roundedTotals ↔ x.roundedTotals := by
    induction q generalizing x with
    | nil => rfl
    | cons r rest ih => rw [List.foldl_cons, ih, loseSheet_roundedTotals]
  simp [declareJam, lost]

@[simp] theorem openingCardRemoved_roundedTotals (serial : Nat) :
    (openingCardRemoved serial s).roundedTotals ↔ s.roundedTotals := by
  unfold openingCardRemoved
  split
  · split <;> simp
  · rfl

@[simp] theorem interruptedNoCard_roundedTotals : (interruptedNoCard s).roundedTotals ↔ s.roundedTotals := by
  unfold interruptedNoCard; split <;> simp

@[simp] theorem interruptedCard_roundedTotals : (interruptedCard s).roundedTotals ↔ s.roundedTotals := by
  unfold interruptedCard
  split
  · split
    · split <;> simp
    · simp
  · rfl

end

/-! #### Opening and delivery: C and D take new values -/

/-- A job enters RUNNING with C and D at 0 (R7). -/
@[simp] theorem enterRunning_roundedTotals (s : State) :
    (enterRunning s).roundedTotals ↔ s.store.checkpointsRounded := by
  simp [enterRunning]

section
variable {s : State} (h : s.roundedTotals)
include h

theorem openPurse_roundedTotals (i : PurseImage) : (openPurse i s).roundedTotals := by
  unfold openPurse
  dsimp only
  split_ifs <;> simp [h, h.store, takeSerial]

theorem takeFunding_roundedTotals (kind : FundingKind) (amount discount : Nat) :
    (takeFunding kind amount discount s).roundedTotals := by
  unfold takeFunding
  dsimp only
  split <;> simp [h.1, h.store]

theorem homeUnreachable_roundedTotals : (homeUnreachable s).roundedTotals := by
  unfold homeUnreachable
  split
  · exact takeFunding_roundedTotals h _ _ _
  · simpa using h

theorem firstHold_roundedTotals (asked : Nat) (o : ExchangeOutcome) :
    (firstHold asked o s).roundedTotals := by
  unfold firstHold
  split
  · exact h
  · split
    · split_ifs
      · simpa using h
      · exact takeFunding_roundedTotals h _ _ _
      · simpa using h
    · simpa using h
    · exact homeUnreachable_roundedTotals h
    · simpa using h

theorem openAccount_roundedTotals (number : Nat) (card : Option Nat) :
    (openAccount number card s).roundedTotals := by
  unfold openAccount
  split
  · simpa using h
  · split
    · dsimp only
      split_ifs <;> simp [h, h.store, JobContext.blank, takeSerial, homeUnreachable_roundedTotals]
    · simpa using h

theorem jobOutcome_roundedTotals (body : Payload) (o : ExchangeOutcome) :
    (jobOutcome body o s).roundedTotals := by
  unfold jobOutcome
  rw [pumpJob_roundedTotals]
  split
  · exact firstHold_roundedTotals h _ _
  · split <;> simpa using h
  · split <;> simpa using h
  · exact h

/-- A delivery adds the sheet's price to D and its charge to C, which stays the rounded D (R16, R35, R36). -/
theorem deliver_roundedTotals (r : SheetRecord) : (deliver r s).roundedTotals := by
  unfold deliver
  dsimp only
  split <;> simp [h.1.charge r.price, h.store]

end

end Sys2Proof.Machine
end

section
/-! ### The card controller, the settlement unit and the line keep the law of rounding -/

namespace Sys2Proof.Machine

section
variable (s : State)

/-! #### The settlement unit -/

@[simp] theorem answerRelease_roundedTotals (q : EscrowFields) :
    (answerRelease q s).1.roundedTotals ↔ s.roundedTotals := by
  simp [answerRelease]

@[simp] theorem answerQuery_roundedTotals (q : EscrowFields) : (answerQuery q s).1.roundedTotals ↔ s.roundedTotals := by
  unfold answerQuery
  split
  · rfl
  · split
    · rfl
    · dsimp only; split <;> simp

@[simp] theorem entryAnswered_roundedTotals (e : OutEntry) (p : Payload) :
    (entryAnswered e p s).roundedTotals ↔ s.roundedTotals := by
  simp [entryAnswered]

@[simp] theorem tryEntry_roundedTotals (e : OutEntry) (b : Bool) : (tryEntry e b s).roundedTotals ↔ s.roundedTotals := by
  unfold tryEntry
  dsimp only
  split
  · split <;> simp
  · simp

@[simp] theorem roundStep_roundedTotals (l : List EntryKey) : (roundStep l s).roundedTotals ↔ s.roundedTotals := by
  induction l generalizing s with
  | nil => simp [roundStep]
  | cons k rest ih =>
    unfold roundStep
    split
    · exact ih s
    · dsimp only; split <;> simp [ih]

@[simp] theorem heardStep_roundedTotals (fuel : Nat) : (heardStep fuel s).roundedTotals ↔ s.roundedTotals := by
  induction fuel generalizing s with
  | zero => rfl
  | succ fuel ih =>
    unfold heardStep
    split
    · simp
    · dsimp only; split <;> simp [ih]

@[simp] theorem beginRound_roundedTotals : (beginRound s).roundedTotals ↔ s.roundedTotals := by
  simp [beginRound]

@[simp] theorem pumpSettlement_roundedTotals : (pumpSettlement s).roundedTotals ↔ s.roundedTotals := by
  have round : (match s.settle.round with
      | some rest => roundStep rest s
      | none => s).roundedTotals ↔ s.roundedTotals := by
    split <;> simp
  unfold pumpSettlement
  dsimp only
  split_ifs
  · simp
  · rfl
  · exact round
  · rw [beginRound_roundedTotals]; exact round
  · rw [heardStep_roundedTotals]; exact round

@[simp] theorem tryOutcome_roundedTotals (o : ExchangeOutcome) : (tryOutcome o s).roundedTotals ↔ s.roundedTotals := by
  unfold tryOutcome
  split
  · rfl
  · rw [pumpSettlement_roundedTotals]
    dsimp only
    split
    · simp
    · split <;> simp
    · simp

@[simp] theorem settlementHears_roundedTotals (station : Nat) :
    (settlementHears station s).roundedTotals ↔ s.roundedTotals := by
  unfold settlementHears
  split
  · rfl
  · split
    · rfl
    · split <;> simp

/-! #### The card controller -/

@[simp] theorem cardExchangeEnds_roundedTotals (e : CardExchange) (o : ExchangeOutcome) :
    (cardExchangeEnds e o s).roundedTotals ↔ s.roundedTotals := by
  match e with
  | .release station serial tag => cases o <;> simp [cardExchangeEnds]
  | .query _ _ _ false => simp [cardExchangeEnds]
  | .query station serial tag true =>
    simp only [cardExchangeEnds]
    split
    · split_ifs
      · split
        · split_ifs <;> simp
        · simp
      · simp
      · simp
    all_goals simp

@[simp] theorem handCardExchanges_roundedTotals (l : List CardExchange) :
    (handCardExchanges l s).roundedTotals ↔ s.roundedTotals := by
  induction l generalizing s with
  | nil => rfl
  | cons e rest ih =>
    unfold handCardExchanges
    dsimp only
    split_ifs <;> simp [ih]

@[simp] theorem pumpCard_roundedTotals : (pumpCard s).roundedTotals ↔ s.roundedTotals :=
  handCardExchanges_roundedTotals s _

@[simp] theorem askCard_roundedTotals (e : CardExchange) : (askCard e s).roundedTotals ↔ s.roundedTotals := by
  simp [askCard]

@[simp] theorem cardOutcome_roundedTotals (o : ExchangeOutcome) : (cardOutcome o s).roundedTotals ↔ s.roundedTotals := by
  unfold cardOutcome; split <;> simp

@[simp] theorem settleFromList_roundedTotals (i : PurseImage) : (settleFromList i s).roundedTotals ↔ s.roundedTotals := by
  unfold settleFromList
  split
  · simp
  · split
    · simp
    · split <;> simp

@[simp] theorem resolveEscrow_roundedTotals (k : Nat) (i : PurseImage) :
    (resolveEscrow k i s).roundedTotals ↔ s.roundedTotals := by
  unfold resolveEscrow; split_ifs <;> simp

@[simp] theorem lookAtEscrow_roundedTotals (i : PurseImage) : (lookAtEscrow i s).roundedTotals ↔ s.roundedTotals := by
  unfold lookAtEscrow
  split_ifs
  · rfl
  · simp
  · split <;> simp

@[simp] theorem rejectCard_roundedTotals (r : Reason) : (rejectCard r s).roundedTotals ↔ s.roundedTotals := by
  simp [rejectCard]

@[simp] theorem readyAccountCard_roundedTotals (id : CardIdentity) :
    (readyAccountCard id s).roundedTotals ↔ s.roundedTotals := by
  simp [readyAccountCard]

@[simp] theorem readyPurseCard_roundedTotals (i : PurseImage) : (readyPurseCard i s).roundedTotals ↔ s.roundedTotals := by
  unfold readyPurseCard; dsimp only; split <;> simp

@[simp] theorem judgeIdentity_roundedTotals (bytes : List Byte) :
    (judgeIdentity bytes s).roundedTotals ↔ s.roundedTotals := by
  unfold judgeIdentity
  split
  · simp
  · split
    · simp
    · dsimp only
      split_ifs
      · simp
      · simp
      · split <;> simp

@[simp] theorem judgeSlots_roundedTotals (a b : List Byte) : (judgeSlots a b s).roundedTotals ↔ s.roundedTotals := by
  unfold judgeSlots
  split
  · split <;> simp
  · simp

@[simp] theorem readAnswered_roundedTotals (bytes : List Byte) :
    (readAnswered bytes s).roundedTotals ↔ s.roundedTotals := by
  unfold readAnswered
  split
  · simp
  · split <;> simp

@[simp] theorem writeCompleted_roundedTotals (w : CardWrite) : (writeCompleted w s).roundedTotals ↔ s.roundedTotals := by
  unfold writeCompleted
  split
  iterate 4 simp
  dsimp only; split <;> simp

@[simp] theorem writeUncertain_roundedTotals (w : CardWrite) : (writeUncertain w s).roundedTotals ↔ s.roundedTotals := by
  unfold writeUncertain; split <;> simp

@[simp] theorem cardSilent_roundedTotals : (cardSilent s).roundedTotals ↔ s.roundedTotals := by
  unfold cardSilent; split <;> simp

@[simp] theorem removeCard_roundedTotals : (removeCard s).roundedTotals ↔ s.roundedTotals := by
  have told (n : Option Nat) (c : CardUnit) : (match s.card.state with
      | .reading _ => interruptedNoCard (raiseNotice (.cardRemoved n) (s.setCard c))
      | _ => match s.card.writing with
        | some w => writeUncertain w (raiseNotice (.cardRemoved n) (s.setCard c))
        | none => raiseNotice (.cardRemoved n) (s.setCard c)).roundedTotals ↔ s.roundedTotals := by
    split
    · simp
    · split <;> simp
  unfold removeCard
  dsimp only
  split
  · rw [openingCardRemoved_roundedTotals]; exact told _ _
  · exact told _ _

/-! #### The line, where no exchange ends -/

@[simp] theorem startExchange_roundedTotals : (startExchange s).roundedTotals ↔ s.roundedTotals := by
  unfold startExchange; split <;> simp

@[simp] theorem queueRequest_roundedTotals (f : Frame) : (queueRequest f s).roundedTotals ↔ s.roundedTotals := by
  unfold queueRequest; split <;> simp

@[simp] theorem updateRoster_roundedTotals (station : Nat) (home : Option HomeRange) :
    (updateRoster station home s).roundedTotals ↔ s.roundedTotals := by
  unfold updateRoster; dsimp only; split <;> simp

@[simp] theorem callAnswerRoll_roundedTotals : (callAnswerRoll s).roundedTotals ↔ s.roundedTotals := by
  unfold callAnswerRoll; split <;> simp

@[simp] theorem takeRoll_roundedTotals (known : Bool) (f : Frame) (p : RollFields) :
    (takeRoll known f p s).roundedTotals ↔ s.roundedTotals := by
  unfold takeRoll; dsimp only; split <;> simp

@[simp] theorem noteHeard_roundedTotals (station : Nat) : (noteHeard station s).roundedTotals ↔ s.roundedTotals := by
  simp [noteHeard]

@[simp] theorem sendStarts_roundedTotals (idle : Nat) : (sendStarts idle s).roundedTotals ↔ s.roundedTotals := by
  unfold sendStarts
  dsimp only
  split
  · rfl
  · split
    · split <;> simp
    · simp

@[simp] theorem frameSentWhole_roundedTotals : (frameSentWhole s).roundedTotals ↔ s.roundedTotals := by
  unfold frameSentWhole
  split
  · rfl
  · dsimp only
    split
    · simp
    · split <;> simp
    · simp

@[simp] theorem becomeMember_roundedTotals : (becomeMember s).roundedTotals ↔ s.roundedTotals := by
  simp [becomeMember]

@[simp] theorem answerRoll_roundedTotals : (answerRoll s).roundedTotals ↔ s.roundedTotals := by
  unfold answerRoll; dsimp only; split <;> simp

@[simp] theorem lineGoesBusy_roundedTotals : (lineGoesBusy s).roundedTotals ↔ s.roundedTotals := by
  unfold lineGoesBusy; split <;> simp

end

/-! #### The line, where an exchange may end -/

section
variable {s : State} (h : s.roundedTotals)
include h

theorem exchangeEnds_roundedTotals (o : ExchangeOutcome) (e : Exchange) : (exchangeEnds o s e).roundedTotals := by
  unfold exchangeEnds
  split
  · exact jobOutcome_roundedTotals h _ _
  · simpa using h
  · simpa using h

theorem endExchange_roundedTotals (o : ExchangeOutcome) : (endExchange o s).roundedTotals := by
  unfold endExchange
  split
  · exact h
  · exact exchangeEnds_roundedTotals (by simpa using h) _ _

theorem attemptFails_roundedTotals : (attemptFails s).roundedTotals := by
  unfold attemptFails
  split
  · exact h
  · split
    · simpa using h
    · exact endExchange_roundedTotals (by simpa using h) _

theorem takeAnswer_roundedTotals (f : Frame) : (takeAnswer f s).roundedTotals := by
  unfold takeAnswer
  split
  · split
    · exact endExchange_roundedTotals h _
    · exact h
  · exact h

theorem answerAsCard_roundedTotals {answer : State → State × Payload} (ha : (answer s).1.roundedTotals) (f : Frame) :
    (answerAsCard answer f s).roundedTotals := by
  unfold answerAsCard
  dsimp only
  split
  · exact h
  · simpa using ha

theorem enterConflict_roundedTotals (f : Frame) : (enterConflict f s).roundedTotals := by
  have ended (l : List Exchange) {x : State} (hx : x.roundedTotals) :
      (l.foldl (exchangeEnds .noLine) x).roundedTotals := by
    induction l generalizing x with
    | nil => exact hx
    | cons e rest ih => exact ih (exchangeEnds_roundedTotals hx _ _)
  unfold enterConflict
  simp only [raiseNotice_roundedTotals, setAccounts_roundedTotals]
  exact ended _ (by simpa using h)

/-- A frame heard keeps the law, given that what its kind does keeps it. -/
theorem hearFrame_roundedTotals {act : State → State} (hact : ∀ x : State, x.roundedTotals → (act x).roundedTotals)
    (f : Frame) : (hearFrame f act s).roundedTotals := by
  unfold hearFrame
  dsimp only
  split_ifs
  · exact h
  · simpa using h
  · exact enterConflict_roundedTotals (by simpa using h) _
  · exact hact _ (by simpa using h)
  · simpa using h

theorem hearByKind_roundedTotals (f : Frame) : (hearByKind f s).roundedTotals := by
  unfold hearByKind
  split <;> refine hearFrame_roundedTotals h (fun x hx => ?_) _
  case h_7 => exact answerAsCard_roundedTotals hx (by simpa using hx) _
  case h_9 => exact answerAsCard_roundedTotals hx (by simpa using hx) _
  case h_5 | h_6 | h_8 | h_10 => exact takeAnswer_roundedTotals hx _
  all_goals simpa using hx

theorem collide_roundedTotals : (collide s).roundedTotals := by
  unfold collide
  split
  · exact h
  · split
    · simpa using h
    · dsimp only
      split
      · exact attemptFails_roundedTotals (by simpa using h)
      · split <;> simpa using h
      · simpa using h

end

end Sys2Proof.Machine
end

section
/-! ### The path monitor, the account unit, the port and the start keep the law of rounding -/

namespace Sys2Proof.Machine

section
variable {s : State} (h : s.roundedTotals)
include h

/-! #### Tracking -/

theorem matchLeading_roundedTotals (x : PathSensor) (t : TimePoint) : (matchLeading x t s).roundedTotals := by
  unfold matchLeading
  dsimp only
  split
  · simpa using h
  · split
    · simpa using h
    · split <;> simpa using h

theorem moveOn_roundedTotals (x : PathSensor) (r : SheetRecord) : (moveOn x r s).roundedTotals := by
  unfold moveOn
  split
  · simpa using h
  · exact deliver_roundedTotals (by simpa using h) r

theorem matchTrailing_roundedTotals (x : PathSensor) (t : TimePoint) : (matchTrailing x t s).roundedTotals := by
  unfold matchTrailing
  split
  · simpa using h
  · split_ifs
    · simpa using h
    · simpa using h
    · exact moveOn_roundedTotals h x _

theorem takeSensorEdge_roundedTotals (x : PathSensor) (t : TimePoint) {matched : PathSensor → TimePoint → State → State}
    (hm : ∀ y : State, y.roundedTotals → (matched x t y).roundedTotals) :
    (takeSensorEdge x t matched s).roundedTotals := by
  unfold takeSensorEdge
  dsimp only
  split
  · exact hm _ (by simpa using h)
  · simpa using h

theorem takeDoorEdge_roundedTotals (opening : Bool) (t : TimePoint) : (takeDoorEdge opening t s).roundedTotals := by
  unfold takeDoorEdge
  dsimp only
  split
  · split <;> simpa using h
  · simpa using h

theorem deadlineJam_roundedTotals (r : SheetRecord) : (deadlineJam r s).roundedTotals := by
  unfold deadlineJam; split <;> simpa using h

theorem judgePurge_roundedTotals : (judgePurge s).roundedTotals := by
  unfold judgePurge
  dsimp only
  split
  · simpa using h
  · split <;> simpa using h

/-! #### The account unit -/

theorem releaseAnswer_roundedTotals (x : InHand) : (releaseAnswer x s).roundedTotals := by
  unfold releaseAnswer
  split
  · split <;> simpa using h
  · exact jobOutcome_roundedTotals h _ _
  · simpa using h

theorem carryOut_roundedTotals (a : Arrival) (d : Decision) (hd : ∀ w ∈ d.writes, w.rounds) :
    (carryOut a d s).roundedTotals := by
  have decided : (if d.fresh then advanceFree (s.setAccounts d.unit) else s.setAccounts d.unit).roundedTotals := by
    split <;> simpa using h
  unfold carryOut
  dsimp only
  split
  · exact releaseAnswer_roundedTotals decided _
  · exact (submitAll_roundedTotals _ _ hd).mpr decided

theorem takeRequest_roundedTotals (a : Arrival) : (takeRequest a s).roundedTotals := by
  unfold takeRequest
  dsimp only
  split
  · rename_i d hd
    exact carryOut_roundedTotals (by simpa using h) _ _ fun w hw =>
      RecordWrite.rounds_of_ofAccountUnit (decideRequest_writes hd w hw)
  · simpa using h

theorem requestWritten_roundedTotals : (requestWritten s).roundedTotals := by
  unfold requestWritten
  split
  · exact h
  · split
    · exact releaseAnswer_roundedTotals (by simpa using h) _
    · simpa using h

theorem lapseHold_roundedTotals (x : Hold) : (lapseHold x s).roundedTotals := by
  simpa [lapseHold, writeHold] using h

/-! #### The store's progress -/

theorem passOn_roundedTotals : (passOn s).roundedTotals := by
  unfold passOn
  split
  · simpa using h
  · rename_i w rest hw
    have moved : (s.setStore { s.store with queue := s.store.queue ++ [w], waiting := rest }).roundedTotals := by
      refine ⟨h.1, h.2.1, ?_⟩
      simpa [Store.writes, hw] using h.2.2
    dsimp only
    split <;> simpa using moved

theorem remeter_roundedTotals : (remeter s).roundedTotals := by
  unfold remeter
  split
  · exact (noteMeters_roundedTotals _).mpr ⟨h.1, h.2⟩
  · exact h

theorem storeCompletes_roundedTotals : (storeCompletes s).roundedTotals := by
  unfold storeCompletes
  split
  · rename_i w hw
    have applied : (s.setStore { s.store with
        records := w.1.what.apply s.store.records, current := none }).roundedTotals := by
      refine ⟨h.1, RecordWrite.apply_rounded (h.2.2 _ (by simp [Store.writes, hw])) h.2.1, fun x hx => h.2.2 x ?_⟩
      have : x ∈ (s.store.queue ++ s.store.waiting).map QueuedWrite.what := by simpa [Store.writes] using hx
      exact List.mem_append_right _ this
    unfold completeWrite
    dsimp only
    have metered (b : Bool) : (if b then remeter (passOn (s.setStore { s.store with
        records := w.1.what.apply s.store.records, current := none })) else passOn (s.setStore { s.store with
        records := w.1.what.apply s.store.records, current := none })).roundedTotals := by
      split
      · exact remeter_roundedTotals (passOn_roundedTotals applied)
      · exact passOn_roundedTotals applied
    split
    · exact requestWritten_roundedTotals (metered _)
    · exact metered _
  · exact h

/-! #### The start -/

omit h in
/-- A start takes back a checkpoint of which C is the rounded D. -/
theorem start_roundedTotals (cause : StartCause) {x : State}
    (hx : ∀ k, x.store.records.checkpoint = some k → rounded k.charged k.delivered) : (start cause x).roundedTotals := by
  have blocks : (startBlocks cause x).roundedTotals := ⟨rounded_zero, hx, fun _ hw => (List.not_mem_nil hw).elim⟩
  have line : (startLine (startBlocks cause x)).roundedTotals := by
    unfold startLine; split <;> simpa using blocks
  unfold start takeCheckpoint
  split
  · exact line
  · rename_i k hk
    have reserved : (reservePlace k.funding ((startLine (startBlocks cause x)).setCtx k.interrupted)).roundedTotals := by
      have taken : ((startLine (startBlocks cause x)).setCtx k.interrupted).roundedTotals :=
        (setCtx_roundedTotals _ _).mpr ⟨line.2.1 k hk, line.store⟩
      unfold reservePlace; split <;> simpa using taken
    unfold settleInterrupted
    split_ifs <;> simpa using reserved

theorem losePower_roundedTotals : (losePower s).roundedTotals :=
  ⟨rounded_zero, h.2.1, fun _ hw => (List.not_mem_nil hw).elim⟩

theorem restart_roundedTotals : (restart s).roundedTotals := by
  have completed (l : List RecordWrite) (hl : ∀ w ∈ l, w.rounds) {r : StoreRecords}
      (hr : ∀ k, r.checkpoint = some k → rounded k.charged k.delivered) :
      ∀ k, (l.foldl (fun r w => w.apply r) r).checkpoint = some k → rounded k.charged k.delivered := by
    induction l generalizing r with
    | nil => exact hr
    | cons w rest ih =>
      exact ih (fun x hx => hl x (List.mem_cons_of_mem _ hx)) (RecordWrite.apply_rounded (hl w (by simp)) hr)
  refine start_roundedTotals _ (completed _ ?_ h.2.1)
  have writes := h.2.2
  simp only [Store.writes, List.mem_append, List.map_append] at writes
  simp only [List.mem_append, List.mem_map]
  rintro w (hw | ⟨x, hx, rfl⟩)
  · exact writes w (.inl hw)
  · exact (RecordWrite.begun_rounds _ _).mpr (writes _ (.inr (.inl (List.mem_map_of_mem hx))))

end

end Sys2Proof.Machine
end

section
/-! ### Every command keeps the law of rounding -/

namespace Sys2Proof.Machine

/-! #### The engine's commands -/

section
variable (s : State) (ps : List Byte)

theorem feed_roundedTotals : (feed ps s).roundedTotals ↔ s.roundedTotals := by
  unfold feed
  split
  · simp
  · simp
  · split <;> simp
  · simp

theorem closeJob_roundedTotals : (closeJob s).roundedTotals ↔ s.roundedTotals := by
  unfold closeJob; split <;> simp

theorem loadTariff_roundedTotals : (loadTariff ps s).roundedTotals ↔ s.roundedTotals := by
  unfold loadTariff
  split
  · simp
  · split
    · simp
    · split <;> simp

theorem loadProfile_roundedTotals : (loadProfile ps s).roundedTotals ↔ s.roundedTotals := by
  unfold loadProfile
  split_ifs
  · simp
  · simp
  · split
    · simp
    · split <;> simp

theorem resume_roundedTotals : (resume s).roundedTotals ↔ s.roundedTotals := by
  have job (x : State) : (resumeJob x).roundedTotals ↔ x.roundedTotals := by
    unfold resumeJob; split <;> simp
  unfold resume
  split_ifs <;> simp [job]

theorem purgeStart_roundedTotals : (purgeStart s).roundedTotals ↔ s.roundedTotals := by
  unfold purgeStart; split_ifs <;> simp

theorem purgeEnd_roundedTotals : (purgeEnd s).roundedTotals ↔ s.roundedTotals := by
  unfold purgeEnd; split <;> simp

theorem serviceClear_roundedTotals : (serviceClear s).roundedTotals ↔ s.roundedTotals := by
  unfold serviceClear; split_ifs <;> simp

theorem readMeters_roundedTotals : (readMeters ps s).roundedTotals ↔ s.roundedTotals := by
  unfold readMeters
  split
  · simp
  · dsimp only; split <;> simp

theorem setOptions_roundedTotals : (setOptions ps s).roundedTotals ↔ s.roundedTotals := by
  unfold setOptions
  split
  · simp
  · split <;> simp

@[simp] theorem writeTable_roundedTotals (a : Account) (v : Values) :
    (writeTable a v s).roundedTotals ↔ s.roundedTotals := by
  simp [writeTable, writeAccount]

theorem accountAdd_roundedTotals : (accountAdd ps s).roundedTotals ↔ s.roundedTotals := by
  unfold accountAdd
  split
  · simp
  · split_ifs <;> simp

theorem accountCredit_roundedTotals : (accountCredit ps s).roundedTotals ↔ s.roundedTotals := by
  unfold accountCredit
  split
  · simp
  · split
    · simp
    · split <;> simp

theorem accountSet_roundedTotals : (accountSet ps s).roundedTotals ↔ s.roundedTotals := by
  unfold accountSet
  split
  · simp
  · split
    · simp
    · split
      · simp
      · split <;> simp

theorem accountRemove_roundedTotals : (accountRemove ps s).roundedTotals ↔ s.roundedTotals := by
  unfold accountRemove
  split
  · simp
  · split
    · simp
    · split_ifs <;> simp

theorem readAccount_roundedTotals : (readAccount ps s).roundedTotals ↔ s.roundedTotals := by
  unfold readAccount
  split
  · simp
  · split <;> simp

theorem listAccounts_roundedTotals : (listAccounts ps s).roundedTotals ↔ s.roundedTotals := by
  unfold listAccounts; split <;> simp

theorem readStatement_roundedTotals : (readStatement ps s).roundedTotals ↔ s.roundedTotals := by
  unfold readStatement
  split
  · simp
  · split
    · simp
    · split
      · simp
      · dsimp only; split <;> simp

theorem discardRefund_roundedTotals : (discardRefund ps s).roundedTotals ↔ s.roundedTotals := by
  unfold discardRefund
  split
  · simp
  · split <;> simp

theorem releaseEscrow_roundedTotals : (releaseEscrow ps s).roundedTotals ↔ s.roundedTotals := by
  have onImage (i : PurseImage) : (releaseOnImage i ps s).roundedTotals ↔ s.roundedTotals := by
    unfold releaseOnImage
    split_ifs
    iterate 3 simp
    split
    · simp
    · split
      · simp
      · split <;> simp
  unfold releaseEscrow
  split
  iterate 3 simp
  split <;> simp [onImage]

end

section
variable {s : State} (h : s.roundedTotals)
include h

theorem openJob_roundedTotals (ps : List Byte) : (openJob ps s).roundedTotals := by
  have onCard : (openOnCard s).roundedTotals := by
    unfold openOnCard
    split
    iterate 3 simpa using h
    split
    · split
      · exact openPurse_roundedTotals h _
      · exact openAccount_roundedTotals h _ _
    · split
      · exact openAccount_roundedTotals h _ _
      · simpa using h
    · simpa using h
  unfold openJob
  split
  · simpa using h
  · split
    · simpa using h
    · exact onCard
    · split
      · simpa using h
      · exact openAccount_roundedTotals h _ _

theorem takeCommand_roundedTotals (o : Opcode) (ps : List Byte) {owner : State → State}
    (ho : ∀ x : State, x.roundedTotals → (owner x).roundedTotals) : (takeCommand o ps owner s).roundedTotals := by
  unfold takeCommand
  split
  · simpa using h
  · dsimp only
    split
    · simpa using h
    · exact ho _ (by simpa using h)

theorem takeBare_roundedTotals (o : Opcode) (ps : List Byte) {owner : State → State}
    (ho : ∀ x : State, x.roundedTotals → (owner x).roundedTotals) : (takeBare o ps owner s).roundedTotals :=
  takeCommand_roundedTotals h o ps fun x hx => by
    split
    · exact ho x hx
    · simpa using hx

/-- Every command of the catalogue keeps the law of rounding. -/
theorem runCommand_roundedTotals (o : Opcode) (ps : List Byte) : (runCommand o ps s).roundedTotals := by
  cases o with
  | status => exact takeBare_roundedTotals h _ _ fun x => (complete_roundedTotals x _ _).mpr
  | readNotice => exact takeBare_roundedTotals h _ _ fun x => (complete_roundedTotals x _ _).mpr
  | setOptions => exact takeCommand_roundedTotals h _ _ fun x => (setOptions_roundedTotals x ps).mpr
  | loadTariff => exact takeCommand_roundedTotals h _ _ fun x => (loadTariff_roundedTotals x ps).mpr
  | loadProfile => exact takeCommand_roundedTotals h _ _ fun x => (loadProfile_roundedTotals x ps).mpr
  | openJob => exact takeCommand_roundedTotals h _ _ fun x hx => openJob_roundedTotals hx ps
  | feed => exact takeCommand_roundedTotals h _ _ fun x => (feed_roundedTotals x ps).mpr
  | closeJob => exact takeBare_roundedTotals h _ _ fun x => (closeJob_roundedTotals x).mpr
  | readLost => exact takeBare_roundedTotals h _ _ fun x => (complete_roundedTotals x _ _).mpr
  | resume => exact takeBare_roundedTotals h _ _ fun x => (resume_roundedTotals x).mpr
  | purgeStart => exact takeBare_roundedTotals h _ _ fun x => (purgeStart_roundedTotals x).mpr
  | purgeEnd => exact takeBare_roundedTotals h _ _ fun x => (purgeEnd_roundedTotals x).mpr
  | serviceClear => exact takeBare_roundedTotals h _ _ fun x => (serviceClear_roundedTotals x).mpr
  | readMeters => exact takeCommand_roundedTotals h _ _ fun x => (readMeters_roundedTotals x ps).mpr
  | readRoster => exact takeBare_roundedTotals h _ _ fun x => (complete_roundedTotals x _ _).mpr
  | accountAdd => exact takeCommand_roundedTotals h _ _ fun x => (accountAdd_roundedTotals x ps).mpr
  | accountCredit => exact takeCommand_roundedTotals h _ _ fun x => (accountCredit_roundedTotals x ps).mpr
  | accountSet => exact takeCommand_roundedTotals h _ _ fun x => (accountSet_roundedTotals x ps).mpr
  | accountRemove => exact takeCommand_roundedTotals h _ _ fun x => (accountRemove_roundedTotals x ps).mpr
  | readAccount => exact takeCommand_roundedTotals h _ _ fun x => (readAccount_roundedTotals x ps).mpr
  | listAccounts => exact takeCommand_roundedTotals h _ _ fun x => (listAccounts_roundedTotals x ps).mpr
  | readStatement => exact takeCommand_roundedTotals h _ _ fun x => (readStatement_roundedTotals x ps).mpr
  | readRefunds => exact takeBare_roundedTotals h _ _ fun x => (complete_roundedTotals x _ _).mpr
  | discardRefund => exact takeCommand_roundedTotals h _ _ fun x => (discardRefund_roundedTotals x ps).mpr
  | releaseEscrow => exact takeCommand_roundedTotals h _ _ fun x => (releaseEscrow_roundedTotals x ps).mpr
  | restart => exact takeBare_roundedTotals h _ _ fun x hx => restart_roundedTotals hx

theorem takeMessage_roundedTotals (bytes : List Byte) : (takeMessage bytes s).roundedTotals := by
  have atOnce (r : Reason) : (answerAtOnce r s).roundedTotals := by
    unfold answerAtOnce; split <;> simpa using h
  unfold takeMessage
  split
  · exact h
  · exact atOnce _
  · exact atOnce _
  · exact runCommand_roundedTotals h _ _

/-! #### Read transactions and events -/

theorem readReply_roundedTotals (clocked : Nat) : (readReply clocked s).roundedTotals := by
  have commit (r : Result) {x : State} (hx : x.roundedTotals) : (commitResult r x).roundedTotals := by
    unfold commitResult
    dsimp only
    split
    · unfold commitMeters; split <;> simpa using hx
    · unfold commitStatement
      split
      · simpa using hx
      · dsimp only; split <;> simpa [writeAccount] using hx
    · simpa [commitNotice] using hx
    · simpa using hx
  unfold readReply
  dsimp only
  split
  · split
    · exact commit _ (by simpa using h)
    · simpa using h
  · simpa using h

theorem insertCard_roundedTotals : (insertCard s).roundedTotals := by
  unfold insertCard; dsimp only; split <;> simpa using h

theorem takeRemoval_roundedTotals : (takeRemoval s).roundedTotals := by
  unfold takeRemoval; dsimp only; split <;> simpa using h

theorem writeAcknowledged_roundedTotals : (writeAcknowledged s).roundedTotals := by
  unfold writeAcknowledged; split <;> simpa using h

theorem postPeriodically_roundedTotals : (postPeriodically s).roundedTotals := by
  unfold postPeriodically; dsimp only; split <;> simpa using h

/-- Time keeps the law of rounding. -/
theorem idle_roundedTotals : (idle s).roundedTotals := by
  unfold idle
  split
  · split
    · exact h
    · simpa using h
  · exact h

end

/-- Every command and event keeps the law of rounding. -/
theorem exec_roundedTotals (i : Instr) (s t : State) (h : s.roundedTotals) (e : exec i s = .next t) :
    t.roundedTotals := by
  cases i with
  | powerOn =>
    cases e
    exact start_roundedTotals _ (losePower_roundedTotals h).2.1
  | powerLoss => exact whenPowered_keeps h (losePower_roundedTotals h) e
  | interruptedCardWaitEnd => exact whenDue_keeps h ((interruptedNoCard_roundedTotals s).mpr h) e
  | status ps => exact whenPowered_keeps h (runCommand_roundedTotals h .status ps) e
  | readNotice ps => exact whenPowered_keeps h (runCommand_roundedTotals h .readNotice ps) e
  | setOptions ps => exact whenPowered_keeps h (runCommand_roundedTotals h .setOptions ps) e
  | loadTariff ps => exact whenPowered_keeps h (runCommand_roundedTotals h .loadTariff ps) e
  | loadProfile ps => exact whenPowered_keeps h (runCommand_roundedTotals h .loadProfile ps) e
  | openJob ps => exact whenPowered_keeps h (runCommand_roundedTotals h .openJob ps) e
  | feed ps => exact whenPowered_keeps h (runCommand_roundedTotals h .feed ps) e
  | closeJob ps => exact whenPowered_keeps h (runCommand_roundedTotals h .closeJob ps) e
  | readLost ps => exact whenPowered_keeps h (runCommand_roundedTotals h .readLost ps) e
  | resume ps => exact whenPowered_keeps h (runCommand_roundedTotals h .resume ps) e
  | purgeStart ps => exact whenPowered_keeps h (runCommand_roundedTotals h .purgeStart ps) e
  | purgeEnd ps => exact whenPowered_keeps h (runCommand_roundedTotals h .purgeEnd ps) e
  | serviceClear ps => exact whenPowered_keeps h (runCommand_roundedTotals h .serviceClear ps) e
  | readMeters ps => exact whenPowered_keeps h (runCommand_roundedTotals h .readMeters ps) e
  | readRoster ps => exact whenPowered_keeps h (runCommand_roundedTotals h .readRoster ps) e
  | accountAdd ps => exact whenPowered_keeps h (runCommand_roundedTotals h .accountAdd ps) e
  | accountCredit ps => exact whenPowered_keeps h (runCommand_roundedTotals h .accountCredit ps) e
  | accountSet ps => exact whenPowered_keeps h (runCommand_roundedTotals h .accountSet ps) e
  | accountRemove ps => exact whenPowered_keeps h (runCommand_roundedTotals h .accountRemove ps) e
  | readAccount ps => exact whenPowered_keeps h (runCommand_roundedTotals h .readAccount ps) e
  | listAccounts ps => exact whenPowered_keeps h (runCommand_roundedTotals h .listAccounts ps) e
  | readStatement ps => exact whenPowered_keeps h (runCommand_roundedTotals h .readStatement ps) e
  | readRefunds ps => exact whenPowered_keeps h (runCommand_roundedTotals h .readRefunds ps) e
  | discardRefund ps => exact whenPowered_keeps h (runCommand_roundedTotals h .discardRefund ps) e
  | releaseEscrow ps => exact whenPowered_keeps h (runCommand_roundedTotals h .releaseEscrow ps) e
  | restart ps => exact whenPowered_keeps h (runCommand_roundedTotals h .restart ps) e
  | unknownCommandMessage bytes => exact whenPowered_keeps h (takeMessage_roundedTotals h bytes) e
  | readTransaction clocked => exact whenPowered_keeps h (readReply_roundedTotals h clocked) e
  | storeWriteComplete => exact whenDue_keeps h (storeCompletes_roundedTotals h) e
  | leadingEdge x =>
    simp only [exec, execLeadingEdge] at e
    refine whenPowered_keeps h ?_ e
    split
    · exact takeSensorEdge_roundedTotals h x _ fun y hy => matchLeading_roundedTotals hy x _
    · exact h
  | trailingEdge x =>
    simp only [exec, execTrailingEdge] at e
    refine whenPowered_keeps h ?_ e
    split
    · exact takeSensorEdge_roundedTotals h x _ fun y hy => matchTrailing_roundedTotals hy x _
    · exact h
  | doorOpenEdge =>
    simp only [exec, execDoorOpenEdge] at e
    refine whenPowered_keeps h ?_ e
    split
    · exact takeDoorEdge_roundedTotals h _ _
    · exact h
  | doorClosedEdge =>
    simp only [exec, execDoorClosedEdge] at e
    refine whenPowered_keeps h ?_ e
    split
    · exact takeDoorEdge_roundedTotals h _ _
    · exact h
  | windowDeadline n =>
    simp only [exec, execWindowDeadline] at e
    refine whenPowered_keeps h ?_ e
    split
    · exact deadlineJam_roundedTotals h _
    · exact h
  | purgeSettlingWaitEnd => exact whenDue_keeps h (judgePurge_roundedTotals h) e
  | periodicPostDue => exact whenDue_keeps h (postPeriodically_roundedTotals h) e
  | cardInsertion => exact whenDue_keeps h (insertCard_roundedTotals h) e
  | cardRemoval => exact whenDue_keeps h (takeRemoval_roundedTotals h) e
  | cardReadAnswer bytes => exact whenDue_keeps h ((readAnswered_roundedTotals s bytes).mpr h) e
  | cardWriteAck => exact whenDue_keeps h (writeAcknowledged_roundedTotals h) e
  | cardAnswerDeadline => exact whenDue_keeps h ((cardSilent_roundedTotals s).mpr h) e
  | roll head p => exact whenPowered_keeps h (hearByKind_roundedTotals h ⟨head, .roll p⟩) e
  | holdRequest head p => exact whenPowered_keeps h (hearByKind_roundedTotals h ⟨head, .holdRequest p⟩) e
  | topUpRequest head p => exact whenPowered_keeps h (hearByKind_roundedTotals h ⟨head, .topUpRequest p⟩) e
  | post head p => exact whenPowered_keeps h (hearByKind_roundedTotals h ⟨head, .post p⟩) e
  | holdAnswer head p => exact whenPowered_keeps h (hearByKind_roundedTotals h ⟨head, .holdAnswer p⟩) e
  | postAnswer head p => exact whenPowered_keeps h (hearByKind_roundedTotals h ⟨head, .postAnswer p⟩) e
  | escrowQuery head p => exact whenPowered_keeps h (hearByKind_roundedTotals h ⟨head, .escrowQuery p⟩) e
  | escrowAnswer head p => exact whenPowered_keeps h (hearByKind_roundedTotals h ⟨head, .escrowAnswer p⟩) e
  | escrowRelease head p => exact whenPowered_keeps h (hearByKind_roundedTotals h ⟨head, .escrowRelease p⟩) e
  | releaseAnswer head p => exact whenPowered_keeps h (hearByKind_roundedTotals h ⟨head, .releaseAnswer p⟩) e
  | frameDiscarded bytes =>
    simp only [exec, execFrameDiscarded] at e
    refine whenPowered_keeps h ?_ e
    split
    · exact hearByKind_roundedTotals h _
    · split <;> simpa using h
  | frameSendStart idle => exact whenPowered_keeps h ((sendStarts_roundedTotals s idle).mpr h) e
  | frameSent => exact whenPowered_keeps h ((frameSentWhole_roundedTotals s).mpr h) e
  | collision => exact whenPowered_keeps h (collide_roundedTotals h) e
  | exchangeAnswerDeadline => exact whenDue_keeps h (attemptFails_roundedTotals h) e
  | exchangeStart => exact whenPowered_keeps h ((startExchange_roundedTotals s).mpr h) e
  | joiningWindowEnd => exact whenDue_keeps h ((becomeMember_roundedTotals s).mpr h) e
  | rollAnswerDelayEnd => exact whenDue_keeps h ((answerRoll_roundedTotals s).mpr h) e
  | accountRequestTaken =>
    simp only [exec, execAccountRequestTaken] at e
    refine whenPowered_keeps h ?_ e
    split
    · exact takeRequest_roundedTotals h _
    · exact h
  | holdLapse id =>
    simp only [exec, execHoldLapse] at e
    refine whenPowered_keeps h ?_ e
    split
    · exact lapseHold_roundedTotals h _
    · exact h
  | outboundRound => exact whenDue_keeps h ((beginRound_roundedTotals s).mpr h) e
  | sensorSample l door => exact whenDue_keeps h ((setPath_roundedTotals s _).mpr h) e
  | cardPresenceSample p => exact whenDue_keeps h ((setCard_roundedTotals s _).mpr h) e
  | lineBusy => exact whenPowered_keeps h ((lineGoesBusy_roundedTotals s).mpr h) e

/-! #### The charge of a sheet -/

/-- A sheet's charge is its reservation or 1 mu less (R34, R36). -/
theorem reservation_le_charge_succ (delivered price : Nat) : reservation price ≤ charge delivered price + 1 := by
  simp only [charge, roundHalfUp, reservation]; omega

/-- A price in whole mu is charged as it was reserved, wherever D stands (R36). -/
theorem charge_whole {price : Nat} (h : price % 100 = 0) (delivered : Nat) :
    charge delivered price = reservation price := by
  simp only [charge, roundHalfUp, reservation]; omega

/-- A price of 1 hmu is charged 1 mu where it takes D to the half (R36). -/
theorem charge_one_iff (delivered : Nat) : charge delivered 1 = 1 ↔ delivered % 100 = 49 := by
  simp only [charge, roundHalfUp]; omega

/-- Where C stays within its limit, D stays within its own (R36). -/
theorem rounded.delivered_le {charged delivered : Nat} (h : rounded charged delivered) (hc : charged ≤ 999999) :
    delivered ≤ 99999949 := by
  simp only [rounded, roundHalfUp] at h; omega

/-- Settles O53: every command (`exec_roundedTotals`) and every count of the time base (`idle_roundedTotals`) keeps
C = round(D); the figures of a charge are arithmetic. -/
theorem chargedTotalIsTheRoundedDeliveredSum : Obligations.ChargedTotalIsTheRoundedDeliveredSum := by
  unfold Obligations.ChargedTotalIsTheRoundedDeliveredSum
  refine ⟨fun s t h e => ?_, fun delivered price => ?_, by decide, fun charged delivered h hc => h.delivered_le hc⟩
  · exact step_keeps (P := State.roundedTotals) (fun x l => (setPending_roundedTotals x l).mpr) exec_roundedTotals
      (fun x hx => idle_roundedTotals hx) h e
  · exact ⟨charge_le_reservation delivered price, reservation_le_charge_succ delivered price,
      (charge_whole · delivered), charge_one_iff delivered⟩

end Sys2Proof.Machine
end

section
/-! ## The stages of a price (R29 to R32) -/

namespace Sys2Proof.Machine

/-- The fields of a tariff are within their widths, and a duplex percentage is at most 100 (R26, R32). -/
structure Tariff.Fits (x : Tariff) : Prop where
  stdMono : x.stdMono ≤ 65535
  stdColour : x.stdColour ≤ 65535
  largeMono : x.largeMono ≤ 65535
  largeColour : x.largeColour ≤ 65535
  light : x.light ≤ 255
  normal : x.normal ≤ 255
  heavy : x.heavy ≤ 255
  full : x.full ≤ 255
  backFace : x.backFace ≤ 100

namespace Tariff

theorem Fits.base_le {x : Tariff} (h : x.Fits) (size : SheetSize) (mode : ColourMode) : x.base size mode ≤ 65535 := by
  cases size <;> cases mode
  · exact h.stdMono
  · exact h.stdColour
  · exact h.largeMono
  · exact h.largeColour

theorem Fits.coverage_le {x : Tariff} (h : x.Fits) (c : Nat) : x.coverage c ≤ 255 := by
  unfold coverage
  split_ifs
  · exact h.light
  · exact h.normal
  · exact h.heavy
  · exact h.full

/-- One face is at most 65,535 at 255 percent (R32). -/
theorem Fits.face_le {x : Tariff} (h : x.Fits) (d : Sheet) (c : Nat) : x.face d c ≤ 167114 := by
  unfold face
  split
  · exact (h.base_le _ _).trans (by decide)
  · calc x.base d.size .colour * x.coverage c / 100
        ≤ 65535 * 255 / 100 := Nat.div_le_div_right (Nat.mul_le_mul (h.base_le _ _) (h.coverage_le c))
      _ = 167114 := by decide

/-- A percentage of at most 100 of an amount is at most the amount. -/
theorem percent_le {a p : Nat} (hp : p ≤ 100) : a * p / 100 ≤ a :=
  Nat.div_le_of_le_mul (by rw [Nat.mul_comm]; exact Nat.mul_le_mul_right a hp)

/-- Two faces at their largest make the largest gross price (R32). -/
theorem Fits.gross_le {x : Tariff} (h : x.Fits) (d : Sheet) : x.gross d ≤ 334228 := by
  have front := h.face_le d d.front
  have back := (percent_le h.backFace).trans (h.face_le d d.back)
  unfold gross
  split_ifs <;> omega

/-- A later stage only lowers the gross price (R30, R31). -/
theorem price_le_gross (x : Tariff) (d : Sheet) (n discount : Nat) : x.price d n discount ≤ x.gross d :=
  (percent_le (Nat.sub_le ..)).trans (percent_le (Nat.sub_le ..))

/-- With nothing to pay for its faces a sheet costs nothing. -/
theorem price_of_gross_eq_zero {x : Tariff} {d : Sheet} (h : x.gross d = 0) (n discount : Nat) :
    x.price d n discount = 0 := by
  simp [price, h]

/-- A face costs its base, for COLOUR at its coverage (R29). -/
theorem face_eq (x : Tariff) (d : Sheet) (c : Nat) :
    x.face d c =
      if d.mode = .mono then x.base d.size d.mode else x.base d.size d.mode * x.coverage c / 100 := by
  cases hm : d.mode <;> simp [face, hm]

/-- A base of 0 makes every face 0 (R32). -/
theorem gross_of_base_eq_zero {x : Tariff} {d : Sheet} (h : x.base d.size d.mode = 0) : x.gross d = 0 := by
  have face (c : Nat) : x.face d c = 0 := by
    simp [face_eq, h]
  simp [gross, face]

/-- A single COLOUR face costs its base at its coverage (R29). -/
theorem gross_single {x : Tariff} {d : Sheet} (hm : d.mode = .colour) (hf : d.faces = 1) :
    x.gross d = x.base d.size .colour * x.coverage d.front / 100 := by
  simp [gross, face_eq, hm, hf]

/-- The tiers follow one another, and none discounts less than the one before it: a later ordinal has at least the
discount of an earlier one (R26, R30). -/
theorem tier_mono {x : Tariff} (ht12 : x.t1 < x.t2) (ht23 : x.t2 < x.t3) (hd01 : x.d0 ≤ x.d1) (hd12 : x.d1 ≤ x.d2)
    (hd23 : x.d2 ≤ x.d3) {n k : Nat} (hk : n ≤ k) : x.tier n ≤ x.tier k := by
  unfold tier
  split_ifs <;> omega

/-- A higher discount of the tier gives no higher price. -/
theorem price_le_of_tier_le {x : Tariff} {n k : Nat} (h : x.tier n ≤ x.tier k) (d : Sheet) (discount : Nat) :
    x.price d k discount ≤ x.price d n discount := by
  unfold price
  gcongr

end Tariff

/-- A reservation is the price rounded up to whole mu (R34). -/
theorem reservation_bounds (p : Nat) : p ≤ 100 * reservation p ∧ 100 * reservation p < p + 100 := by
  unfold reservation; omega

/-- Settles O52, stage by stage of `Tariff.price`. -/
theorem pricesAreBuiltInStagesWithinTheirRange : Obligations.PricesAreBuiltInStagesWithinTheirRange := by
  unfold Obligations.PricesAreBuiltInStagesWithinTheirRange
  refine ⟨fun x d n discount hsm hsc hlm hlc hl hn hh hf hb => ?_, fun x n hc hf hb ht => ?_,
    fun x d n discount => ⟨fun hbase => ?_, fun hm hf hc => ?_, fun hm hf hbase hc => ?_⟩, fun x d n discount => ?_⟩
  · have gross := Tariff.Fits.gross_le ⟨hsm, hsc, hlm, hlc, hl, hn, hh, hf, hb⟩ d
    have afterTier := (Tariff.percent_le (Nat.sub_le 100 (x.tier n))).trans gross
    exact ⟨gross, (x.price_le_gross d n discount).trans gross, Nat.mul_le_mul gross (Nat.sub_le ..),
      Nat.mul_le_mul afterTier (Nat.sub_le ..)⟩
  · simp [Tariff.price, Tariff.gross, Tariff.face, Tariff.base, Tariff.coverage, hc, hf, hb, ht]
  · exact Tariff.price_of_gross_eq_zero (Tariff.gross_of_base_eq_zero hbase) n discount
  · exact Tariff.price_of_gross_eq_zero (by simp [Tariff.gross_single hm hf, hc]) n discount
  · exact Tariff.price_of_gross_eq_zero (by simp [Tariff.gross_single hm hf, hbase, hc]) n discount
  · intro base cover face gross tier
    have cover_eq : x.coverage = cover := by
      funext c
      match c with
      | 0 | 1 | 2 => rfl
      | c + 3 => simp [Tariff.coverage, cover]
    have face_eq (c : Nat) : x.face d c = face c := by
      rw [Tariff.face_eq, cover_eq]
      rfl
    have gross_eq : x.gross d = gross := by
      rw [Tariff.gross, face_eq, face_eq]
    refine ⟨?_, reservation_bounds, fun ht12 ht23 hd01 hd12 hd23 k hk =>
      Tariff.price_le_of_tier_le (Tariff.tier_mono ht12 ht23 hd01 hd12 hd23 hk) d discount⟩
    rw [Tariff.price, gross_eq]
    rfl

end Sys2Proof.Machine
end

section
/-! ## LOAD TARIFF, LOAD PROFILE and SET OPTIONS (R27, R28, R46, R47, R184) -/

namespace Sys2Proof.Machine

/-! ### A command's store write (R174, R181) -/

/-- The result of the command in hand is kept until its write has a place (R174). -/
theorem holdResult_port {s : State} {o : Opcode} (h : s.port.state = .executing o) (r : Reason) (v : Values) :
    (holdResult r v s).port =
      { s.port with held := some { command := some o, reason := r, values := v } } := by
  simp [holdResult, h]

/-- A command in hand whose write goes to a store in order: the write joins those in hand, and the result is placed or
kept by the room in the queue (R174, R181). -/
theorem submitAndAnswer_writesAndAnswers {s x : State} {o : Opcode} {w : RecordWrite} (hport : x.port.state = .executing o)
    (hstore : x.store = s.store) (ho : s.store.orderly) (hw : w.isMeters = false) (v : Values) :
    s.writesAndAnswers o w v (submitAndAnswer w v x) := by
  have writes := submit_writes .command w x (hstore ▸ ho) (begun_of_not_meters _ _ hw)
  have port : (submit .command w x).port.state = .executing o := by simpa using hport
  unfold submitAndAnswer
  split
  next room =>
    rw [hstore] at room writes
    exact ⟨by simpa using writes, by simp [hstore], fun _ => complete_holdsResult _ _ port,
      fun full => absurd room (Nat.not_lt.mpr full)⟩
  next full =>
    rw [hstore] at full writes
    refine ⟨by simpa using writes, by simp [hstore], fun room => absurd room full, fun _ => ?_⟩
    rw [holdResult_port port]
    exact ⟨port, rfl⟩

/-! ### The commands taken by the port -/

@[simp] theorem discardResult_table (s : State) : (discardResult s).accounts.table = s.accounts.table := by
  unfold discardResult; split <;> rfl

section
variable {s : State} (h : s.accepts) {ps : List Byte} (hp : ps.length ≤ 240)
include h hp

theorem execLoadTariff_taken : exec (.loadTariff ps) s = .next (loadTariff ps (commandTaken .loadTariff s)) := by
  show whenPowered s (loadTariffCommand ps) = _
  rw [whenPowered_on _ _ h.1, loadTariffCommand, takeCommand_taken _ _ _ _ h.2 hp, commandTaken]

theorem execLoadProfile_taken : exec (.loadProfile ps) s = .next (loadProfile ps (commandTaken .loadProfile s)) := by
  show whenPowered s (loadProfileCommand ps) = _
  rw [whenPowered_on _ _ h.1, loadProfileCommand, takeCommand_taken _ _ _ _ h.2 hp, commandTaken]

theorem execSetOptions_taken : exec (.setOptions ps) s = .next (setOptions ps (commandTaken .setOptions s)) := by
  show whenPowered s (setOptionsCommand ps) = _
  rw [whenPowered_on _ _ h.1, setOptionsCommand, takeCommand_taken _ _ _ _ h.2 hp, commandTaken]

end

/-! ### What each of them does -/

section
variable {s : State} {ps : List Byte}

theorem loadTariff_open (h : s.job.ctx.state ≠ .none) : loadTariff ps s = complete .jobOpen .none s := by
  simp [loadTariff, State.jobOpen, h]

theorem loadTariff_bad (h : s.job.ctx.state = .none) (hx : ∀ x, Tariff.read ps = some x → x.inRange = false) :
    loadTariff ps s = complete .badParam .none s := by
  unfold loadTariff
  rw [if_neg (by simp [State.jobOpen, h])]
  split
  · rfl
  · rename_i x hr
    simp [hx x hr]

theorem loadTariff_good (h : s.job.ctx.state = .none) {x : Tariff} (hr : Tariff.read ps = some x)
    (hx : x.inRange = true) : loadTariff ps s = submitAndAnswer (.tariff x) .none (s.setTariff (some x)) := by
  simp [loadTariff, State.jobOpen, h, hr, hx]

theorem loadProfile_open (h : s.job.ctx.state ≠ .none) : loadProfile ps s = complete .jobOpen .none s := by
  simp [loadProfile, State.jobOpen, h]

theorem loadProfile_moving (h : s.job.ctx.state = .none) (hp : s.path.state ≠ .idle) :
    loadProfile ps s = complete .wrongState .none s := by
  simp [loadProfile, State.jobOpen, h, hp]

theorem loadProfile_bad (h : s.job.ctx.state = .none) (hp : s.path.state = .idle)
    (hx : ∀ x, Profile.read ps = some x → x.inRange = false) : loadProfile ps s = complete .badParam .none s := by
  unfold loadProfile
  rw [if_neg (by simp [State.jobOpen, h]), if_neg (by simp [hp])]
  split
  · rfl
  · rename_i x hr
    simp [hx x hr]

theorem loadProfile_good (h : s.job.ctx.state = .none) (hp : s.path.state = .idle) {x : Profile}
    (hr : Profile.read ps = some x) (hx : x.inRange = true) :
    loadProfile ps s = submitAndAnswer (.profile x) .none (s.setPath { s.path with profile := some x }) := by
  simp [loadProfile, State.jobOpen, h, hp, hr, hx]

theorem setOptions_bad (h : Options.readFields ps = none) : setOptions ps s = complete .badParam .none s := by
  simp [setOptions, h]

theorem setOptions_protected {o : Options} (h : Options.readFields ps = some o)
    (hk : optionsKeep o s.accounts.table = false) : setOptions ps s = complete .isProtected .none s := by
  simp [setOptions, h, hk]

theorem setOptions_good {o : Options} (h : Options.readFields ps = some o)
    (hk : optionsKeep o s.accounts.table = true) :
    setOptions ps s = submitAndAnswer (.options (ps ++ spell 2 (optionCheck ps))) .none s := by
  simp [setOptions, h, hk, optionRecord]

/-- A station keeps its accounts with a station number and with a home range that holds each of them (R184). -/
theorem optionsKeep_iff (o : Options) (table : List Account) :
    optionsKeep o table = true ↔
      ∀ a ∈ table, o.station ≠ none ∧ ∃ h, o.home = some h ∧ h.first ≤ a.number ∧ a.number ≤ h.last := by
  cases hh : o.home <;> simp [optionsKeep, hh, HomeRange.contains, Option.isSome_iff_ne_none]

/-- An account that would not be kept protects the options (R184). -/
theorem optionsKeep_eq_false {o : Options} {table : List Account}
    (h : ∃ a ∈ table, o.station = none ∨ o.home = none ∨
      ∃ r, o.home = some r ∧ (a.number < r.first ∨ r.last < a.number)) : optionsKeep o table = false := by
  obtain ⟨a, ha, lacks⟩ := h
  rw [Bool.eq_false_iff, ne_eq, optionsKeep_iff]
  intro keeps
  obtain ⟨station, r, home, first, last⟩ := keeps a ha
  rcases lacks with none | none | ⟨r', home', out⟩
  · exact station none
  · simp [none] at home
  · obtain rfl : r' = r := by simpa [home'] using home
    omega

end

/-- Settles O10, refusal by refusal in the order of each command, and by `submitAndAnswer_writesAndAnswers` where the
table is taken. -/
theorem loadsAndOptionsReplaceTheirRecords : Obligations.LoadsAndOptionsReplaceTheirRecords := by
  unfold Obligations.LoadsAndOptionsReplaceTheirRecords
  refine ⟨fun s ps ha hp => ⟨fun hj => ⟨?_, ?_⟩, fun hj hi => ?_, fun hj hx => ?_, fun hj hi hx => ?_,
      fun x hj ho hr hx => ?_, fun x hj hi ho hr hx => ?_⟩,
    fun s ps ha hp => ⟨fun hr => ?_, fun o hr => ⟨fun lacks => ?_, fun ho keeps => ?_⟩⟩⟩
  · rw [execLoadTariff_taken ha hp, loadTariff_open (by simpa using hj), complete_commandTaken]
  · rw [execLoadProfile_taken ha hp, loadProfile_open (by simpa using hj), complete_commandTaken]
  · rw [execLoadProfile_taken ha hp, loadProfile_moving (by simpa using hj) (by simpa using hi), complete_commandTaken]
  · rw [execLoadTariff_taken ha hp, loadTariff_bad (by simpa using hj) hx, complete_commandTaken]
  · rw [execLoadProfile_taken ha hp, loadProfile_bad (by simpa using hj) (by simpa using hi) hx, complete_commandTaken]
  · refine ⟨_, execLoadTariff_taken ha hp, ?_⟩
    rw [loadTariff_good (by simpa using hj) hr hx]
    exact ⟨by simp, submitAndAnswer_writesAndAnswers rfl (by simp) ho rfl _, by simp [State.unchangedBut]⟩
  · refine ⟨_, execLoadProfile_taken ha hp, ?_⟩
    rw [loadProfile_good (by simpa using hj) (by simpa using hi) hr hx]
    exact ⟨by simp, submitAndAnswer_writesAndAnswers rfl (by simp) ho rfl _, by simp [State.unchangedBut]⟩
  · rw [execSetOptions_taken ha hp, setOptions_bad hr, complete_commandTaken]
  · rw [execSetOptions_taken ha hp, setOptions_protected hr (optionsKeep_eq_false (by simpa using lacks)),
      complete_commandTaken]
  · refine ⟨_, execSetOptions_taken ha hp, ?_⟩
    rw [setOptions_good hr ((optionsKeep_iff _ _).mpr (by simpa using keeps))]
    exact ⟨submitAndAnswer_writesAndAnswers rfl (by simp) ho rfl _, by simp [State.unchangedBut]⟩

end Sys2Proof.Machine
end

section
/-! ## The law of capacities (R43, R51, R75, R81, R173, R179, R181): what leaves its parts alone

A lemma `State.withinCapacities.f` says that the operation `f` keeps the law, so that a chain of operations is followed
from the state it starts on: `(h.setJob (by rfl)).complete`. The `by rfl` says that the replaced block has the parts that
the law bounds as they were; it waits until the block is known, as a bare `rfl` would not. -/

namespace Sys2Proof.Machine

/-- Every filter's count is at most 2 (R43). -/
structure Filters.counted (f : Filters) : Prop where
  feed : f.feed.count ≤ 2
  reg : f.reg.count ≤ 2
  fuse : f.fuse.count ≤ 2
  duplex : f.duplex.count ≤ 2
  exit : f.exit.count ≤ 2
  door : f.door.count ≤ 2

/-- The law of capacities, block by block. -/
theorem State.withinCapacities_of {s : State} (notices : s.port.notices.length ≤ 16) (refused : s.port.refused ≤ 255)
    (sheets : s.path.queue.length ≤ 6) (filters : s.path.filters.counted) (tags : s.job.lostList.tags.length ≤ 12)
    (presence : s.card.presence.count ≤ 2) (store : s.store.orderly) : s.withinCapacities :=
  ⟨notices, sheets, tags, refused, filters.feed, filters.reg, filters.fuse, filters.duplex, filters.exit, filters.door,
    presence, store⟩

/-- A store with nothing to write is in order (R181). -/
theorem Store.quiet_orderly (r : StoreRecords) : (Store.quiet r).orderly :=
  ⟨fun _ => rfl, Nat.zero_le 8, fun h => (h rfl).elim⟩

section
variable {s : State} (h : s.withinCapacities)
include h

theorem State.withinCapacities.filters : s.path.filters.counted := ⟨h.feed, h.reg, h.fuse, h.duplex, h.exit, h.door⟩

/-! ### One block replaced -/

theorem State.withinCapacities.setTariff {t : Option Tariff} : (s.setTariff t).withinCapacities := { h with }
theorem State.withinCapacities.setLine {l : LineUnit} : (s.setLine l).withinCapacities := { h with }
theorem State.withinCapacities.setAccounts {a : AccountUnit} : (s.setAccounts a).withinCapacities := { h with }
theorem State.withinCapacities.setSettle {u : SettlementUnit} : (s.setSettle u).withinCapacities := { h with }
theorem State.withinCapacities.setMeter {m : MeterUnit} : (s.setMeter m).withinCapacities := { h with }
theorem State.withinCapacities.setPending {l : List Instr} : (s.setPending l).withinCapacities := { h with }
theorem State.withinCapacities.advanceFree : (advanceFree s).withinCapacities := { h with }
theorem State.withinCapacities.setCtx {c : JobContext} : (s.setCtx c).withinCapacities := { h with }

theorem State.withinCapacities.setPort {p : Port} (hp : (p.notices, p.refused) = (s.port.notices, s.port.refused)) :
    (s.setPort p).withinCapacities := by
  obtain ⟨hn, hr⟩ := Prod.mk.inj hp
  exact { h with notices := hn ▸ h.notices, refused := hr ▸ h.refused }

theorem State.withinCapacities.setLost {j : JobUnit} (hl : j.lostList.tags.length ≤ 12) :
    (s.setJob j).withinCapacities :=
  { h with tags := hl }

theorem State.withinCapacities.setJob {j : JobUnit} (hl : j.lostList = s.job.lostList) :
    (s.setJob j).withinCapacities := h.setLost (hl ▸ h.tags)

theorem State.withinCapacities.setTracking {p : PathMonitor} (hq : p.queue.length ≤ 6) (hf : p.filters.counted) :
    (s.setPath p).withinCapacities := withinCapacities_of h.notices h.refused hq hf h.tags h.presence h.store

theorem State.withinCapacities.setPath {p : PathMonitor}
    (hp : (p.queue, p.filters) = (s.path.queue, s.path.filters)) : (s.setPath p).withinCapacities := by
  obtain ⟨hq, hf⟩ := Prod.mk.inj hp
  exact h.setTracking (hq ▸ h.sheets) (hf ▸ h.filters)

theorem State.withinCapacities.setSwitch {c : CardUnit} (hc : c.presence.count ≤ 2) : (s.setCard c).withinCapacities :=
  { h with presence := hc }

theorem State.withinCapacities.setCard {c : CardUnit} (hc : c.presence = s.card.presence) :
    (s.setCard c).withinCapacities := h.setSwitch (hc ▸ h.presence)

theorem State.withinCapacities.setStore {x : Store} (hx : x.orderly) : (s.setStore x).withinCapacities :=
  { h with store := hx }

/-! ### The port -/

/-- A full notice queue takes no further notice (R179). -/
theorem State.withinCapacities.raiseNotice {b : NoticeBody} : (raiseNotice b s).withinCapacities := by
  unfold Machine.raiseNotice
  split
  · exact { h with notices := by simpa using ‹_› }
  · exact h.setPort (by rfl)

theorem State.withinCapacities.placeResult {r : Result} : (placeResult r s).withinCapacities :=
  { h with refused := Nat.zero_le _ }

theorem State.withinCapacities.complete {r : Reason} {v : Values} : (complete r v s).withinCapacities := by
  unfold Machine.complete
  split
  · exact h.placeResult
  · exact h

theorem State.withinCapacities.holdResult {r : Reason} {v : Values} : (holdResult r v s).withinCapacities := by
  unfold Machine.holdResult
  split
  · exact h.setPort (by rfl)
  · exact h

theorem State.withinCapacities.releaseHeld : (releaseHeld s).withinCapacities := by
  unfold Machine.releaseHeld
  split
  · exact h.placeResult
  · exact h

theorem State.withinCapacities.discardResult : (discardResult s).withinCapacities := by
  unfold Machine.discardResult
  split
  · exact (h.setPort (by rfl)).setMeter.setAccounts
  · exact h

/-- The refused count saturates (R173). -/
theorem State.withinCapacities.countRefused :
    (s.setPort { s.port with refused := min 255 (s.port.refused + 1) }).withinCapacities :=
  { h with refused := Nat.min_le_left _ _ }

theorem State.withinCapacities.takeCommand {o : Opcode} {ps : List Byte} {owner : State → State}
    (ho : ∀ x : State, x.withinCapacities → (owner x).withinCapacities) :
    (takeCommand o ps owner s).withinCapacities := by
  unfold Machine.takeCommand
  split
  · exact h.countRefused
  · dsimp only
    split
    · exact h.discardResult.placeResult
    · exact ho _ (h.discardResult.setPort (by rfl))

theorem State.withinCapacities.takeBare {o : Opcode} {ps : List Byte} {owner : State → State}
    (ho : ∀ x : State, x.withinCapacities → (owner x).withinCapacities) : (takeBare o ps owner s).withinCapacities :=
  h.takeCommand fun x hx => by
    split
    · exact ho x hx
    · exact hx.complete

/-! ### The store and the meters -/

/-- With a write in progress, or begun at once, the store is never idle with a queue (R181). -/
theorem State.withinCapacities.submit {t : WriteTag} {w : RecordWrite} : (submit t w s).withinCapacities := by
  obtain ⟨x, hx⟩ := submit_store_only t w s
  have ho := submit_orderly t w s h.store
  rw [hx] at ho ⊢
  exact h.setStore ho

theorem State.withinCapacities.submitAll {t : WriteTag} {l : List RecordWrite} :
    (l.foldl (fun x w => Machine.submit t w x) s).withinCapacities := by
  induction l generalizing s with
  | nil => exact h
  | cons w rest ih => exact ih h.submit

theorem State.withinCapacities.submitAndAnswer {w : RecordWrite} {v : Values} :
    (submitAndAnswer w v s).withinCapacities := by
  unfold Machine.submitAndAnswer
  split
  · exact h.submit.complete
  · exact h.submit.holdResult

theorem State.withinCapacities.noteMeters : (noteMeters s).withinCapacities := by
  rcases noteMeters_cases s with e | e | e <;> rw [e]
  · exact h
  · exact h.setStore h.store
  · exact h.submit

theorem State.withinCapacities.addMeters {n : MetersOf Nat} : (addMeters n s).withinCapacities := by
  unfold Machine.addMeters
  split
  · exact h
  · exact h.setMeter.noteMeters

/-! ### What the blocks ask of one another -/

theorem State.withinCapacities.askExchange {x : Source} {d : Nat} {b : Payload} {n : Nat} :
    (askExchange x d b n s).withinCapacities := h.setLine
theorem State.withinCapacities.readyFrame {p : Place} {f : Frame} : (readyFrame p f s).withinCapacities := h.setLine
theorem State.withinCapacities.emptyPlace {p : Place} : (emptyPlace p s).withinCapacities := h.setLine
theorem State.withinCapacities.markPresence {n : Nat} {b : Bool} : (markPresence n b s).withinCapacities := h.setLine
theorem State.withinCapacities.handOwn {o : Origin} {b : Payload} : (handOwn o b s).withinCapacities := h.setAccounts
theorem State.withinCapacities.startWrite {p : WritePurpose} {i : PurseImage} {q : Purse} :
    (startWrite p i q s).withinCapacities := h.setCard (by rfl)

theorem State.withinCapacities.dropExchanges {x : Source} : (dropExchanges x s).withinCapacities := by
  unfold Machine.dropExchanges
  dsimp only
  split
  · exact h.setLine.setLine.emptyPlace
  · exact h.setLine

theorem State.withinCapacities.setOutbound {l : List OutEntry} : (setOutbound l s).withinCapacities :=
  h.setSettle.submit
theorem State.withinCapacities.addOutbound {e : OutEntry} : (addOutbound e s).withinCapacities := h.setOutbound
theorem State.withinCapacities.setRefunds {t : WriteTag} {l : List RefundEntry} :
    (setRefunds t l s).withinCapacities := (h.setCard (by rfl)).submit
theorem State.withinCapacities.fillRefund {serial tag charged : Nat} :
    (fillRefund serial tag charged s).withinCapacities := (h.setCard (by rfl)).setRefunds

theorem State.withinCapacities.removeRefund {serial tag : Nat} : (removeRefund serial tag s).withinCapacities := by
  unfold Machine.removeRefund
  split
  · exact h.setRefunds
  · exact h

theorem State.withinCapacities.enterPath {p : PathState} : (enterPath p s).withinCapacities := by
  unfold Machine.enterPath
  dsimp only
  split <;> exact h.setPath (by rfl)

end

end Sys2Proof.Machine
end

section
/-! ### The job unit keeps the law of capacities -/

namespace Sys2Proof.Machine

/-- A full lost list loses its oldest entry to the new one (R75). -/
theorem LostList.join_length {l : LostList} (h : l.tags.length ≤ 12) (t : Tag) : (l.join t).tags.length ≤ 12 := by
  unfold LostList.join
  split
  · simpa using ‹_›
  · simp only [List.length_append, List.length_tail, List.length_singleton]; omega

section
variable {s : State} (h : s.withinCapacities)
include h

/-! #### The end of a job and its settlement -/

theorem State.withinCapacities.writeCheckpoint : (writeCheckpoint s).withinCapacities := by
  unfold Machine.writeCheckpoint
  split
  · exact h.submit
  · exact h

theorem State.withinCapacities.takeSerial {t : WriteTag} : (takeSerial t s).withinCapacities :=
  (h.setJob (by rfl)).submit

theorem State.withinCapacities.jobToNone : (jobToNone s).withinCapacities :=
  ((h.setJob (by rfl)).setCard (by rfl)).setSettle.dropExchanges

theorem State.withinCapacities.endJob {route : Route} : (endJob route s).withinCapacities := by
  have ended := (h.addMeters (n := { MetersOf.zero with jobs := FundsOf.only s.job.ctx.funding 1 })).raiseNotice
    (b := .jobEnd (s.job.ctx.endItems route)) |>.submit (t := .plain) (w := .checkpoint none) |>.jobToNone
  unfold Machine.endJob
  dsimp only
  split
  · exact ended.enterPath
  · exact ended

theorem State.withinCapacities.whenSettling {f : State → State} (hf : (f s).withinCapacities) :
    (whenSettling f s).withinCapacities := by
  unfold Machine.whenSettling
  split
  · exact hf
  · exact h

theorem State.withinCapacities.settleByRefund : (settleByRefund s).withinCapacities :=
  h.whenSettling (by
    split
    · exact h.fillRefund.endJob
    · exact h.endJob)

theorem State.withinCapacities.settleByQueue : (settleByQueue s).withinCapacities :=
  h.whenSettling (by
    split
    · exact h.setSettle.addOutbound.endJob
    · exact h.endJob)

theorem State.withinCapacities.settlementWritten : (settlementWritten s).withinCapacities :=
  h.whenSettling (by
    dsimp only
    split
    · exact h.removeRefund.endJob
    · exact h.endJob)

theorem State.withinCapacities.settlePurse : (settlePurse s).withinCapacities := by
  unfold Machine.settlePurse
  split
  · exact h.endJob
  · split
    · split
      · exact h.startWrite
      · exact h.settleByRefund
    · exact h.settleByRefund

/-! #### Requests -/

theorem State.withinCapacities.topUpRefused : (topUpRefused s).withinCapacities := h.setCtx
theorem State.withinCapacities.topUpLapsed : (topUpLapsed s).withinCapacities := h.setCtx
theorem State.withinCapacities.acknowledge {posted : Nat} : (acknowledge posted s).withinCapacities := h.setCtx

theorem State.withinCapacities.jobRequestNoLine {r : JobRequest} : (jobRequestNoLine r s).withinCapacities := by
  cases r with
  | topUp => exact h.topUpRefused.raiseNotice
  | periodicPost => exact h
  | finalPost => exact h.settleByQueue

theorem State.withinCapacities.handRequests {l : List JobRequest} : (handRequests l s).withinCapacities := by
  induction l generalizing s with
  | nil => exact h
  | cons r rest ih =>
    have taken : (s.setJob { s.job with waiting := rest }).withinCapacities := h.setJob (by rfl)
    unfold Machine.handRequests
    dsimp only
    split_ifs
    · exact h
    · exact taken.handOwn
    · exact taken.askExchange
    · exact ih taken.jobRequestNoLine

theorem State.withinCapacities.pumpJob : (pumpJob s).withinCapacities := h.handRequests
theorem State.withinCapacities.askJob {r : JobRequest} : (askJob r s).withinCapacities := (h.setJob (by rfl)).pumpJob

theorem State.withinCapacities.settleAccount : (settleAccount s).withinCapacities := by
  unfold Machine.settleAccount
  split
  · exact h.askJob
  · exact (h.setJob (by rfl)).askJob

theorem State.withinCapacities.enterSettling : (enterSettling s).withinCapacities := by
  have settling : (s.setJob { s.job with
      ctx := { s.job.ctx with state := .settling }, postDue := none }).withinCapacities :=
    h.setJob (by rfl)
  unfold Machine.enterSettling
  dsimp only
  split
  · exact settling.settlePurse
  · exact settling.settleAccount

theorem State.withinCapacities.stopFeeding {reason : CloseReason} : (stopFeeding reason s).withinCapacities := by
  unfold Machine.stopFeeding
  dsimp only
  split
  · split
    · exact h.setCtx.enterSettling
    · exact h.setCtx.setCtx
  · exact h.setCtx.enterSettling
  · exact h

/-! #### Opening -/

/-- The lost list is emptied (R7, R75). -/
theorem State.withinCapacities.enterRunning : (enterRunning s).withinCapacities :=
  (h.setLost (Nat.zero_le _)).writeCheckpoint.enterPath

theorem State.withinCapacities.openPurse {i : PurseImage} : (openPurse i s).withinCapacities := by
  unfold Machine.openPurse
  dsimp only
  split_ifs
  · exact h.complete
  · exact h.complete
  · exact (h.takeSerial.setCard (by rfl)).setCtx.enterRunning.complete
  · exact (h.takeSerial.setCard (by rfl)).setCtx.enterRunning.holdResult

theorem State.withinCapacities.takeFunding {kind : FundingKind} {amount discount : Nat} :
    (takeFunding kind amount discount s).withinCapacities := by
  unfold Machine.takeFunding
  dsimp only
  split
  · exact h.setCtx.setCtx.writeCheckpoint.complete.enterSettling
  · exact (h.setCtx.setJob (by rfl)).enterRunning.complete

theorem State.withinCapacities.refuseOpening {r : Reason} : (refuseOpening r s).withinCapacities := h.jobToNone.complete

theorem State.withinCapacities.homeUnreachable : (homeUnreachable s).withinCapacities := by
  unfold Machine.homeUnreachable
  split
  · exact h.takeFunding
  · exact h.refuseOpening

theorem State.withinCapacities.firstHold {asked : Nat} {o : ExchangeOutcome} :
    (firstHold asked o s).withinCapacities := by
  unfold Machine.firstHold
  split
  · exact h
  · split
    · split_ifs
      · exact h.refuseOpening
      · exact h.takeFunding
      · exact h.refuseOpening
    · exact h.refuseOpening
    · exact h.homeUnreachable
    · exact h.refuseOpening

theorem State.withinCapacities.openAccount {number : Nat} {card : Option Nat} :
    (openAccount number card s).withinCapacities := by
  unfold Machine.openAccount
  split
  · exact h.complete
  · split
    · dsimp only
      split_ifs
      · exact h.complete
      · exact h.complete
      · exact (h.takeSerial.setSettle.setJob (by rfl)).handOwn
      · exact (h.takeSerial.setSettle.setJob (by rfl)).askExchange
      · exact (h.takeSerial.setSettle.setJob (by rfl)).homeUnreachable
    · exact h.complete

/-! #### The feed gate -/

/-- A sheet is granted only a path with fewer than 6 (R51); a redo takes a tag off the lost list (R77). -/
theorem State.withinCapacities.grantFeed {f : PendingFeed} : (grantFeed f s).withinCapacities := by
  unfold Machine.grantFeed
  dsimp only
  split
  · rename_i room
    refine State.withinCapacities.complete (State.withinCapacities.setLost (h.setTracking ?_ ?_) ?_)
    · simpa using room.2
    · exact h.filters
    · exact List.length_erase_le.trans h.tags
  · exact (h.setJob (by rfl)).complete

theorem State.withinCapacities.refuseFeed {r : Reason} : (refuseFeed r s).withinCapacities :=
  (h.setJob (by rfl)).complete

theorem State.withinCapacities.retakeFeed : (retakeFeed s).withinCapacities := by
  unfold Machine.retakeFeed
  split
  · exact h
  · split
    · split
      · exact h.grantFeed
      · exact h.refuseFeed
    · exact h.refuseFeed
    · exact h.refuseFeed

theorem State.withinCapacities.seekPurse {f : PendingFeed} : (seekPurse f s).withinCapacities := by
  unfold Machine.seekPurse
  dsimp only
  split
  · split_ifs
    · exact h.complete
    · exact h.complete
    · exact (h.setJob (by rfl)).startWrite
  · exact h.complete

theorem State.withinCapacities.seekAccount {f : PendingFeed} : (seekAccount f s).withinCapacities := by
  unfold Machine.seekAccount
  dsimp only
  split
  · exact h.complete
  · split_ifs
    · exact (h.setJob (by rfl)).askJob
    · exact h.complete
    · exact h.complete
    · exact h.topUpRefused.complete
    · exact h.setCtx.askJob.complete

theorem State.withinCapacities.feedGate {tag : Tag} {d : Sheet} : (feedGate tag d s).withinCapacities := by
  unfold Machine.feedGate
  dsimp only
  split_ifs
  · exact h.complete
  · exact h.complete
  · split
    · exact h.complete
    · split_ifs
      · exact h.complete
      · exact h.grantFeed
      · split
        · exact h.seekPurse
        · exact h.seekAccount
        · exact h.complete

/-! #### Moves, top-ups and posts -/

theorem State.withinCapacities.moveCompleted {m tag : Nat} : (moveCompleted m tag s).withinCapacities :=
  h.setCtx.writeCheckpoint.retakeFeed

theorem State.withinCapacities.moveUncertain : (moveUncertain s).withinCapacities := h.refuseFeed.stopFeeding

theorem State.withinCapacities.topUpGranted {g : Nat} : (topUpGranted g s).withinCapacities := h.setCtx.writeCheckpoint

theorem State.withinCapacities.localTopUp {a : HoldAnswerFields} : (localTopUp a s).withinCapacities := by
  unfold Machine.localTopUp
  split_ifs
  · exact h.topUpGranted.retakeFeed
  · exact h.topUpLapsed.refuseFeed
  · exact h.topUpRefused.refuseFeed

theorem State.withinCapacities.remoteTopUp {asked : Nat} {o : ExchangeOutcome} :
    (remoteTopUp asked o s).withinCapacities := by
  unfold Machine.remoteTopUp
  split
  · split_ifs
    · exact h.topUpRefused.raiseNotice
    · exact h.topUpGranted.raiseNotice
    · exact h.topUpLapsed.raiseNotice
    · exact h.topUpRefused.raiseNotice
  all_goals exact h.topUpRefused.raiseNotice

theorem State.withinCapacities.periodicOutcome {o : ExchangeOutcome} : (periodicOutcome o s).withinCapacities := by
  unfold Machine.periodicOutcome
  split
  · split_ifs
    · exact h.acknowledge.writeCheckpoint
    · exact h.acknowledge.topUpLapsed.raiseNotice.writeCheckpoint
    · exact h
    · exact h.topUpLapsed.raiseNotice
  · exact h.topUpLapsed.raiseNotice
  · exact h
  · exact h

theorem State.withinCapacities.finalFailed {status : Nat} : (finalFailed status s).withinCapacities := by
  unfold Machine.finalFailed
  split
  · exact h.raiseNotice.endJob
  · exact h.endJob

theorem State.withinCapacities.finalAcknowledged {posted : Nat} : (finalAcknowledged posted s).withinCapacities := by
  unfold Machine.finalAcknowledged
  split
  · exact h
  · exact h.acknowledge.writeCheckpoint

theorem State.withinCapacities.finalOutcome {o : ExchangeOutcome} : (finalOutcome o s).withinCapacities :=
  h.whenSettling (by
    split
    · split
      · exact h.finalAcknowledged.endJob
      · exact h.finalFailed
    · exact h.finalFailed
    · exact h.settleByQueue
    · exact h.settleByQueue)

theorem State.withinCapacities.jobOutcome {body : Payload} {o : ExchangeOutcome} :
    (jobOutcome body o s).withinCapacities := by
  refine State.withinCapacities.pumpJob ?_
  split
  · exact h.firstHold
  · split
    · exact h.localTopUp
    · exact h.remoteTopUp
  · split
    · exact h.finalOutcome
    · exact h.periodicOutcome
  · exact h

/-! #### Deliveries, losses and cards -/

theorem State.withinCapacities.deliver {r : SheetRecord} : (deliver r s).withinCapacities := by
  unfold Machine.deliver
  dsimp only
  split
  · exact h.setCtx.writeCheckpoint.addMeters.enterSettling
  · exact h.setCtx.writeCheckpoint.addMeters

theorem State.withinCapacities.loseSheet {r : SheetRecord} : (loseSheet s r).withinCapacities :=
  (h.setLost (LostList.join_length h.tags r.tag)).addMeters

theorem State.withinCapacities.loseSheets {l : List SheetRecord} : (l.foldl Machine.loseSheet s).withinCapacities := by
  induction l generalizing s with
  | nil => exact h
  | cons r rest ih => exact ih h.loseSheet

theorem State.withinCapacities.faultJob : (faultJob s).withinCapacities := by
  unfold Machine.faultJob
  split
  · exact h.setCtx
  · exact h.setCtx
  · exact h

theorem State.withinCapacities.openingCardRemoved {serial : Nat} : (openingCardRemoved serial s).withinCapacities := by
  unfold Machine.openingCardRemoved
  split
  · split
    · exact h.setJob (by rfl)
    · exact h.stopFeeding
    · exact h.stopFeeding
    · exact h
  · exact h

theorem State.withinCapacities.interruptedNoCard : (interruptedNoCard s).withinCapacities := by
  unfold Machine.interruptedNoCard
  split
  · exact h.settleByRefund
  · exact h

theorem State.withinCapacities.interruptedCard : (interruptedCard s).withinCapacities := by
  unfold Machine.interruptedCard
  split
  · split
    · split
      · exact (h.setJob (by rfl)).startWrite
      · exact h.settleByRefund
    · exact h.settleByRefund
  · exact h

end

end Sys2Proof.Machine
end

section
/-! ### The settlement unit, the card controller and the line keep the law of capacities -/

namespace Sys2Proof.Machine

section
variable {s : State} (h : s.withinCapacities)
include h

/-! #### The settlement unit -/

theorem State.withinCapacities.answerRelease {q : EscrowFields} : (answerRelease q s).1.withinCapacities :=
  h.removeRefund

theorem State.withinCapacities.answerQuery {q : EscrowFields} : (answerQuery q s).1.withinCapacities := by
  unfold Machine.answerQuery
  split
  · exact h
  · split
    · exact h
    · dsimp only
      split
      · exact h
      · exact h.setRefunds

theorem State.withinCapacities.entryAnswered {e : OutEntry} {p : Payload} : (entryAnswered e p s).withinCapacities :=
  h.setOutbound.raiseNotice

theorem State.withinCapacities.tryEntry {e : OutEntry} {b : Bool} : (tryEntry e b s).withinCapacities := by
  unfold Machine.tryEntry
  dsimp only
  split
  · split
    · exact h.setSettle.handOwn
    · exact h.answerRelease.entryAnswered
  · exact h.setSettle.askExchange

theorem State.withinCapacities.roundStep {l : List EntryKey} : (roundStep l s).withinCapacities := by
  induction l generalizing s with
  | nil => exact h.setSettle
  | cons k rest ih =>
    unfold Machine.roundStep
    split
    · exact ih h
    · dsimp only
      split
      · exact h.setSettle.tryEntry
      · exact ih h.setSettle.tryEntry

theorem State.withinCapacities.heardStep {fuel : Nat} : (heardStep fuel s).withinCapacities := by
  induction fuel generalizing s with
  | zero => exact h
  | succ fuel ih =>
    unfold Machine.heardStep
    split
    · exact h.setSettle
    · dsimp only
      split
      · exact h.setSettle.tryEntry
      · exact ih h.setSettle.tryEntry

theorem State.withinCapacities.beginRound : (beginRound s).withinCapacities := h.setSettle.roundStep

theorem State.withinCapacities.pumpSettlement : (pumpSettlement s).withinCapacities := by
  have round : (match s.settle.round with
      | some rest => Machine.roundStep rest s
      | none => s).withinCapacities := by
    split
    · exact h.roundStep
    · exact h
  unfold Machine.pumpSettlement
  dsimp only
  split_ifs
  · exact h.setSettle
  · exact h
  · exact round
  · exact round.beginRound
  · exact round.heardStep

theorem State.withinCapacities.tryOutcome {o : ExchangeOutcome} : (tryOutcome o s).withinCapacities := by
  unfold Machine.tryOutcome
  split
  · exact h
  · refine State.withinCapacities.pumpSettlement ?_
    dsimp only
    split
    · exact h.setSettle.entryAnswered
    · split
      · exact h.setSettle.setSettle
      · exact h.setSettle
    · exact h.setSettle

theorem State.withinCapacities.settlementHears {station : Nat} : (settlementHears station s).withinCapacities := by
  unfold Machine.settlementHears
  split
  · exact h
  · split
    · exact h
    · split
      · exact h.tryEntry
      · exact h.setSettle

/-! #### The card controller's exchanges and escrows -/

theorem State.withinCapacities.freeCardPlace : (freeCardPlace s).withinCapacities := h.setSettle
theorem State.withinCapacities.endResolving : (endResolving s).withinCapacities := (h.setCard (by rfl)).freeCardPlace

theorem State.withinCapacities.escrowUnresolved {r : Reason} : (escrowUnresolved r s).withinCapacities := by
  unfold Machine.escrowUnresolved
  split
  · exact h.raiseNotice
  · exact h

theorem State.withinCapacities.queueRelease {station serial tag : Nat} :
    (queueRelease station serial tag s).withinCapacities := h.freeCardPlace.addOutbound

theorem State.withinCapacities.removeStale {i : PurseImage} : (removeStale i s).withinCapacities := by
  unfold Machine.removeStale
  split
  · exact h.setRefunds
  · exact h

theorem State.withinCapacities.cardExchangeEnds {e : CardExchange} {o : ExchangeOutcome} :
    (cardExchangeEnds e o s).withinCapacities := by
  match e with
  | .release _ _ _ =>
    cases o with
    | answer => exact h.freeCardPlace
    | noAnswer => exact h.queueRelease
    | noLine => exact h.queueRelease
  | .query _ _ _ false => exact h.freeCardPlace
  | .query _ _ _ true =>
    simp only [Machine.cardExchangeEnds]
    split
    · split_ifs
      · split
        · split_ifs
          · exact h.startWrite
          · exact h.escrowUnresolved.endResolving
          · exact h.endResolving
        · exact h.endResolving
      · exact h.escrowUnresolved.endResolving
      · exact h.escrowUnresolved.endResolving
    all_goals exact h.escrowUnresolved.endResolving

theorem State.withinCapacities.handCardExchanges {l : List CardExchange} :
    (handCardExchanges l s).withinCapacities := by
  induction l generalizing s with
  | nil => exact h
  | cons e rest ih =>
    have taken : (s.setCard { s.card with waiting := rest }).withinCapacities := h.setCard (by rfl)
    unfold Machine.handCardExchanges
    dsimp only
    split_ifs
    · exact h
    · exact (taken.setCard (by rfl)).askExchange
    · exact ih taken.cardExchangeEnds

theorem State.withinCapacities.pumpCard : (pumpCard s).withinCapacities := h.handCardExchanges
theorem State.withinCapacities.askCard {e : CardExchange} : (askCard e s).withinCapacities :=
  (h.setCard (by rfl)).pumpCard

theorem State.withinCapacities.cardOutcome {o : ExchangeOutcome} : (cardOutcome o s).withinCapacities := by
  unfold Machine.cardOutcome
  split
  · exact h
  · exact (h.setCard (by rfl)).cardExchangeEnds.pumpCard

theorem State.withinCapacities.settleFromList {i : PurseImage} : (settleFromList i s).withinCapacities := by
  unfold Machine.settleFromList
  split
  · exact h.escrowUnresolved
  · split
    · exact h.escrowUnresolved
    · split
      · exact h.startWrite
      · exact h

theorem State.withinCapacities.resolveEscrow {k : Nat} {i : PurseImage} : (resolveEscrow k i s).withinCapacities := by
  unfold Machine.resolveEscrow
  dsimp only
  split_ifs
  · exact h.escrowUnresolved
  · exact h.escrowUnresolved
  · exact h.escrowUnresolved
  · exact (h.setSettle.setCard (by rfl)).askCard

theorem State.withinCapacities.lookAtEscrow {i : PurseImage} : (lookAtEscrow i s).withinCapacities := by
  unfold Machine.lookAtEscrow
  split_ifs
  · exact h
  · exact h.settleFromList
  · split
    · exact h.resolveEscrow
    · exact h

/-! #### Readings, writes and removals -/

theorem State.withinCapacities.sendCard {r : CardRequest} : (sendCard r s).withinCapacities := h.setCard (by rfl)
theorem State.withinCapacities.beginReading : (beginReading s).withinCapacities := (h.setCard (by rfl)).sendCard
theorem State.withinCapacities.rejectCard {r : Reason} : (rejectCard r s).withinCapacities :=
  (h.setCard (by rfl)).raiseNotice.interruptedNoCard
theorem State.withinCapacities.readyAccountCard {id : CardIdentity} : (readyAccountCard id s).withinCapacities :=
  (h.setCard (by rfl)).raiseNotice.interruptedNoCard

theorem State.withinCapacities.readyPurseCard {i : PurseImage} : (readyPurseCard i s).withinCapacities := by
  unfold Machine.readyPurseCard
  dsimp only
  split
  · exact (h.setCard (by rfl)).raiseNotice.removeStale.interruptedCard
  · exact (h.setCard (by rfl)).raiseNotice.removeStale.interruptedCard.lookAtEscrow

theorem State.withinCapacities.judgeIdentity {bytes : List Byte} : (judgeIdentity bytes s).withinCapacities := by
  unfold Machine.judgeIdentity
  split
  · exact h.rejectCard
  · split
    · exact (h.setCard (by rfl)).rejectCard
    · dsimp only
      split_ifs
      · exact (h.setCard (by rfl)).rejectCard
      · exact (h.setCard (by rfl)).rejectCard
      · split
        · exact (h.setCard (by rfl)).readyAccountCard
        · exact ((h.setCard (by rfl)).setCard (by rfl)).sendCard

theorem State.withinCapacities.judgeSlots {a b : List Byte} : (judgeSlots a b s).withinCapacities := by
  unfold Machine.judgeSlots
  split
  · split
    · exact h.rejectCard
    · exact h.readyPurseCard
  · exact h.rejectCard

theorem State.withinCapacities.readAnswered {bytes : List Byte} : (readAnswered bytes s).withinCapacities := by
  unfold Machine.readAnswered
  split
  · exact h.rejectCard
  · split
    · exact h.judgeIdentity
    · exact (h.setCard (by rfl)).sendCard
    · exact h.judgeSlots
    · exact h

theorem State.withinCapacities.takeWrite {w : CardWrite} : (takeWrite w s).withinCapacities := h.setCard (by rfl)

theorem State.withinCapacities.writeCompleted {w : CardWrite} : (writeCompleted w s).withinCapacities := by
  unfold Machine.writeCompleted
  split
  · exact h.moveCompleted
  · exact h.settlementWritten
  · exact h.removeRefund.raiseNotice
  · exact (h.setCard (by rfl)).raiseNotice.askCard
  · dsimp only
    split
    · exact h.complete.removeStale
    · exact h.complete

theorem State.withinCapacities.writeUncertain {w : CardWrite} : (writeUncertain w s).withinCapacities := by
  unfold Machine.writeUncertain
  split
  · exact h.moveUncertain
  · exact h.settleByRefund
  · exact h
  · exact h.freeCardPlace
  · exact h.complete

theorem State.withinCapacities.cardSilent : (cardSilent s).withinCapacities := by
  unfold Machine.cardSilent
  split
  · exact h.beginReading.writeUncertain
  · exact h.rejectCard

theorem State.withinCapacities.removeCard : (removeCard s).withinCapacities := by
  have told {x : State} (hx : x.withinCapacities) : (match s.card.state with
      | .reading _ => Machine.interruptedNoCard x
      | _ => match s.card.writing with
        | some w => Machine.writeUncertain w x
        | none => x).withinCapacities := by
    split
    · exact hx.interruptedNoCard
    · split
      · exact hx.writeUncertain
      · exact hx
  unfold Machine.removeCard
  dsimp only
  split
  · exact (told (h.setCard (by rfl)).raiseNotice).openingCardRemoved
  · exact told (h.setCard (by rfl)).raiseNotice

/-! #### The line -/

theorem State.withinCapacities.exchangeEnds {o : ExchangeOutcome} {e : Exchange} :
    (exchangeEnds o s e).withinCapacities := by
  unfold Machine.exchangeEnds
  split
  · exact h.jobOutcome
  · exact h.cardOutcome
  · exact h.tryOutcome

theorem State.withinCapacities.exchangesEnd {o : ExchangeOutcome} {l : List Exchange} :
    (l.foldl (Machine.exchangeEnds o) s).withinCapacities := by
  induction l generalizing s with
  | nil => exact h
  | cons e rest ih => exact ih h.exchangeEnds

theorem State.withinCapacities.endExchange {o : ExchangeOutcome} : (endExchange o s).withinCapacities := by
  unfold Machine.endExchange
  split
  · exact h
  · exact h.setLine.emptyPlace.exchangeEnds

theorem State.withinCapacities.readyRequest {e : Exchange} : (readyRequest e s).withinCapacities :=
  h.setLine.emptyPlace.readyFrame

theorem State.withinCapacities.attemptFails : (attemptFails s).withinCapacities := by
  unfold Machine.attemptFails
  split
  · exact h
  · split
    · exact h.readyRequest
    · exact h.markPresence.endExchange

theorem State.withinCapacities.startExchange : (startExchange s).withinCapacities := by
  unfold Machine.startExchange
  split
  · exact h.setLine.readyRequest
  · exact h

theorem State.withinCapacities.takeAnswer {f : Frame} : (takeAnswer f s).withinCapacities := by
  unfold Machine.takeAnswer
  split
  · split
    · exact h.endExchange
    · exact h
  · exact h

theorem State.withinCapacities.queueRequest {f : Frame} : (queueRequest f s).withinCapacities := by
  unfold Machine.queueRequest
  split
  · exact h.setAccounts
  · exact h

theorem State.withinCapacities.answerAsCard {answer : State → State × Payload} (ha : (answer s).1.withinCapacities)
    {f : Frame} : (answerAsCard answer f s).withinCapacities := by
  unfold Machine.answerAsCard
  dsimp only
  split
  · exact h
  · exact ha.readyFrame

theorem State.withinCapacities.updateRoster {station : Nat} {home : Option HomeRange} :
    (updateRoster station home s).withinCapacities := by
  unfold Machine.updateRoster
  dsimp only
  split
  · exact h.setLine
  · exact h.setLine.raiseNotice

theorem State.withinCapacities.callAnswerRoll : (callAnswerRoll s).withinCapacities := by
  unfold Machine.callAnswerRoll
  split
  · exact h
  · exact h.setLine

theorem State.withinCapacities.takeRoll {known : Bool} {f : Frame} {p : RollFields} :
    (takeRoll known f p s).withinCapacities := by
  unfold Machine.takeRoll
  dsimp only
  split
  · exact h.updateRoster.callAnswerRoll
  · exact h.updateRoster

theorem State.withinCapacities.enterConflict {f : Frame} : (enterConflict f s).withinCapacities :=
  h.setLine.setSettle.exchangesEnd.setAccounts.raiseNotice

theorem State.withinCapacities.lineGoesIdle : (lineGoesIdle s).withinCapacities := by
  unfold Machine.lineGoesIdle
  split
  · exact h
  · exact h.setLine

theorem State.withinCapacities.noteHeard {station : Nat} : (noteHeard station s).withinCapacities :=
  h.markPresence.settlementHears

/-- A frame heard keeps the law, given that what its kind does keeps it. -/
theorem State.withinCapacities.hearFrame {act : State → State}
    (hact : ∀ x : State, x.withinCapacities → (act x).withinCapacities) {f : Frame} :
    (hearFrame f act s).withinCapacities := by
  unfold Machine.hearFrame
  dsimp only
  split_ifs
  · exact h
  · exact h.lineGoesIdle
  · exact h.lineGoesIdle.enterConflict
  · exact hact _ h.lineGoesIdle.noteHeard
  · exact h.lineGoesIdle.noteHeard

theorem State.withinCapacities.hearByKind {f : Frame} : (hearByKind f s).withinCapacities := by
  unfold Machine.hearByKind
  split <;> refine h.hearFrame fun x hx => ?_
  case h_1 => exact hx.takeRoll
  case h_2 | h_3 | h_4 => exact hx.queueRequest
  case h_5 | h_6 | h_8 | h_10 => exact hx.takeAnswer
  case h_7 => exact hx.answerAsCard hx.answerQuery
  case h_9 => exact hx.answerAsCard hx.answerRelease

theorem State.withinCapacities.sendStarts {idle : Nat} : (sendStarts idle s).withinCapacities := by
  unfold Machine.sendStarts
  dsimp only
  split
  · exact h
  · split
    · split <;> exact h.setLine
    · exact h.setLine

theorem State.withinCapacities.frameSentWhole : (frameSentWhole s).withinCapacities := by
  unfold Machine.frameSentWhole
  split
  · exact h
  · dsimp only
    split
    · exact h.setLine.emptyPlace.setLine
    · split
      · exact h.setLine.emptyPlace.setLine
      · exact h.setLine.emptyPlace
    · exact h.setLine.emptyPlace

theorem State.withinCapacities.collide : (collide s).withinCapacities := by
  unfold Machine.collide
  split
  · exact h
  · split
    · exact h.setLine
    · dsimp only
      split
      · exact h.emptyPlace.attemptFails
      · split
        · exact h.emptyPlace.readyFrame
        · exact h.emptyPlace
      · exact h.emptyPlace

theorem State.withinCapacities.becomeMember : (becomeMember s).withinCapacities := h.setLine.setSettle.pumpSettlement

theorem State.withinCapacities.answerRoll : (answerRoll s).withinCapacities := by
  unfold Machine.answerRoll
  dsimp only
  split
  · exact h.setLine
  · exact h.setLine.readyFrame

theorem State.withinCapacities.lineGoesBusy : (lineGoesBusy s).withinCapacities := by
  unfold Machine.lineGoesBusy
  split
  · exact h
  · exact h.setLine

end

end Sys2Proof.Machine
end

section
/-! ### The path monitor, the account unit, the store's progress and the start keep the law of capacities -/

namespace Sys2Proof.Machine

/-! #### Filters (R43) -/

@[simp] theorem Filter.settled_count (f : Filter) : f.settled.count = f.count := by
  unfold Filter.settled; split <;> rfl

theorem Filters.counted.flip {f : Filters} (hf : f.counted) (x : PathSensor) : (f.set x (f.get x).flip).counted := by
  cases x <;> exact { hf with }

theorem Filters.counted.flipDoor {f : Filters} (hf : f.counted) : ({ f with door := f.door.flip } : Filters).counted :=
  { hf with }

theorem Filters.counted.settled {f : Filters} (hf : f.counted) : f.settled.counted := by
  constructor <;> simp [Filters.settled, hf.feed, hf.reg, hf.fuse, hf.duplex, hf.exit, hf.door]

theorem PathMonitor.sample_counted {p : PathMonitor} (hf : p.filters.counted) (l : Levels) (d : DoorReading)
    (t : TimePoint) : (p.sample l d t).counted :=
  ⟨Filter.sample_count _ _ _ hf.feed, Filter.sample_count _ _ _ hf.reg, Filter.sample_count _ _ _ hf.fuse,
    Filter.sample_count _ _ _ hf.duplex, Filter.sample_count _ _ _ hf.exit, Filter.sample_count _ _ _ hf.door⟩

@[simp] theorem setRecord_length (r : SheetRecord) (q : List SheetRecord) : (setRecord r q).length = q.length := by
  simp [setRecord]

section
variable {s : State} (h : s.withinCapacities)
include h

/-! #### Edges, jams and purges -/

theorem State.withinCapacities.clearOnEntry : (clearOnEntry s).withinCapacities := by
  unfold Machine.clearOnEntry
  split
  · exact h.raiseNotice
  · exact h

theorem State.withinCapacities.clearAfterEdge {b : Bool} {t : TimePoint} : (clearAfterEdge b t s).withinCapacities := by
  unfold Machine.clearAfterEdge
  split
  · exact h.raiseNotice
  · exact h

/-- A jam empties the path (R58), and the lost list takes what it can (R75). -/
theorem State.withinCapacities.declareJam {kind : JamKind} {place : JamPlace} {named : Option SheetRecord} :
    (declareJam kind place named s).withinCapacities := by
  have emptied : ((Machine.enterPath .fault s).setPath
      { (Machine.enterPath .fault s).path with queue := [] }).withinCapacities :=
    h.enterPath.setTracking (Nat.zero_le 6) h.enterPath.filters
  exact (emptied.loseSheets.setPath (by rfl)).addMeters.raiseNotice.faultJob.clearOnEntry

theorem State.withinCapacities.matchLeading {x : PathSensor} {t : TimePoint} :
    (matchLeading x t s).withinCapacities := by
  unfold Machine.matchLeading
  dsimp only
  split
  · refine h.setTracking ?_ h.filters
    simpa using h.sheets
  · split
    · exact h.declareJam
    · split <;> exact h.declareJam

theorem State.withinCapacities.moveOn {x : PathSensor} {r : SheetRecord} : (moveOn x r s).withinCapacities := by
  unfold Machine.moveOn
  split
  · refine h.setTracking ?_ h.filters
    simpa using h.sheets
  · refine State.withinCapacities.deliver (h.setTracking ?_ ?_)
    · exact (List.length_filter_le _ _).trans h.sheets
    · exact h.filters

theorem State.withinCapacities.matchTrailing {x : PathSensor} {t : TimePoint} :
    (matchTrailing x t s).withinCapacities := by
  unfold Machine.matchTrailing
  split
  · exact h.declareJam
  · split_ifs
    · exact h.declareJam
    · exact h.declareJam
    · exact h.moveOn

theorem State.withinCapacities.takeSensorEdge {x : PathSensor} {t : TimePoint}
    {matched : PathSensor → TimePoint → State → State}
    (hm : ∀ y : State, y.withinCapacities → (matched x t y).withinCapacities) :
    (takeSensorEdge x t matched s).withinCapacities := by
  have flipped := h.setTracking (p := { s.path with filters := s.path.filters.set x (s.path.filters.get x).flip })
    h.sheets (h.filters.flip x)
  unfold Machine.takeSensorEdge
  dsimp only
  split
  · exact hm _ flipped
  · exact flipped.clearAfterEdge

theorem State.withinCapacities.takeDoorEdge {opening : Bool} {t : TimePoint} :
    (takeDoorEdge opening t s).withinCapacities := by
  have flipped := h.setTracking
    (p := { s.path with filters := { s.path.filters with door := s.path.filters.door.flip } })
    h.sheets h.filters.flipDoor
  unfold Machine.takeDoorEdge
  dsimp only
  split
  · split
    · exact flipped.declareJam
    · exact flipped
  · exact flipped.clearAfterEdge

theorem State.withinCapacities.deadlineJam {r : SheetRecord} : (deadlineJam r s).withinCapacities := by
  unfold Machine.deadlineJam
  split
  · exact h.declareJam
  · exact h

theorem State.withinCapacities.judgePurge : (judgePurge s).withinCapacities := by
  have settled := h.setTracking (p := { s.path with filters := s.path.filters.settled, settling := none })
    h.sheets h.filters.settled
  unfold Machine.judgePurge
  dsimp only
  split
  · exact settled.enterPath.clearOnEntry.complete
  · split
    · exact (settled.setPath (by rfl)).enterPath.complete
    · exact (settled.setPath (by rfl)).enterPath.raiseNotice.complete

theorem State.withinCapacities.samplePath {l : Levels} {d : DoorReading} : (samplePath l d s).withinCapacities :=
  h.setTracking h.sheets (PathMonitor.sample_counted h.filters l d s.timeBase)

theorem State.withinCapacities.samplePresence {p : Presence} : (samplePresence p s).withinCapacities :=
  h.setSwitch (Filter.sample_count _ _ _ h.presence)

/-! #### The account unit -/

theorem State.withinCapacities.releaseAnswer {x : InHand} : (releaseAnswer x s).withinCapacities := by
  unfold Machine.releaseAnswer
  split
  · split
    · exact h.readyFrame
    · exact h
  · exact h.jobOutcome
  · exact h.tryOutcome

theorem State.withinCapacities.carryOut {a : Arrival} {d : Decision} : (carryOut a d s).withinCapacities := by
  have decided : (if d.fresh then Machine.advanceFree (s.setAccounts d.unit)
      else s.setAccounts d.unit).withinCapacities := by
    split
    · exact h.setAccounts.advanceFree
    · exact h.setAccounts
  unfold Machine.carryOut
  dsimp only
  split
  · exact decided.releaseAnswer
  · exact decided.setAccounts.submitAll

theorem State.withinCapacities.takeRequest {a : Arrival} : (takeRequest a s).withinCapacities := by
  unfold Machine.takeRequest
  dsimp only
  split
  · exact h.setAccounts.carryOut
  · exact h.setAccounts

theorem State.withinCapacities.requestWritten : (requestWritten s).withinCapacities := by
  unfold Machine.requestWritten
  split
  · exact h
  · split
    · exact h.setAccounts.releaseAnswer
    · exact h.setAccounts

theorem State.withinCapacities.lapseHold {x : Hold} : (lapseHold x s).withinCapacities := h.setAccounts.submit

/-! #### The store's progress (R181) -/

/-- The store, with no write in progress, begins the oldest of at most 8. -/
theorem State.withinCapacities.beginWrite {x : Store} (idle : x.current = none) (places : x.queue.length ≤ 8)
    (full : x.waiting ≠ [] → x.queue.length = 8) : (beginWrite (s.setStore x)).withinCapacities := by
  cases hq : x.queue with
  | nil =>
    have same : Machine.beginWrite (s.setStore x) = s.setStore x := by simp [Machine.beginWrite, idle, hq]
    rw [same]
    refine h.setStore ⟨fun _ => hq, ?_, fun hne => ?_⟩
    · simp [Store.taken, idle, hq]
    · simpa [hq] using full hne
  | cons w rest =>
    rw [hq, List.length_cons] at places full
    simp only [Machine.beginWrite, State.setStore_store, idle, hq]
    exact { h with store := ⟨nofun, places, full⟩ }

/-- The place that a completed write leaves goes to the submitter that waited longest. -/
theorem State.withinCapacities.passOn {x : Store} (idle : x.current = none) (places : x.queue.length ≤ 7)
    (full : x.waiting ≠ [] → x.queue.length = 7) : (passOn (s.setStore x)).withinCapacities := by
  unfold Machine.passOn
  split
  · rename_i hw
    have hw : x.waiting = [] := hw
    exact h.beginWrite idle (by omega) fun hne => (hne hw).elim
  · rename_i w rest hw
    have hw : x.waiting = w :: rest := hw
    have moved : (Machine.beginWrite (s.setStore { x with
        queue := x.queue ++ [w], waiting := rest })).withinCapacities := by
      have all : x.queue.length = 7 := full (by simp [hw])
      exact h.beginWrite idle (by simp [all]) fun _ => by simp [all]
    dsimp only
    split
    · exact moved.releaseHeld
    · exact moved

theorem State.withinCapacities.remeter : (remeter s).withinCapacities := by
  unfold Machine.remeter
  split
  · exact (h.setStore (x := { s.store with metersAgain := false }) h.store).noteMeters
  · exact h

theorem State.withinCapacities.completeWrite {w : QueuedWrite} {t : TimePoint} (hc : s.store.current = some (w, t)) :
    (completeWrite w s).withinCapacities := by
  obtain ⟨-, taken, full⟩ := h.store
  simp only [Store.taken, hc, Option.isSome_some, if_true] at taken full
  have passed := h.passOn (x := { s.store with records := w.what.apply s.store.records, current := none }) rfl
    (by dsimp only; omega) fun hne => by have := full hne; dsimp only; omega
  have metered : (if w.what.isMeters then Machine.remeter (Machine.passOn (s.setStore { s.store with
      records := w.what.apply s.store.records, current := none })) else Machine.passOn (s.setStore { s.store with
      records := w.what.apply s.store.records, current := none })).withinCapacities := by
    split
    · exact passed.remeter
    · exact passed
  unfold Machine.completeWrite
  dsimp only
  split
  · exact metered.requestWritten
  · exact metered

theorem State.withinCapacities.storeCompletes : (storeCompletes s).withinCapacities := by
  unfold Machine.storeCompletes
  split
  · exact h.completeWrite ‹_›
  · exact h

end

/-! #### The start -/

/-- What a start finds fills no place: every queue is empty but for the START notice (R177, R185). -/
theorem start_withinCapacities (cause : StartCause) (s : State) : (start cause s).withinCapacities := by
  have blocks : (startBlocks cause s).withinCapacities :=
    State.withinCapacities_of (Nat.le_of_ble_eq_true rfl) (Nat.zero_le _) (Nat.zero_le _)
      ⟨Nat.zero_le _, Nat.zero_le _, Nat.zero_le _, Nat.zero_le _, Nat.zero_le _, Nat.zero_le _⟩ (Nat.zero_le _)
      (Nat.zero_le _) (Store.quiet_orderly _)
  have line : (startLine (startBlocks cause s)).withinCapacities := by
    unfold startLine
    split
    · exact blocks
    · exact blocks.setLine.readyFrame
  unfold start takeCheckpoint
  split
  · exact line
  · rename_i k _
    have reserved :
        (reservePlace k.funding ((startLine (startBlocks cause s)).setCtx k.interrupted)).withinCapacities := by
      unfold reservePlace
      split
      · exact line.setCtx.setCard (by rfl)
      · exact line.setCtx.setSettle
    unfold settleInterrupted
    split_ifs
    · exact reserved.setJob (by rfl)
    · exact reserved.endJob
    · exact reserved.askJob
    · exact reserved.settleByQueue

theorem losePower_withinCapacities (s : State) : (losePower s).withinCapacities :=
  State.withinCapacities_of (Nat.zero_le _) (Nat.zero_le _) (Nat.zero_le _)
    ⟨Nat.zero_le _, Nat.zero_le _, Nat.zero_le _, Nat.zero_le _, Nat.zero_le _, Nat.zero_le _⟩ (Nat.zero_le _)
    (Nat.zero_le _) (Store.quiet_orderly _)

end Sys2Proof.Machine
end

section
/-! ### Every command keeps the law of capacities -/

namespace Sys2Proof.Machine

section
variable {s : State} (h : s.withinCapacities) {ps : List Byte}
include h

/-! #### The engine's commands -/

theorem State.withinCapacities.setOptions : (setOptions ps s).withinCapacities := by
  unfold Machine.setOptions
  split
  · exact h.complete
  · split
    · exact h.submitAndAnswer
    · exact h.complete

theorem State.withinCapacities.loadTariff : (loadTariff ps s).withinCapacities := by
  unfold Machine.loadTariff
  split
  · exact h.complete
  · split
    · exact h.complete
    · split
      · exact h.setTariff.submitAndAnswer
      · exact h.complete

theorem State.withinCapacities.loadProfile : (loadProfile ps s).withinCapacities := by
  unfold Machine.loadProfile
  split_ifs
  · exact h.complete
  · exact h.complete
  · split
    · exact h.complete
    · split
      · exact (h.setPath (by rfl)).submitAndAnswer
      · exact h.complete

theorem State.withinCapacities.openOnCard : (openOnCard s).withinCapacities := by
  unfold Machine.openOnCard
  split
  · exact h.complete
  · exact h.complete
  · exact h.complete
  · split
    · split
      · exact h.openPurse
      · exact h.openAccount
    · split
      · exact h.openAccount
      · exact h.complete
    · exact h.complete

theorem State.withinCapacities.openJob : (openJob ps s).withinCapacities := by
  unfold Machine.openJob
  split
  · exact h.complete
  · split
    · exact h.complete
    · exact h.openOnCard
    · split
      · exact h.complete
      · exact h.openAccount

theorem State.withinCapacities.takeFeed : (Machine.feed ps s).withinCapacities := by
  unfold Machine.feed
  split
  · exact h.complete
  · exact h.complete
  · split
    · exact h.feedGate
    · exact h.complete
  · exact h.complete

theorem State.withinCapacities.closeJob : (closeJob s).withinCapacities := by
  unfold Machine.closeJob
  split
  · exact h.complete
  · exact h.complete
  · exact h.stopFeeding.complete

theorem State.withinCapacities.resumeJob : (resumeJob s).withinCapacities := by
  unfold Machine.resumeJob
  split
  · exact h.setCtx.enterPath
  · exact h.enterPath.enterSettling
  · exact h.enterPath

theorem State.withinCapacities.resume : (resume s).withinCapacities := by
  unfold Machine.resume
  dsimp only
  split_ifs
  · exact h.complete
  · exact h.complete
  · exact (h.setPath (by rfl)).resumeJob.complete

theorem State.withinCapacities.purgeStart : (purgeStart s).withinCapacities := by
  unfold Machine.purgeStart
  split_ifs
  · exact h.complete
  · exact h.complete
  · exact h.enterPath.complete

theorem State.withinCapacities.purgeEnd : (purgeEnd s).withinCapacities := by
  unfold Machine.purgeEnd
  split
  · exact h.setPath (by rfl)
  · exact h.complete

theorem State.withinCapacities.serviceClear : (serviceClear s).withinCapacities := by
  unfold Machine.serviceClear
  split_ifs
  · exact h.complete
  · exact h.complete
  · exact (h.setPath (by rfl)).enterPath.clearOnEntry.complete

theorem State.withinCapacities.readMeters : (readMeters ps s).withinCapacities := by
  unfold Machine.readMeters
  split
  · exact h.complete
  · dsimp only
    split
    · exact h.setMeter.complete
    · exact h.complete

theorem State.withinCapacities.writeTable {a : Account} {v : Values} : (writeTable a v s).withinCapacities :=
  h.setAccounts.submitAndAnswer

theorem State.withinCapacities.accountAdd : (accountAdd ps s).withinCapacities := by
  unfold Machine.accountAdd
  split
  · exact h.complete
  · split_ifs
    · exact h.complete
    · exact h.complete
    · exact h.complete
    · exact h.complete
    · exact h.writeTable

theorem State.withinCapacities.accountCredit : (accountCredit ps s).withinCapacities := by
  unfold Machine.accountCredit
  split
  · exact h.complete
  · split
    · exact h.complete
    · split
      · exact h.complete
      · exact h.writeTable

theorem State.withinCapacities.accountSet : (accountSet ps s).withinCapacities := by
  unfold Machine.accountSet
  split
  · exact h.complete
  · split
    · exact h.complete
    · split
      · exact h.complete
      · split
        · exact h.complete
        · exact h.writeTable

theorem State.withinCapacities.accountRemove : (accountRemove ps s).withinCapacities := by
  unfold Machine.accountRemove
  split
  · exact h.complete
  · split
    · exact h.complete
    · split_ifs
      · exact h.complete
      · exact h.complete
      · exact h.setAccounts.submitAndAnswer

theorem State.withinCapacities.readAccount : (readAccount ps s).withinCapacities := by
  unfold Machine.readAccount
  split
  · exact h.complete
  · split <;> exact h.complete

theorem State.withinCapacities.listAccounts : (listAccounts ps s).withinCapacities := by
  unfold Machine.listAccounts
  split <;> exact h.complete

theorem State.withinCapacities.readStatement : (readStatement ps s).withinCapacities := by
  unfold Machine.readStatement
  split
  · exact h.complete
  · split
    · exact h.complete
    · split
      · exact h.complete
      · dsimp only
        split
        · exact h.setAccounts.complete
        · exact h.complete

theorem State.withinCapacities.discardRefund : (discardRefund ps s).withinCapacities := by
  unfold Machine.discardRefund
  split
  · exact h.complete
  · split
    · exact (h.setCard (by rfl)).submitAndAnswer
    · exact h.complete

theorem State.withinCapacities.releaseOnImage {i : PurseImage} : (releaseOnImage i ps s).withinCapacities := by
  unfold Machine.releaseOnImage
  split_ifs
  · exact h.complete
  · exact h.complete
  · exact h.complete
  · split
    · exact h.complete
    · split
      · exact h.complete
      · split
        · exact h.startWrite
        · exact h.complete

theorem State.withinCapacities.releaseEscrow : (releaseEscrow ps s).withinCapacities := by
  unfold Machine.releaseEscrow
  split
  · exact h.complete
  · exact h.complete
  · exact h.complete
  · split
    · exact h.complete
    · exact h.releaseOnImage

/-- Every command of the catalogue keeps the law of capacities. -/
theorem State.withinCapacities.runCommand {o : Opcode} {ps : List Byte} : (runCommand o ps s).withinCapacities := by
  cases o with
  | status => exact h.takeBare fun _ hx => hx.complete
  | readNotice => exact h.takeBare fun _ hx => hx.complete
  | setOptions => exact h.takeCommand fun _ hx => hx.setOptions
  | loadTariff => exact h.takeCommand fun _ hx => hx.loadTariff
  | loadProfile => exact h.takeCommand fun _ hx => hx.loadProfile
  | openJob => exact h.takeCommand fun _ hx => hx.openJob
  | feed => exact h.takeCommand fun _ hx => hx.takeFeed
  | closeJob => exact h.takeBare fun _ hx => hx.closeJob
  | readLost => exact h.takeBare fun _ hx => hx.complete
  | resume => exact h.takeBare fun _ hx => hx.resume
  | purgeStart => exact h.takeBare fun _ hx => hx.purgeStart
  | purgeEnd => exact h.takeBare fun _ hx => hx.purgeEnd
  | serviceClear => exact h.takeBare fun _ hx => hx.serviceClear
  | readMeters => exact h.takeCommand fun _ hx => hx.readMeters
  | readRoster => exact h.takeBare fun _ hx => hx.complete
  | accountAdd => exact h.takeCommand fun _ hx => hx.accountAdd
  | accountCredit => exact h.takeCommand fun _ hx => hx.accountCredit
  | accountSet => exact h.takeCommand fun _ hx => hx.accountSet
  | accountRemove => exact h.takeCommand fun _ hx => hx.accountRemove
  | readAccount => exact h.takeCommand fun _ hx => hx.readAccount
  | listAccounts => exact h.takeCommand fun _ hx => hx.listAccounts
  | readStatement => exact h.takeCommand fun _ hx => hx.readStatement
  | readRefunds => exact h.takeBare fun _ hx => hx.complete
  | discardRefund => exact h.takeCommand fun _ hx => hx.discardRefund
  | releaseEscrow => exact h.takeCommand fun _ hx => hx.releaseEscrow
  | restart => exact h.takeBare fun x _ => start_withinCapacities .restart (finishWrites x)

theorem State.withinCapacities.answerAtOnce {r : Reason} : (answerAtOnce r s).withinCapacities := by
  unfold Machine.answerAtOnce
  split
  · exact h.countRefused
  · exact h.discardResult.placeResult

theorem State.withinCapacities.takeMessage {bytes : List Byte} : (takeMessage bytes s).withinCapacities := by
  unfold Machine.takeMessage
  split
  · exact h
  · exact h.answerAtOnce
  · exact h.answerAtOnce
  · exact h.runCommand

/-! #### Read transactions -/

theorem State.withinCapacities.commitMeters : (commitMeters s).withinCapacities := by
  unfold Machine.commitMeters
  split
  · exact h
  · exact h.setMeter.noteMeters

theorem State.withinCapacities.commitStatement : (commitStatement s).withinCapacities := by
  unfold Machine.commitStatement
  split
  · exact h
  · dsimp only
    split
    · exact h.setAccounts.setAccounts.submit
    · exact h.setAccounts

/-- At most the notice that was read leaves the queue (R180). -/
theorem State.withinCapacities.commitNotice {overflow : Bool} {oldest : Option Notice} :
    (commitNotice overflow oldest s).withinCapacities := by
  have left : (if oldest.isSome then s.port.notices.tail else s.port.notices).length ≤ 16 := by
    have := h.notices
    split
    · rw [List.length_tail]; omega
    · exact this
  exact { h with notices := left }

theorem State.withinCapacities.commitResult {r : Result} : (commitResult r s).withinCapacities := by
  unfold Machine.commitResult
  dsimp only
  split
  · exact (h.setPort (by rfl)).commitMeters
  · exact (h.setPort (by rfl)).commitStatement
  · exact (h.setPort (by rfl)).commitNotice
  · exact h.setPort (by rfl)

theorem State.withinCapacities.readReply {clocked : Nat} : (readReply clocked s).withinCapacities := by
  unfold Machine.readReply
  dsimp only
  split
  · split
    · exact (h.setPort (by rfl)).commitResult
    · exact h.setPort (by rfl)
  · exact h.setPort (by rfl)

/-! #### Events and time -/

theorem State.withinCapacities.flipPresence :
    (s.setCard { s.card with presence := s.card.presence.flip }).withinCapacities := h.setSwitch h.presence

theorem State.withinCapacities.insertCard : (insertCard s).withinCapacities := by
  unfold Machine.insertCard
  dsimp only
  split
  · exact h.flipPresence.beginReading
  · exact h.flipPresence

theorem State.withinCapacities.takeRemoval : (takeRemoval s).withinCapacities := by
  unfold Machine.takeRemoval
  dsimp only
  split
  · exact h.flipPresence
  · exact h.flipPresence.removeCard

theorem State.withinCapacities.writeAcknowledged : (writeAcknowledged s).withinCapacities := by
  unfold Machine.writeAcknowledged
  split
  · exact h.takeWrite.writeCompleted
  · exact h

theorem State.withinCapacities.postPeriodically : (postPeriodically s).withinCapacities := by
  unfold Machine.postPeriodically
  dsimp only
  split
  · exact h.setJob (by rfl)
  · exact (h.setJob (by rfl)).askJob

theorem State.withinCapacities.idle : (idle s).withinCapacities := by
  have later : ({ s with timeBase := s.timeBase + 1#32 } : State).withinCapacities := { h with }
  unfold Machine.idle
  split
  · split
    · exact later.setCtx
    · exact h.setPending
  · exact h

end

/-- Every command and event keeps the law of capacities. -/
theorem exec_withinCapacities (i : Instr) (s t : State) (h : s.withinCapacities) (e : exec i s = .next t) :
    t.withinCapacities := by
  cases i with
  | powerOn =>
    cases e
    exact start_withinCapacities _ _
  | powerLoss => exact whenPowered_keeps h (losePower_withinCapacities s) e
  | interruptedCardWaitEnd => exact whenDue_keeps h h.interruptedNoCard e
  | status ps => exact whenPowered_keeps h (h.runCommand (o := .status)) e
  | readNotice ps => exact whenPowered_keeps h (h.runCommand (o := .readNotice)) e
  | setOptions ps => exact whenPowered_keeps h (h.runCommand (o := .setOptions)) e
  | loadTariff ps => exact whenPowered_keeps h (h.runCommand (o := .loadTariff)) e
  | loadProfile ps => exact whenPowered_keeps h (h.runCommand (o := .loadProfile)) e
  | openJob ps => exact whenPowered_keeps h (h.runCommand (o := .openJob)) e
  | feed ps => exact whenPowered_keeps h (h.runCommand (o := .feed)) e
  | closeJob ps => exact whenPowered_keeps h (h.runCommand (o := .closeJob)) e
  | readLost ps => exact whenPowered_keeps h (h.runCommand (o := .readLost)) e
  | resume ps => exact whenPowered_keeps h (h.runCommand (o := .resume)) e
  | purgeStart ps => exact whenPowered_keeps h (h.runCommand (o := .purgeStart)) e
  | purgeEnd ps => exact whenPowered_keeps h (h.runCommand (o := .purgeEnd)) e
  | serviceClear ps => exact whenPowered_keeps h (h.runCommand (o := .serviceClear)) e
  | readMeters ps => exact whenPowered_keeps h (h.runCommand (o := .readMeters)) e
  | readRoster ps => exact whenPowered_keeps h (h.runCommand (o := .readRoster)) e
  | accountAdd ps => exact whenPowered_keeps h (h.runCommand (o := .accountAdd)) e
  | accountCredit ps => exact whenPowered_keeps h (h.runCommand (o := .accountCredit)) e
  | accountSet ps => exact whenPowered_keeps h (h.runCommand (o := .accountSet)) e
  | accountRemove ps => exact whenPowered_keeps h (h.runCommand (o := .accountRemove)) e
  | readAccount ps => exact whenPowered_keeps h (h.runCommand (o := .readAccount)) e
  | listAccounts ps => exact whenPowered_keeps h (h.runCommand (o := .listAccounts)) e
  | readStatement ps => exact whenPowered_keeps h (h.runCommand (o := .readStatement)) e
  | readRefunds ps => exact whenPowered_keeps h (h.runCommand (o := .readRefunds)) e
  | discardRefund ps => exact whenPowered_keeps h (h.runCommand (o := .discardRefund)) e
  | releaseEscrow ps => exact whenPowered_keeps h (h.runCommand (o := .releaseEscrow)) e
  | restart ps => exact whenPowered_keeps h (h.runCommand (o := .restart)) e
  | unknownCommandMessage bytes => exact whenPowered_keeps h h.takeMessage e
  | readTransaction clocked => exact whenPowered_keeps h h.readReply e
  | storeWriteComplete => exact whenDue_keeps h h.storeCompletes e
  | leadingEdge x =>
    simp only [exec, execLeadingEdge] at e
    refine whenPowered_keeps h ?_ e
    split
    · exact h.takeSensorEdge fun _ hy => hy.matchLeading
    · exact h
  | trailingEdge x =>
    simp only [exec, execTrailingEdge] at e
    refine whenPowered_keeps h ?_ e
    split
    · exact h.takeSensorEdge fun _ hy => hy.matchTrailing
    · exact h
  | doorOpenEdge =>
    simp only [exec, execDoorOpenEdge] at e
    refine whenPowered_keeps h ?_ e
    split
    · exact h.takeDoorEdge
    · exact h
  | doorClosedEdge =>
    simp only [exec, execDoorClosedEdge] at e
    refine whenPowered_keeps h ?_ e
    split
    · exact h.takeDoorEdge
    · exact h
  | windowDeadline n =>
    simp only [exec, execWindowDeadline] at e
    refine whenPowered_keeps h ?_ e
    split
    · exact h.deadlineJam
    · exact h
  | purgeSettlingWaitEnd => exact whenDue_keeps h h.judgePurge e
  | periodicPostDue => exact whenDue_keeps h h.postPeriodically e
  | cardInsertion => exact whenDue_keeps h h.insertCard e
  | cardRemoval => exact whenDue_keeps h h.takeRemoval e
  | cardReadAnswer bytes => exact whenDue_keeps h h.readAnswered e
  | cardWriteAck => exact whenDue_keeps h h.writeAcknowledged e
  | cardAnswerDeadline => exact whenDue_keeps h h.cardSilent e
  | roll head p => exact whenPowered_keeps h (h.hearByKind (f := ⟨head, .roll p⟩)) e
  | holdRequest head p => exact whenPowered_keeps h (h.hearByKind (f := ⟨head, .holdRequest p⟩)) e
  | topUpRequest head p => exact whenPowered_keeps h (h.hearByKind (f := ⟨head, .topUpRequest p⟩)) e
  | post head p => exact whenPowered_keeps h (h.hearByKind (f := ⟨head, .post p⟩)) e
  | holdAnswer head p => exact whenPowered_keeps h (h.hearByKind (f := ⟨head, .holdAnswer p⟩)) e
  | postAnswer head p => exact whenPowered_keeps h (h.hearByKind (f := ⟨head, .postAnswer p⟩)) e
  | escrowQuery head p => exact whenPowered_keeps h (h.hearByKind (f := ⟨head, .escrowQuery p⟩)) e
  | escrowAnswer head p => exact whenPowered_keeps h (h.hearByKind (f := ⟨head, .escrowAnswer p⟩)) e
  | escrowRelease head p => exact whenPowered_keeps h (h.hearByKind (f := ⟨head, .escrowRelease p⟩)) e
  | releaseAnswer head p => exact whenPowered_keeps h (h.hearByKind (f := ⟨head, .releaseAnswer p⟩)) e
  | frameDiscarded bytes =>
    simp only [exec, execFrameDiscarded] at e
    refine whenPowered_keeps h ?_ e
    split
    · exact h.hearByKind
    · split
      · exact h
      · exact h.lineGoesIdle
  | frameSendStart idle => exact whenPowered_keeps h h.sendStarts e
  | frameSent => exact whenPowered_keeps h h.frameSentWhole e
  | collision => exact whenPowered_keeps h h.collide e
  | exchangeAnswerDeadline => exact whenDue_keeps h h.attemptFails e
  | exchangeStart => exact whenPowered_keeps h h.startExchange e
  | joiningWindowEnd => exact whenDue_keeps h h.becomeMember e
  | rollAnswerDelayEnd => exact whenDue_keeps h h.answerRoll e
  | accountRequestTaken =>
    simp only [exec, execAccountRequestTaken] at e
    refine whenPowered_keeps h ?_ e
    split
    · exact h.takeRequest
    · exact h
  | holdLapse id =>
    simp only [exec, execHoldLapse] at e
    refine whenPowered_keeps h ?_ e
    split
    · exact h.lapseHold
    · exact h
  | outboundRound => exact whenDue_keeps h h.beginRound e
  | sensorSample l door => exact whenDue_keeps h h.samplePath e
  | cardPresenceSample p => exact whenDue_keeps h h.samplePresence e
  | lineBusy => exact whenPowered_keeps h h.lineGoesBusy e

/-- Settles O55: every command (`exec_withinCapacities`) and every count of the time base (`State.withinCapacities.idle`)
keeps the capacities. -/
theorem stepsStayWithinCapacities : Obligations.StepsStayWithinCapacities := by
  unfold Obligations.StepsStayWithinCapacities
  exact fun _ _ h e => step_keeps (P := State.withinCapacities) (fun _ _ hx => hx.setPending) exec_withinCapacities
    (fun _ hx => hx.idle) h e

end Sys2Proof.Machine
end

section
/-! ## Samples of the path inputs (R41 to R43) -/

namespace Sys2Proof.Machine

/-- A reading into a filter, by agreement with the filtered state and by the count (R43). -/
theorem Filter.sample_spec (f : Filter) (reading : Bool) (t : TimePoint) :
    (f.sample reading t).on = f.on ∧
    (reading = f.on → (f.sample reading t).count = 0 ∧ (f.sample reading t).edge = f.edge) ∧
    (reading ≠ f.on → f.count < 2 →
      (f.sample reading t).count = f.count + 1 ∧ (f.sample reading t).edge = f.edge) ∧
    (reading ≠ f.on → 2 ≤ f.count → (f.sample reading t).count = 0 ∧ (f.sample reading t).edge = some t) := by
  by_cases agrees : reading = f.on
  · simp [Filter.sample, agrees]
  · by_cases counting : f.count < 2
    · simp [Filter.sample, agrees, counting]
    · simp [Filter.sample, agrees, counting]

/-- The threshold code that a profile holds for a sensor (R45). -/
def Profile.code (p : Profile) : PathSensor → Nat
  | .feed => p.thFeed
  | .reg => p.thReg
  | .fuse => p.thFuse
  | .duplex => p.thDuplex
  | .exit => p.thExit

/-- The threshold code of a sensor is the profile's, and 8 without one (R41). -/
theorem PathMonitor.threshold_eq (p : PathMonitor) (x : PathSensor) :
    p.threshold x = (p.profile.map fun q => q.code x).getD 8 := by
  unfold threshold
  cases p.profile with
  | none => rfl
  | some q => cases x <;> rfl

/-- The sample period of a path state (R42). -/
theorem PathState.after_period (p : PathState) (t : TimePoint) :
    after t p.period = t + (if p = .idle then 20#32 else 1#32) := by
  cases p <;> rfl

theorem execSensorSample_due {s : State} (hp : s.powered = true) (due : reached s.timeBase s.path.sampleDue = true)
    (taken : s.path.filters.waiting = false) (judged : s.path.settling ≠ some 0) (l : Levels) (door : DoorReading) :
    exec (.sensorSample l door) s = .next (samplePath l door s) :=
  whenDue_on _ _ _ hp (by simp [State.samplePathDue, due, taken, judged])

/-- Settles O20: each input goes by `Filter.sample_spec`, with the reading of its level by `PathMonitor.threshold_eq`. -/
theorem sampleFiltersAllSixInputs : Obligations.SampleFiltersAllSixInputs := by
  unfold Obligations.SampleFiltersAllSixInputs
  intro s l door hp due taken judged after th
  have sensor (x : PathSensor) (level : Nat) :
      after (s.path.filters.get x) (decide (th (fun q => q.code x) < level))
        ((s.path.filters.get x).sample (reads level (s.path.threshold x)) s.timeBase) := by
    rw [PathMonitor.threshold_eq]
    exact Filter.sample_spec _ _ _
  refine ⟨_, execSensorSample_due hp due taken judged l door, sensor .feed l.feed, sensor .reg l.reg,
    sensor .fuse l.fuse, sensor .duplex l.duplex, sensor .exit l.exit, Filter.sample_spec _ _ _, rfl,
    PathState.after_period _ _, rfl, rfl, rfl, rfl, rfl, rfl, ?_⟩
  simp [samplePath, State.unchangedBut]

end Sys2Proof.Machine
end

section
/-! ## Edges taken (R43, R44, R64) -/

namespace Sys2Proof.Machine

/-- The part with these filters. -/
def State.withFilters (s : State) (f : Filters) : State := s.setPath { s.path with filters := f }

/-- The filters once the edge that a sensor's filter holds was taken (R44). -/
def Filters.taking (f : Filters) (x : PathSensor) : Filters := f.set x (f.get x).flip

/-- The filters once the edge that the door's filter holds was taken (R44). -/
def Filters.takingDoor (f : Filters) : Filters := { f with door := f.door.flip }

/-- Path clear is judged in FAULT, and raised where the edge made it true (R64). -/
def State.clearNotices (s : State) (f : Filters) (t : TimePoint) : List Notice :=
  if s.path.state = .fault ∧ s.path.filters.clear = false ∧ f.clear = true then
    [{ time := s.timeBase, body := .pathClear t }] else []

theorem clearNotices_of_active {s : State} (h : s.path.state = .active) (f : Filters) (t : TimePoint) :
    s.clearNotices f t = [] := if_neg (by simp [h])

section
variable {s : State} {x : PathSensor} {t : TimePoint} {m : PathSensor → TimePoint → State → State}

theorem takeSensorEdge_active (h : s.path.state = .active) :
    takeSensorEdge x t m s = m x t (s.withFilters (s.path.filters.taking x)) := if_pos h

theorem takeSensorEdge_still (h : s.path.state ≠ .active) :
    takeSensorEdge x t m s = clearAfterEdge s.path.filters.clear t (s.withFilters (s.path.filters.taking x)) := if_neg h

theorem takeDoorEdge_active {opening : Bool} (h : s.path.state = .active) :
    takeDoorEdge opening t s =
      if opening then declareJam .door .door none (s.withFilters s.path.filters.takingDoor)
      else s.withFilters s.path.filters.takingDoor := if_pos h

theorem takeDoorEdge_still {opening : Bool} (h : s.path.state ≠ .active) :
    takeDoorEdge opening t s = clearAfterEdge s.path.filters.clear t (s.withFilters s.path.filters.takingDoor) :=
  if_neg h

theorem execLeadingEdge_taken (hp : s.powered = true) (hon : (s.path.filters.get x).on = false)
    (hedge : (s.path.filters.get x).edge = some t) :
    exec (.leadingEdge x) s = .next (takeSensorEdge x t matchLeading s) := by
  have edge : s.sensorEdge x false = some t := by simp [State.sensorEdge, hon, hedge]
  show execLeadingEdge x s = _
  rw [execLeadingEdge, whenPowered_on _ _ hp, edge]

theorem execTrailingEdge_taken (hp : s.powered = true) (hon : (s.path.filters.get x).on = true)
    (hedge : (s.path.filters.get x).edge = some t) :
    exec (.trailingEdge x) s = .next (takeSensorEdge x t matchTrailing s) := by
  have edge : s.sensorEdge x true = some t := by simp [State.sensorEdge, hon, hedge]
  show execTrailingEdge x s = _
  rw [execTrailingEdge, whenPowered_on _ _ hp, edge]

theorem execDoorOpenEdge_taken (hp : s.powered = true) (hon : s.path.filters.door.on = false)
    (hedge : s.path.filters.door.edge = some t) : exec .doorOpenEdge s = .next (takeDoorEdge true t s) := by
  have edge : s.doorEdge false = some t := by simp [State.doorEdge, hon, hedge]
  show execDoorOpenEdge s = _
  rw [execDoorOpenEdge, whenPowered_on _ _ hp, edge]

theorem execDoorClosedEdge_taken (hp : s.powered = true) (hon : s.path.filters.door.on = true)
    (hedge : s.path.filters.door.edge = some t) : exec .doorClosedEdge s = .next (takeDoorEdge false t s) := by
  have edge : s.doorEdge true = some t := by simp [State.doorEdge, hon, hedge]
  show execDoorClosedEdge s = _
  rw [execDoorClosedEdge, whenPowered_on _ _ hp, edge]

end

/-- The part once an edge was taken that is matched to no record: the filters are these, and the notices of path clear
are raised (R44, R64). -/
structure State.edgeTaken (s : State) (t : TimePoint) (f : Filters) (u : State) : Prop where
  path : u.path = { s.path with filters := f }
  state : u.port.state = s.port.state
  notices : u.port.notices = s.port.notices ++ s.clearNotices f t
  rest : s.unchangedBut [.path, .port] u

theorem clearAfterEdge_edgeTaken {s : State} (room : s.port.notices.length < 16) (f : Filters) (t : TimePoint) :
    s.edgeTaken t f (clearAfterEdge s.path.filters.clear t (s.withFilters f)) := by
  by_cases clears : s.path.state = .fault ∧ s.path.filters.clear = false ∧ f.clear = true
  · have raised : clearAfterEdge s.path.filters.clear t (s.withFilters f) =
        raiseNotice (.pathClear t) (s.withFilters f) := if_pos clears
    rw [raised]
    exact ⟨by simp [State.withFilters], by simp [State.withFilters],
      by simp [State.withFilters, raiseNotice_port, room, State.clearNotices, clears],
      by simp [State.withFilters, State.unchangedBut]⟩
  · have quiet : clearAfterEdge s.path.filters.clear t (s.withFilters f) = s.withFilters f := if_neg clears
    rw [quiet]
    exact ⟨rfl, rfl, by simp [State.withFilters, State.clearNotices, clears],
      by simp [State.withFilters, State.unchangedBut]⟩

theorem withFilters_edgeTaken {s : State} (h : s.path.state = .active) (f : Filters) (t : TimePoint) :
    s.edgeTaken t f (s.withFilters f) :=
  ⟨rfl, rfl, by simp [State.withFilters, clearNotices_of_active h], by simp [State.withFilters, State.unchangedBut]⟩

/-- Settles O21: out of ACTIVE every edge goes by `clearAfterEdge_edgeTaken`; in ACTIVE the closing door's has nothing to
judge. -/
theorem edgesOutOfActiveFlipTheirFilter : Obligations.EdgesOutOfActiveFlipTheirFilter := by
  unfold Obligations.EdgesOutOfActiveFlipTheirFilter
  intro s time hp room ends
  have taken {f : Filters} {u : State} (h : s.edgeTaken time f u) : ends f u := ⟨h.path, h.state, h.notices, h.rest⟩
  refine ⟨fun x still hedge => ⟨fun hon => ?_, fun hon => ?_⟩, fun hedge => ⟨fun hon still => ?_, fun hon => ?_⟩⟩
  · refine ⟨_, execLeadingEdge_taken hp hon hedge, ?_⟩
    rw [takeSensorEdge_still still]
    exact taken (clearAfterEdge_edgeTaken room _ _)
  · refine ⟨_, execTrailingEdge_taken hp hon hedge, ?_⟩
    rw [takeSensorEdge_still still]
    exact taken (clearAfterEdge_edgeTaken room _ _)
  · refine ⟨_, execDoorOpenEdge_taken hp hon hedge, ?_⟩
    rw [takeDoorEdge_still still]
    exact taken (clearAfterEdge_edgeTaken room _ _)
  · refine ⟨_, execDoorClosedEdge_taken hp hon hedge, ?_⟩
    by_cases active : s.path.state = .active
    · rw [takeDoorEdge_active active]
      exact taken (withFilters_edgeTaken active _ _)
    · rw [takeDoorEdge_still active]
      exact taken (clearAfterEdge_edgeTaken room _ _)

end Sys2Proof.Machine
end

section
/-! ## Edges in ACTIVE: the sheet moves on (R48, R52 to R54) -/

namespace Sys2Proof.Machine

/-- A record awaits a kind of edge at a sensor (R50). -/
theorem SheetRecord.awaitsAt_iff {a : Awaited} {x : PathSensor} {r : SheetRecord} :
    r.awaitsAt a x = true ↔ r.awaits = a ∧ r.sensor = some x := by simp [awaitsAt]

/-- A window holds a time that is at its first end or beyond it, and not beyond its last (R48). -/
theorem SheetRecord.holds_iff {t : TimePoint} {r : SheetRecord} :
    r.holds t = true ↔ reached t r.earliest = true ∧ beyond t r.latest = false := by simp [holds]

/-! ### Times under the profile held (R48, R49) -/

section
variable {m : PathMonitor} {p : Profile} (h : m.profile = some p)
include h

theorem PathMonitor.stay_eq (d : Sheet) : m.stay d = if d.size = .std then p.stayStd else p.stayLarge := by
  cases hd : d.size <;> simp [stay, h, Profile.stay, hd]

theorem PathMonitor.segment_eq (a b : PathSensor) : m.segment a b = p.segment a b := by simp [segment, h]

theorem PathMonitor.tolerance_eq : m.tolerance = p.tolerance := by simp [tolerance, h]

end

/-! ### The record moves on -/

section
variable {s : State} {x : PathSensor} {t : TimePoint} {r : SheetRecord}

/-- A leading edge in the window of the first record that awaits it there (R52). -/
theorem matchLeading_led
    (found : (s.path.queue.filter (SheetRecord.awaitsAt .lead x)).find? (SheetRecord.holds t) = some r) :
    matchLeading x t s = s.setPath { s.path with queue := setRecord (r.led s.path t) s.path.queue } := by
  simp only [matchLeading, found]

theorem matchTrailing_moves (found : s.path.queue.find? (SheetRecord.awaitsAt .trail x) = some r)
    (early : reached t r.earliest = true) (late : beyond t r.latest = false) :
    matchTrailing x t s = moveOn x r s := by
  simp [matchTrailing, found, early, SheetRecord.overdue, late]

theorem moveOn_next {next : PathSensor} (hn : (route r.sheet.faces)[r.position]? = some next) :
    moveOn x r s = s.setPath { s.path with queue := setRecord (r.advanced s.path x next) s.path.queue } := by
  simp only [moveOn, hn]

end

/-- Settles O22: the edge is matched to the first record that awaits it, by `matchLeading_led` and `moveOn_next`. -/
theorem edgesInTheirWindowMoveTheSheetOn : Obligations.EdgesInTheirWindowMoveTheSheetOn := by
  unfold Obligations.EdgesInTheirWindowMoveTheSheetOn
  intro s x time p r hp active profile hedge f inWindow replaced low high stay
  have held : (s.withFilters (s.path.filters.taking x)).path.profile = some p := profile
  refine ⟨fun before rest hon hq awaits sensor window others => ?_,
    fun before rest next lead hon hq awaits sensor window others hnext hlead => ?_⟩
  · have found : (s.path.queue.filter (SheetRecord.awaitsAt .lead x)).find? (SheetRecord.holds time) = some r := by
      rw [List.find?_filter, List.find?_eq_some_iff_append]
      refine ⟨?_, before, rest, hq, fun y hy => ?_⟩
      · simp [SheetRecord.awaitsAt_iff, SheetRecord.holds_iff, awaits, sensor, window.1, window.2]
      · rw [Bool.not_eq_true']
        simpa [← Bool.not_eq_true, SheetRecord.awaitsAt_iff, SheetRecord.holds_iff] using others y hy
    rw [execLeadingEdge_taken hp hon hedge, takeSensorEdge_active active,
      matchLeading_led (s := s.withFilters (s.path.filters.taking x)) found, SheetRecord.led,
      PathMonitor.stay_eq held, PathMonitor.tolerance_eq held]
    rfl
  · have found : s.path.queue.find? (SheetRecord.awaitsAt .trail x) = some r := by
      rw [List.find?_eq_some_iff_append]
      refine ⟨SheetRecord.awaitsAt_iff.mpr ⟨awaits, sensor⟩, before, rest, hq, fun y hy => ?_⟩
      simpa [← Bool.not_eq_true, SheetRecord.awaitsAt_iff] using others y hy
    rw [execTrailingEdge_taken hp hon hedge, takeSensorEdge_active active,
      matchTrailing_moves (s := s.withFilters (s.path.filters.taking x)) found window.1 window.2, moveOn_next hnext,
      SheetRecord.advanced, PathMonitor.segment_eq held, PathMonitor.tolerance_eq held, hlead]
    rfl

end Sys2Proof.Machine
end

section
/-! ## Jams (R17, R18, R55 to R58, R64) -/

namespace Sys2Proof.Machine

/-! ### Additions one after another add up -/

/-- A counter saturates at the same value, added to at once or in parts (R164). -/
theorem Counter.add_add (n m : Nat) (c : Counter) : (c.add n).add m = c.add (n + m) := by
  simp only [Counter.add, Counter.mk.injEq]; omega

theorem MeterRecord.plus_plus (n m : MetersOf Nat) (r : MeterRecord) :
    (r.plus n).plus m = r.plus (MetersOf.zip (· + ·) n m) := by
  simp [MeterRecord.plus, MetersOf.zip, UsageOf.zip, Counter.add_add]

/-! ### The lost list (R75) -/

/-- Tags that join a lost list of 12 places one by one: it keeps the last 12, and is marked where it lost one. -/
theorem LostList.foldl_join (ts : List Tag) {l : LostList} (h : l.tags.length ≤ 12) :
    ts.foldl LostList.join l = { l with
      tags := (l.tags ++ ts).drop (l.tags.length + ts.length - 12)
      overflow := l.overflow || decide (12 < l.tags.length + ts.length) } := by
  induction ts generalizing l with
  | nil =>
    have none_lost : l.tags.length - 12 = 0 := by omega
    have no_mark : ¬ 12 < l.tags.length := by omega
    simp [none_lost, no_mark]
  | cons t ts ih =>
    rw [List.foldl_cons, ih (join_length h t)]
    unfold join
    split
    · simp [Nat.add_comm, Nat.add_left_comm]
    · have full : l.tags.length = 12 := by omega
      obtain ⟨a, tags, ht⟩ : ∃ a tags, l.tags = a :: tags := List.exists_cons_of_length_pos (by omega)
      have eleven : tags.length = 11 := by simpa [ht] using full
      simp [ht, eleven]

/-! ### The losses of a jam (R17) -/

/-- Losses touch the job unit, the meters and the store's writes. -/
theorem foldl_loseSheet_unchanged (q : List SheetRecord) (s : State) :
    s.unchangedBut [.job, .meter, .store] (q.foldl loseSheet s) := by
  induction q generalizing s with
  | nil => simp [State.unchangedBut]
  | cons r rest ih => simpa [State.unchangedBut] using ih (loseSheet s r)

section
variable (q : List SheetRecord) (s : State)

@[simp] theorem foldl_loseSheet_path : (q.foldl loseSheet s).path = s.path := by
  obtain ⟨-, -, -, -, -, -, path, -⟩ := foldl_loseSheet_unchanged q s
  exact path (by decide)

@[simp] theorem foldl_loseSheet_port : (q.foldl loseSheet s).port = s.port := by
  obtain ⟨-, -, -, port, -⟩ := foldl_loseSheet_unchanged q s
  exact port (by decide)

@[simp] theorem foldl_loseSheet_timeBase : (q.foldl loseSheet s).timeBase = s.timeBase := by
  obtain ⟨-, timeBase, -⟩ := foldl_loseSheet_unchanged q s
  exact timeBase (by decide)

@[simp] theorem foldl_loseSheet_records : (q.foldl loseSheet s).store.records = s.store.records := by
  induction q generalizing s with
  | nil => rfl
  | cons r rest ih => rw [List.foldl_cons, ih]; simp [loseSheet]

/-- The job unit after the losses: its context by `foldl_loseSheet_ctx`, its lost list with every tag. -/
theorem foldl_loseSheet_job : (q.foldl loseSheet s).job =
    { s.job with
      ctx := { s.job.ctx with
        reserved := s.job.ctx.reserved - (q.map SheetRecord.reserve).sum, lost := s.job.ctx.lost + q.length }
      lostList := (q.map SheetRecord.tag).foldl LostList.join s.job.lostList } := by
  rw [← foldl_loseSheet_ctx]
  induction q generalizing s with
  | nil => rfl
  | cons r rest ih => rw [List.foldl_cons, ih]; simp [loseSheet]

/-- One count for each loss, with what is added after them. -/
theorem foldl_loseSheet_meter (n : MetersOf Nat) :
    ({ (q.foldl loseSheet s).meter with record := (q.foldl loseSheet s).meter.record.plus n } : MeterUnit) =
    { s.meter with
      record := s.meter.record.plus (MetersOf.zip (· + ·) { MetersOf.zero with lost := q.length } n) } := by
  induction q generalizing s with
  | nil => simp [MetersOf.zip, UsageOf.zip, MetersOf.zero, MetersOf.all, UsageOf.all]
  | cons r rest ih =>
    refine (ih (loseSheet s r)).trans ?_
    rw [loseSheet, addMeters_meter, MeterRecord.plus_plus]
    simp [MetersOf.zip, UsageOf.zip, MetersOf.zero, MetersOf.all, UsageOf.all, Nat.add_assoc, Nat.add_comm 1]

end

/-! ### The declaration of a jam (R18, R57, R58, R64) -/

theorem raiseNotice_eq (b : NoticeBody) (s : State) : raiseNotice b s = s.setPort (raiseNotice b s).port := by
  unfold raiseNotice; split <;> rfl

/-- Path clear on entry to FAULT concerns the port alone. -/
theorem clearOnEntry_eq (s : State) : clearOnEntry s = s.setPort (clearOnEntry s).port := by
  unfold clearOnEntry
  split
  · exact raiseNotice_eq _ _
  · rfl

/-- PATH CLEAR on entry to FAULT, where there is room for it (R64). -/
theorem clearOnEntry_port {s : State} (room : s.port.notices.length < 16) :
    (clearOnEntry s).port = { s.port with notices := s.port.notices ++
      (if s.path.filters.clear then [{ time := s.timeBase, body := .pathClear s.timeBase }] else []) } := by
  unfold clearOnEntry
  split
  · rw [raiseNotice_port, if_pos room]
  · simp

theorem enterPath_fault_of_active {s : State} (h : s.path.state = .active) :
    enterPath .fault s = s.setPath { s.path with state := .fault } := if_pos (.inl (by rw [h]; rfl))

/-- What a jam adds to the meters (R163). -/
def jamCounts (kind : JamKind) : MetersOf Nat := { MetersOf.zero with jams := JamsOf.only kind }

/-- The path in FAULT with its sheets lost and the jam record made (R17, R57, R58). -/
def jamSuffered (record : JamRecord) (s : State) : State :=
  (s.path.queue.foldl loseSheet (s.setPath { s.path with state := .fault, queue := [] })).setPath
    { s.path with state := .fault, queue := [], jam := some record }

/-- The meters, the JAM notice, the path fault at the job unit and path clear, in their order (R18, R58, R64). -/
def jamReported (record : JamRecord) (s : State) : State :=
  clearOnEntry (faultJob (raiseNotice (.jam record) (addMeters (jamCounts record.kind) s)))

/-- The record of a jam at the count of its declaration (R57; log 31). -/
def State.jamRecord (s : State) (kind : JamKind) (place : JamPlace) (sheet : Option (Nat × Tag)) : JamRecord :=
  { kind := kind, place := place, sheet := sheet, time := s.timeBase, lost := s.path.queue.length }

theorem declareJam_of_active {s : State} (h : s.path.state = .active) (kind : JamKind) (place : JamPlace)
    (named : Option SheetRecord) : declareJam kind place named s =
      jamReported (s.jamRecord kind place (named.map SheetRecord.named))
        (jamSuffered (s.jamRecord kind place (named.map SheetRecord.named)) s) := by
  rw [declareJam, enterPath_fault_of_active h]
  simp [jamReported, jamSuffered, State.jamRecord, jamCounts]

section
variable (record : JamRecord) (s : State)

theorem jamReported_job : (jamReported record s).job = { s.job with ctx := { s.job.ctx with
    state := if s.job.ctx.state = .running ∨ s.job.ctx.state = .draining then .halted else s.job.ctx.state } } := by
  rw [jamReported, clearOnEntry_eq, State.setPort_job, faultJob_job]
  simp

theorem jamReported_path : (jamReported record s).path = s.path := by
  rw [jamReported, clearOnEntry_eq]
  simp

theorem jamReported_meter :
    (jamReported record s).meter = { s.meter with record := s.meter.record.plus (jamCounts record.kind) } := by
  rw [jamReported, clearOnEntry_eq]
  simp

theorem jamReported_records : (jamReported record s).store.records = s.store.records := by
  rw [jamReported, clearOnEntry_eq]
  simp

/-- JAM, and PATH CLEAR where the path is clear on entry, in a queue with room for both (R58, R64). -/
theorem jamReported_port (room : s.port.notices.length ≤ 14) : (jamReported record s).port =
    { s.port with notices := s.port.notices ++ { time := s.timeBase, body := .jam record } ::
      (if s.path.filters.clear then [{ time := s.timeBase, body := .pathClear s.timeBase }] else []) } := by
  have jam : (faultJob (raiseNotice (.jam record) (addMeters (jamCounts record.kind) s))).port =
      { s.port with notices := s.port.notices ++ [{ time := s.timeBase, body := .jam record }] } := by
    rw [faultJob_port, raiseNotice_port, if_pos (by simp; omega)]
    simp
  rw [jamReported, clearOnEntry_port (by rw [jam]; simp; omega), jam]
  simp

theorem jamSuffered_path :
    (jamSuffered record s).path = { s.path with state := .fault, queue := [], jam := some record } := rfl

@[simp] theorem jamSuffered_port : (jamSuffered record s).port = s.port := by simp [jamSuffered]
@[simp] theorem jamSuffered_timeBase : (jamSuffered record s).timeBase = s.timeBase := by simp [jamSuffered]
@[simp] theorem jamSuffered_records : (jamSuffered record s).store.records = s.store.records := by simp [jamSuffered]

theorem jamSuffered_job (list : s.job.lostList.tags.length ≤ 12) : (jamSuffered record s).job =
    { s.job with
      ctx := { s.job.ctx with
        reserved := s.job.ctx.reserved - (s.path.queue.map SheetRecord.reserve).sum
        lost := s.job.ctx.lost + s.path.queue.length }
      lostList := { s.job.lostList with
        tags := (s.job.lostList.tags ++ s.path.queue.map SheetRecord.tag).drop
          (s.job.lostList.tags.length + s.path.queue.length - 12)
        overflow := s.job.lostList.overflow || decide (12 < s.job.lostList.tags.length + s.path.queue.length) } } := by
  rw [jamSuffered, State.setPath_job, foldl_loseSheet_job]
  simp [LostList.foldl_join _ list]

/-- The losses and the jam are counted together (R163, R164). -/
theorem jamSuffered_meter (kind : JamKind) :
    ({ (jamSuffered record s).meter with
      record := (jamSuffered record s).meter.record.plus (jamCounts kind) } : MeterUnit) =
    { s.meter with record := { s.meter.record with
      counters := MetersOf.zip Counter.add
        { MetersOf.zero with lost := s.path.queue.length, jams := JamsOf.only kind } s.meter.record.counters } } := by
  refine (foldl_loseSheet_meter s.path.queue _ (jamCounts kind)).trans ?_
  simp [jamCounts, MeterRecord.plus, MetersOf.zip, UsageOf.zip, MetersOf.zero, MetersOf.all, UsageOf.all]

end

/-- A jam of ACTIVE does all that a jam does, whatever edge was taken before it. -/
theorem declareJam_jammed {s : State} (h : s.path.state = .active) (list : s.job.lostList.tags.length ≤ 12) (f : Filters)
    (kind : JamKind) (place : JamPlace) (named : Option SheetRecord) :
    s.jammed f kind place (named.map SheetRecord.named) (declareJam kind place named (s.withFilters f)) := by
  rw [declareJam_of_active (s := s.withFilters f) h]
  unfold State.jammed
  refine ⟨?_, ?_, ?_, fun room => ?_, ?_, ?_⟩
  · rw [jamReported_path, jamSuffered_path]
    rfl
  · rw [jamReported_job, jamSuffered_job _ (s.withFilters f) list]
    rfl
  · rw [jamReported_meter]
    exact jamSuffered_meter _ (s.withFilters f) kind
  · rw [jamReported_port _ _ (by simpa [State.withFilters] using room), jamSuffered_path, jamSuffered_port,
      jamSuffered_timeBase]
    rfl
  · rw [jamReported_records, jamSuffered_records]
    rfl
  · rw [jamReported, clearOnEntry_eq, jamSuffered]
    simpa [State.unchangedBut, State.withFilters] using foldl_loseSheet_unchanged s.path.queue
      ((s.withFilters f).setPath { (s.withFilters f).path with state := .fault, queue := [] })

/-! ### What declares a jam (R52, R53, R55, R56) -/

section
variable {s : State} {x : PathSensor} {t : TimePoint} {r : SheetRecord}

/-- No window holds the leading edge, and a record that awaits it is overdue (R52). -/
theorem matchLeading_late
    (outside : (s.path.queue.filter (SheetRecord.awaitsAt .lead x)).find? (SheetRecord.holds t) = none)
    (late : (s.path.queue.filter (SheetRecord.awaitsAt .lead x)).find? (SheetRecord.overdue t) = some r) :
    matchLeading x t s = declareJam .late (.sensor x) (some r) s := by
  simp only [matchLeading, outside, late]

/-- No window holds the leading edge, and no record that awaits it is overdue (R52). -/
theorem matchLeading_early {rest : List SheetRecord}
    (outside : (s.path.queue.filter (SheetRecord.awaitsAt .lead x)).find? (SheetRecord.holds t) = none)
    (late : (s.path.queue.filter (SheetRecord.awaitsAt .lead x)).find? (SheetRecord.overdue t) = none)
    (first : s.path.queue.filter (SheetRecord.awaitsAt .lead x) = r :: rest) :
    matchLeading x t s = declareJam .early (.sensor x) (some r) s := by
  simp only [matchLeading, outside, late]
  rw [first]

/-- No record awaits the leading edge (R52). -/
theorem matchLeading_stray (none_waits : s.path.queue.filter (SheetRecord.awaitsAt .lead x) = []) :
    matchLeading x t s = declareJam .stray (.sensor x) none s := by
  simp [matchLeading, none_waits]

theorem matchTrailing_stray (found : s.path.queue.find? (SheetRecord.awaitsAt .trail x) = none) :
    matchTrailing x t s = declareJam .stray (.sensor x) none s := by
  simp only [matchTrailing, found]

theorem matchTrailing_short (found : s.path.queue.find? (SheetRecord.awaitsAt .trail x) = some r)
    (early : reached t r.earliest = false) : matchTrailing x t s = declareJam .short (.sensor x) (some r) s := by
  simp [matchTrailing, found, early]

theorem matchTrailing_stay (found : s.path.queue.find? (SheetRecord.awaitsAt .trail x) = some r)
    (early : reached t r.earliest = true) (late : beyond t r.latest = true) :
    matchTrailing x t s = declareJam .stay (.sensor x) (some r) s := by
  simp [matchTrailing, found, early, SheetRecord.overdue, late]

/-- A passed deadline of the first record with its number (R55). -/
theorem execWindowDeadline_passed {before rest : List SheetRecord} (hp : s.powered = true)
    (active : s.path.state = .active) (hq : s.path.queue = before ++ r :: rest) (others : ∀ y ∈ before, y.number ≠ r.number)
    (passed : beyond s.timeBase r.latest = true) (sensor : r.sensor = some x) :
    exec (.windowDeadline r.number) s =
      .next (declareJam (if r.awaits = .lead then .late else .stay) (.sensor x) (some r) s) := by
  have late : s.lateRecord r.number = some r := by
    rw [State.lateRecord, if_pos active, List.find?_eq_some_iff_append]
    exact ⟨by simp [passed], before, rest, hq, fun y hy => by simp [others y hy]⟩
  show execWindowDeadline r.number s = _
  rw [execWindowDeadline, whenPowered_on _ _ hp, late]
  cases awaits : r.awaits <;> simp [deadlineJam, sensor, awaits]

end

/-- Settles O24: every jam is `declareJam_jammed`; what declares it is the case of R52, R53, R55 or R56. -/
theorem jamsLoseEverySheetInThePath : Obligations.JamsLoseEverySheetInThePath := by
  unfold Obligations.JamsLoseEverySheetInThePath
  intro s hp active list named flipped
  have jam (f : Filters) (kind : JamKind) (place : JamPlace) (r : Option SheetRecord) :=
    declareJam_jammed active list f kind place r
  refine ⟨fun time hon hedge => ?_, fun r before rest x hq others passed sensor => ?_, ?_, ?_⟩
  · refine ⟨_, execDoorOpenEdge_taken hp hon hedge, ?_⟩
    rw [takeDoorEdge_active active]
    have door : s.path.filters.takingDoor =
        { s.path.filters with door := { s.path.filters.door with on := true, edge := none } } := by
      simp [Filters.takingDoor, Filter.flip, hon]
    rw [← door]
    exact jam _ .door .door none
  · exact ⟨_, execWindowDeadline_passed hp active hq others passed sensor, jam s.path.filters _ _ (some r)⟩
  · intro x time hon hedge waiting outside
    have no_window : waiting.find? (SheetRecord.holds time) = none :=
      List.find?_eq_none.mpr fun y hy h => outside y hy (SheetRecord.holds_iff.mp h)
    have taken := execLeadingEdge_taken hp hon hedge
    rw [takeSensorEdge_active active] at taken
    refine ⟨fun r late => ⟨_, taken, ?_⟩, fun r rest first in_time => ⟨_, taken, ?_⟩, fun none_waits => ⟨_, taken, ?_⟩⟩
    · rw [matchLeading_late (s := s.withFilters (s.path.filters.taking x)) no_window late]
      exact jam _ _ _ (some r)
    · have none_late : waiting.find? (SheetRecord.overdue time) = none :=
        List.find?_eq_none.mpr fun y hy => by simp [SheetRecord.overdue, in_time y hy]
      rw [matchLeading_early (s := s.withFilters (s.path.filters.taking x)) no_window none_late first]
      exact jam _ _ _ (some r)
    · rw [matchLeading_stray (s := s.withFilters (s.path.filters.taking x)) none_waits]
      exact jam _ _ _ none
  · intro x time hon hedge found
    have taken := execTrailingEdge_taken hp hon hedge
    rw [takeSensorEdge_active active] at taken
    refine ⟨fun hr => ⟨_, taken, ?_⟩, fun r hr early => ⟨_, taken, ?_⟩, fun r hr early late => ⟨_, taken, ?_⟩⟩
    · rw [matchTrailing_stray (s := s.withFilters (s.path.filters.taking x)) hr]
      exact jam _ _ _ none
    · rw [matchTrailing_short (s := s.withFilters (s.path.filters.taking x)) hr early]
      exact jam _ _ _ (some r)
    · rw [matchTrailing_stay (s := s.withFilters (s.path.filters.taking x)) hr early late]
      exact jam _ _ _ (some r)

end Sys2Proof.Machine
end

section
/-! ## Jam recovery: what purges, SERVICE CLEAR and RESUME share (R42, R64 to R73) -/

namespace Sys2Proof.Machine

/-! ### A command without parameters taken by the port -/

/-- The owner of a command without parameters runs with the command in hand (R173). -/
theorem whenPowered_takeBare {s : State} (h : s.accepts) (o : Opcode) (owner : State → State) :
    whenPowered s (takeBare o [] owner) = .next (owner (commandTaken o s)) := by
  rw [whenPowered_on _ _ h.1, takeBare_taken _ _ _ h.2, commandTaken]

section
variable {s : State} (h : s.accepts)
include h

theorem execPurgeStart_taken : exec (.purgeStart []) s = .next (purgeStart (commandTaken .purgeStart s)) :=
  whenPowered_takeBare h .purgeStart purgeStart

theorem execPurgeEnd_taken : exec (.purgeEnd []) s = .next (purgeEnd (commandTaken .purgeEnd s)) :=
  whenPowered_takeBare h .purgeEnd purgeEnd

theorem execServiceClear_taken : exec (.serviceClear []) s = .next (serviceClear (commandTaken .serviceClear s)) :=
  whenPowered_takeBare h .serviceClear serviceClear

theorem execResume_taken : exec (.resume []) s = .next (resume (commandTaken .resume s)) :=
  whenPowered_takeBare h .resume resume

end

/-! ### Path states entered, and path clear on entry (R42, R64) -/

section
variable (p : PathState) (s : State)

@[simp] theorem enterPath_purgeCount : (enterPath p s).path.purgeCount = s.path.purgeCount := by
  unfold enterPath; split <;> rfl

@[simp] theorem enterPath_lastSample : (enterPath p s).path.lastSample = s.path.lastSample := by
  unfold enterPath; split <;> rfl

end

section
variable {p : PathState} {s : State}

/-- A state with the same sample period: the next sample stays due when it was (R42). -/
theorem enterPath_of_period (h : p.period = s.path.state.period) :
    enterPath p s = s.setPath { s.path with state := p } := if_pos (.inl h)

/-- IDLE out of a state with the sample period of 1 ms: a sample due by now stays due (log 40), else the next one is due
20 ms after the last, or at the next count where that has passed (R42). -/
theorem enterPath_idle_sampleDue (h : s.path.state.period = 1) :
    (enterPath .idle s).path.sampleDue =
      if reached s.timeBase s.path.sampleDue = true then s.path.sampleDue
      else if beyond s.timeBase (s.path.lastSample + 20#32) = true then s.timeBase + 1#32
      else s.path.lastSample + 20#32 := by
  have idle : PathState.idle.period = 20 := rfl
  by_cases due : reached s.timeBase s.path.sampleDue = true <;> simp [enterPath, h, due, idle, after]

theorem clearOnEntry_of_clear (h : s.path.filters.clear = true) :
    clearOnEntry s = raiseNotice (.pathClear s.timeBase) s := if_pos h

theorem raiseNotice_notices (room : s.port.notices.length < 16) (b : NoticeBody) :
    (raiseNotice b s).port.notices = s.port.notices ++ [{ time := s.timeBase, body := b }] := by
  rw [raiseNotice_port, if_pos room]

end

end Sys2Proof.Machine
end

section
/-! ## PURGE START and SERVICE CLEAR (R68, R73) -/

namespace Sys2Proof.Machine

section
variable {s : State}

theorem purgeStart_outOfFault (h : s.path.state ≠ .fault) : purgeStart s = complete .wrongState .none s := if_pos h

theorem purgeStart_doorOpen (h : s.path.state = .fault) (door : s.path.filters.door.on = true) :
    purgeStart s = complete .doorOpen .none s := by simp [purgeStart, h, door]

theorem purgeStart_doorClosed (h : s.path.state = .fault) (door : s.path.filters.door.on = false) :
    purgeStart s =
      complete .ok (.purgeCount s.path.purgeCount) (s.setPath { s.path with state := .purging }) := by
  rw [purgeStart, if_neg (not_not_intro h), if_neg (by simp [door]),
    enterPath_of_period (by simp [h, PathState.period])]

theorem serviceClear_outOfService (h : s.path.state ≠ .service) : serviceClear s = complete .wrongState .none s :=
  if_pos h

theorem serviceClear_notClear (h : s.path.state = .service) (blocked : s.path.filters.clear = false) :
    serviceClear s = complete .pathNotClear .none s := by simp [serviceClear, h, blocked]

/-- Path clear out of SERVICE: FAULT with the count at 0, and PATH CLEAR on entry (R64, R73). -/
theorem serviceClear_clear (h : s.path.state = .service) (clear : s.path.filters.clear = true) :
    serviceClear s = complete .ok .none (raiseNotice (.pathClear s.timeBase)
      (s.setPath { s.path with state := .fault, purgeCount := 0 })) := by
  rw [serviceClear, if_neg (not_not_intro h), if_neg (by simp [clear]),
    enterPath_of_period (by simp [h, PathState.period]), clearOnEntry_of_clear (by exact clear)]
  rfl

end

/-- Settles O25, path state by path state of the two commands. -/
theorem purgeStartAndServiceClearByPathState : Obligations.PurgeStartAndServiceClearByPathState := by
  unfold Obligations.PurgeStartAndServiceClearByPathState
  intro s ha
  rw [execPurgeStart_taken ha, execServiceClear_taken ha]
  refine ⟨fun other => ?_, fun fault door => ?_, fun fault door => ⟨_, rfl, ?_⟩, fun other => ?_,
    fun service blocked => ?_, fun service clear room => ⟨_, rfl, ?_⟩⟩
  · rw [purgeStart_outOfFault (by simpa using other), complete_commandTaken]
  · rw [purgeStart_doorOpen (by simpa using fault) (by simpa using door), complete_commandTaken]
  · rw [purgeStart_doorClosed (by simpa using fault) (by simpa using door), commandTaken_path]
    exact ⟨complete_holdsResult _ _ rfl, by simp, by simp, by simp [State.unchangedBut]⟩
  · rw [serviceClear_outOfService (by simpa using other), complete_commandTaken]
  · rw [serviceClear_notClear (by simpa using service) (by simpa using blocked), complete_commandTaken]
  · rw [serviceClear_clear (by simpa using service) (by simpa using clear)]
    exact ⟨complete_holdsResult _ _ (by simp), by simp, by simp [raiseNotice_notices, room],
      by simp [State.unchangedBut]⟩

end Sys2Proof.Machine
end

section
/-! ## PURGE END and the judgement of a purge (R70 to R72) -/

namespace Sys2Proof.Machine

/-- A filter without an edge has nothing to settle. -/
theorem Filter.settled_of_no_edge {f : Filter} (h : f.edge.isSome = false) : f.settled = f := if_neg (by simp [h])

/-- With no edge waiting the judgement is on the filters as they are (R70). -/
theorem Filters.settled_of_not_waiting {f : Filters} (h : f.waiting = false) : f.settled = f := by
  simp only [Filters.waiting, Bool.or_eq_false_iff] at h
  obtain ⟨⟨⟨⟨⟨feed, reg⟩, fuse⟩, duplex⟩, exit⟩, door⟩ := h
  simp only [Filters.settled, Filter.settled_of_no_edge, feed, reg, fuse, duplex, exit, door]

section
variable {s : State}

theorem purgeEnd_outOfPurging (h : s.path.state ≠ .purging) : purgeEnd s = complete .wrongState .none s := if_neg h

theorem purgeEnd_purging (h : s.path.state = .purging) :
    purgeEnd s = s.setPath { s.path with settling := some 3 } := if_pos h

theorem execPurgeSettlingWaitEnd_ended (hp : s.powered = true) (ended : s.path.settling = some 0) :
    exec .purgeSettlingWaitEnd s = .next (judgePurge s) :=
  whenDue_on _ _ _ hp (by simp [State.purgeOver, ended])

variable (h : s.path.state = .purging) (taken : s.path.filters.waiting = false)
include h taken

theorem judgePurge_clear (clear : s.path.filters.clear = true) :
    judgePurge s = complete .ok (.purged .clear s.path.purgeCount s.path.filters.states)
      (raiseNotice (.pathClear s.timeBase) (s.setPath { s.path with state := .fault, settling := none })) := by
  simp only [judgePurge, Filters.settled_of_not_waiting taken, State.setPath_path, clear, if_true]
  rw [enterPath_of_period (by simp [h, PathState.period]), clearOnEntry_of_clear (by exact clear)]
  rfl

/-- Not clear for the first or second time (R71). -/
theorem judgePurge_notClear (blocked : s.path.filters.clear = false) (few : s.path.purgeCount < 2) :
    judgePurge s = complete .ok (.purged .notClear (s.path.purgeCount + 1) s.path.filters.states)
      (s.setPath { s.path with state := .fault, settling := none, purgeCount := s.path.purgeCount + 1 }) := by
  simp only [judgePurge, Filters.settled_of_not_waiting taken, State.setPath_path, blocked, few, if_true]
  rw [if_neg Bool.false_ne_true, enterPath_of_period (by simp [h, PathState.period])]
  rfl

/-- Not clear for the third time: SERVICE, with its notice (R71, R72). -/
theorem judgePurge_service (blocked : s.path.filters.clear = false) (third : s.path.purgeCount = 2) :
    judgePurge s = complete .ok (.purged .service 3 s.path.filters.states)
      (raiseNotice (.service 3 s.path.filters.states)
        (s.setPath { s.path with state := .service, settling := none, purgeCount := 3 })) := by
  simp only [judgePurge, Filters.settled_of_not_waiting taken, State.setPath_path, blocked, third]
  rw [if_neg Bool.false_ne_true, if_neg (lt_irrefl 2), enterPath_of_period (by simp [h, PathState.period])]
  rfl

end

/-- A judgement concerns the port and the path alone. -/
theorem judgePurge_unchanged (s : State) : s.unchangedBut [.port, .path] (judgePurge s) := by
  dsimp only [judgePurge]
  split_ifs
  · rw [clearOnEntry_eq]
    simp [State.unchangedBut]
  · simp [State.unchangedBut]
  · simp [State.unchangedBut]

/-- Settles O26: PURGE END by the path state, the judgement by its three outcomes. -/
theorem purgeIsJudgedByPathClear : Obligations.PurgeIsJudgedByPathClear := by
  unfold Obligations.PurgeIsJudgedByPathClear
  refine fun s => ⟨fun ha other => ?_, fun ha purging => ⟨_, execPurgeEnd_taken ha, ?_⟩, ?_⟩
  · rw [execPurgeEnd_taken ha, purgeEnd_outOfPurging (by simpa using other), complete_commandTaken]
  · rw [purgeEnd_purging (by simpa using purging)]
    exact ⟨rfl, by simp, by simp [State.unchangedBut]⟩
  · intro hp hport purging ended taken room n states
    refine ⟨_, execPurgeSettlingWaitEnd_ended hp ended, judgePurge_unchanged s, fun clear => ?_,
      fun blocked few => ?_, fun blocked third => ?_⟩
    · rw [judgePurge_clear purging taken clear]
      exact ⟨by simp, (complete_port_notices _ _).trans (raiseNotice_notices (by exact room) _),
        complete_holdsResult _ _ (by simpa using hport)⟩
    · rw [judgePurge_notClear purging taken blocked few]
      exact ⟨by simp [n], by simp, complete_holdsResult _ _ hport⟩
    · rw [judgePurge_service purging taken blocked third]
      exact ⟨by simp, (complete_port_notices _ _).trans (raiseNotice_notices (by exact room) _),
        complete_holdsResult _ _ (by simpa using hport)⟩

end Sys2Proof.Machine
end

section
/-! ## RESUME (R66, R67) -/

namespace Sys2Proof.Machine

section
variable {s : State}

theorem resume_outOfFault (h : s.path.state ≠ .fault) : resume s = complete .wrongState .none s := if_pos h

theorem resume_notClear (h : s.path.state = .fault) (blocked : s.path.filters.clear = false) :
    resume s = complete .pathNotClear .none s := by simp [resume, h, blocked]

variable (h : s.path.state = .fault) (clear : s.path.filters.clear = true)
include h clear

/-- A HALTED job without a close reason runs again, and the path is ACTIVE at the sample period of FAULT (R42, R66). -/
theorem resume_halted (halted : s.job.ctx.state = .halted) (reason : s.job.ctx.closeReason = none) :
    resume s = complete .ok (.resumed .active .running)
      ((s.setPath { s.path with state := .active, purgeCount := 0 }).setCtx { s.job.ctx with state := .running }) := by
  have job : resumeJob (s.setPath { s.path with purgeCount := 0 }) =
      (s.setPath { s.path with state := .active, purgeCount := 0 }).setCtx { s.job.ctx with state := .running } := by
    simp only [resumeJob, State.setPath_job, halted, reason]
    exact enterPath_of_period (by simp [h, PathState.period])
  rw [resume, if_neg (not_not_intro h), if_neg (by simp [clear]), job]
  rfl

/-- A job that is SETTLING or NONE stays so, and the path is IDLE (R67). -/
theorem resume_idle (state : s.job.ctx.state = .settling ∨ s.job.ctx.state = .none) :
    resume s = complete .ok (.resumed .idle s.job.ctx.state)
      (enterPath .idle (s.setPath { s.path with purgeCount := 0 })) := by
  have job : resumeJob (s.setPath { s.path with purgeCount := 0 }) =
      enterPath .idle (s.setPath { s.path with purgeCount := 0 }) := by
    rcases state with state | state <;> simp only [resumeJob, State.setPath_job, state]
  rw [resume, if_neg (not_not_intro h), if_neg (by simp [clear]), job]
  simp

end

/-- Settles O27; the next sample of a path gone IDLE is `enterPath_idle_sampleDue`. -/
theorem resumeReturnsPathAndJob : Obligations.ResumeReturnsPathAndJob := by
  unfold Obligations.ResumeReturnsPathAndJob
  intro s ha
  rw [execResume_taken ha]
  refine ⟨fun other => ?_, fun fault blocked => ?_, fun fault clear halted reason => ⟨_, rfl, ?_⟩,
    fun fault clear state => ⟨_, rfl, ?_⟩⟩
  · rw [resume_outOfFault (by simpa using other), complete_commandTaken]
  · rw [resume_notClear (by simpa using fault) (by simpa using blocked), complete_commandTaken]
  · rw [resume_halted (by simpa using fault) (by simpa using clear) (by simpa using halted) (by simpa using reason)]
    exact ⟨complete_holdsResult _ _ rfl, by simp, by simp, by simp, by simp [State.unchangedBut]⟩
  · rw [resume_idle (by simpa using fault) (by simpa using clear) (by simpa using state), commandTaken_job]
    have period : (commandTaken .resume s).path.state.period = 1 := by simp [fault, PathState.period]
    have next := enterPath_idle_sampleDue
      (s := (commandTaken .resume s).setPath { (commandTaken .resume s).path with purgeCount := 0 }) period
    simp only [State.setPath_timeBase, State.setPath_path, commandTaken_timeBase, commandTaken_path] at next
    refine ⟨complete_holdsResult _ _ (by simp), by simp, by simp, by simp, by simp, by simp, by simp,
      fun due => ?_, fun due => ?_, by simp, by simp [State.unchangedBut]⟩
    · simp [next, due]
    · simp [next, due]

end Sys2Proof.Machine
end

section
/-! ## The card switch (R81, R85, R87) and what a removal does to a job (R12, R20) -/

namespace Sys2Proof.Machine

section
variable {s : State}

@[simp] theorem State.setCard_setCard (s : State) (x y : CardUnit) : (s.setCard x).setCard y = s.setCard y := rfl

/-- A notice raised with room in the queue joins its end (R179). -/
theorem raiseNotice_room (room : s.port.notices.length < 16) (b : NoticeBody) : raiseNotice b s =
    s.setPort { s.port with notices := s.port.notices ++ [{ time := s.timeBase, body := b }] } := if_pos room

/-! ### Samples, insertions and removals taken -/

theorem execCardPresenceSample_due (hp : s.powered = true) (due : reached s.timeBase s.card.presenceDue = true)
    (taken : s.card.presence.edge = none) (p : Presence) :
    exec (.cardPresenceSample p) s = .next (samplePresence p s) :=
  whenDue_on _ _ _ hp (by simp [State.samplePresenceDue, due, taken])

variable {time : TimePoint} (hp : s.powered = true) (edge : s.card.presence.edge = some time)
include hp edge

theorem execCardInsertion_due (absent : s.card.presence.on = false) :
    exec .cardInsertion s = .next (insertCard s) :=
  whenDue_on _ _ _ hp (by simp [State.insertionDue, edge, absent])

theorem execCardRemoval_due (present : s.card.presence.on = true) : exec .cardRemoval s = .next (takeRemoval s) :=
  whenDue_on _ _ _ hp (by simp [State.removalDue, edge, present])

end

/-! ### A card removed (R87) -/

/-- The card controller with its card removed (R87). -/
def CardUnit.gone (c : CardUnit) : CardUnit :=
  { c with
    presence := { c.presence with on := false, edge := none }, state := .empty, identity := none, record1 := none
    image := none, writing := none, resolving := false, request := none
    slot := c.slot.map CardExchange.stale, waiting := c.waiting.map CardExchange.stale }

/-- The part with its card removed and the notice raised, before the job unit is told (R87). -/
def cardGone (s : State) : State :=
  (s.setCard s.card.gone).setPort { s.port with
    notices := s.port.notices ++
      [{ time := s.timeBase, body := .cardRemoved (s.card.identity.map CardIdentity.serial) }] }

/-- A write in flight ends uncertain with the removal of its card (R12, R87). -/
def writeGone (s : State) : State := s.card.writing.elim (cardGone s) fun w => writeUncertain w (cardGone s)

section
variable {s : State}

/-- A card that had been read is removed: what was in flight ends, and the job unit is told of a serial (R87). -/
theorem takeRemoval_read (read : s.card.state = .ready ∨ ∃ r, s.card.state = .rejected r)
    (present : s.card.presence.on = true) (room : s.port.notices.length < 16) : takeRemoval s =
      (s.card.identity.map CardIdentity.serial).elim (writeGone s) fun n => openingCardRemoved n (writeGone s) := by
  have flipped : s.card.presence.flip = { s.card.presence with on := false, edge := none } := by
    simp [Filter.flip, present]
  have held : s.card.state ≠ .empty := by rcases read with h | ⟨r, h⟩ <;> simp [h]
  rw [takeRemoval, if_neg (by exact held), flipped, removeCard, raiseNotice_room (by exact room)]
  -- by what was in flight, and by whether the serial is known
  rcases read with h | ⟨r, h⟩ <;> cases hw : s.card.writing <;> cases hi : s.card.identity <;>
    simp [h, hw, hi, writeGone, cardGone, CardUnit.gone]

theorem stopFeeding_drains (hs : s.job.ctx.state = .running) (hq : s.path.queue ≠ []) (r : CloseReason) :
    stopFeeding r s = s.setCtx { s.job.ctx with state := .draining, closeReason := some r } := by
  simp [stopFeeding, hs, hq]
  rfl

/-- The removal of a card that is not the job's opening card, or of a job that takes no feeds, leaves the job (R20). -/
theorem openingCardRemoved_other {n : Nat} (h : s.job.ctx.openingCard ≠ some n ∨ s.job.ctx.state = .none ∨
    s.job.ctx.state = .draining ∨ s.job.ctx.state = .settling) : openingCardRemoved n s = s := by
  unfold openingCardRemoved
  split
  next own => rcases h.resolve_left (not_not_intro own) with h | h | h <;> simp [h]
  next => rfl

/-- A RUNNING job with sheets in the path drains when its opening card is removed (R20). -/
theorem openingCardRemoved_drains {n : Nat} (own : s.job.ctx.openingCard = some n) (hs : s.job.ctx.state = .running)
    (hq : s.path.queue ≠ []) : openingCardRemoved n s =
      s.setCtx { s.job.ctx with state := .draining, closeReason := some .cardRemoved } := by
  rw [openingCardRemoved, if_pos own, hs]
  exact stopFeeding_drains hs hq _

/-- A move that ends uncertain refuses its FEED and drains a RUNNING job with sheets in the path (R12). -/
theorem moveUncertain_drains (hs : s.job.ctx.state = .running) (hq : s.path.queue ≠ [])
    (port : s.port.state = .executing .feed) : moveUncertain s =
      (placeResult { command := some .feed, reason := .cardLost, values := .none } s).setJob
        { s.job with
          feed := none, ctx := { s.job.ctx with state := .draining, closeReason := some .cardLost } } := by
  rw [moveUncertain, refuseFeed, complete_executing _ _ _ .feed (by exact port),
    stopFeeding_drains (by exact hs) (by exact hq)]
  rfl

end

/-- Settles O28: the sample by `Filter.sample`, the insertion by the card's state, the removals by `takeRemoval_read` and
what the job unit makes of them. -/
theorem cardsComeAndGoByTheSwitch : Obligations.CardsComeAndGoByTheSwitch := by
  unfold Obligations.CardsComeAndGoByTheSwitch
  refine ⟨?_, ?_, ?_⟩
  · intro s p hp due taken f differs
    have reading : (p == .present) = decide (p = .present) := by cases p <;> rfl
    rw [execCardPresenceSample_due hp due taken, samplePresence, Filter.sample, reading]
    simp only [differs, f, ne_eq, ite_not]
    rfl
  · intro s time hp absent edge f
    have flipped : s.card.presence.flip = f := by simp [Filter.flip, absent, f]
    rw [execCardInsertion_due hp edge absent, insertCard, flipped]
    refine ⟨fun empty => ?_, fun held => ?_⟩
    · exact congrArg _ (if_pos empty)
    · exact congrArg _ (if_neg held)
  · intro s time hp present edge room serial card notices
    have removed (read : s.card.state = .ready ∨ ∃ r, s.card.state = .rejected r) : exec .cardRemoval s =
        .next (serial.elim (writeGone s) fun n => openingCardRemoved n (writeGone s)) := by
      rw [execCardRemoval_due hp edge present, takeRemoval_read read present room]
    refine ⟨fun read idle other => ?_, fun n ready idle hserial own running sheets => ?_,
      fun m p ready moving running sheets port => ?_⟩
    · have kept : writeGone s = cardGone s := by simp [writeGone, idle]
      rw [removed read, kept]
      cases hserial : serial with
      | none => rfl
      | some n =>
        rw [hserial] at other
        exact congrArg _ (openingCardRemoved_other (s := cardGone s) (other.resolve_left (Option.some_ne_none n)))
    · have kept : writeGone s = cardGone s := by simp [writeGone, idle]
      rw [removed (.inl ready), kept, hserial]
      exact congrArg _ (openingCardRemoved_drains (by exact own) (by exact running) (by exact sheets))
    · have lost : writeGone s = moveUncertain (cardGone s) := by simp [writeGone, moving, writeUncertain]
      rw [removed (.inl ready), lost, moveUncertain_drains (by exact running) (by exact sheets) (by exact port)]
      cases hserial : serial with
      | none => rfl
      | some n => exact congrArg _ (openingCardRemoved_other (.inr (.inr (.inl rfl))))

end Sys2Proof.Machine
end

section
/-! ## A card read, record by record (R80, R82, R85) -/

namespace Sys2Proof.Machine

section
variable {s : State}

/-- Without an interrupted job that waits, a reading's outcome concerns the card alone (R187). -/
theorem interruptedNoCard_none (h : s.job.awaitsCard = false) : interruptedNoCard s = s := if_neg (by simp [h])

/-! ### Answers and deadlines taken (R80) -/

theorem execCardReadAnswer_taken {n : Nat} {t0 : TimePoint} (hp : s.powered = true)
    (hreq : s.card.request = some (.read n, t0)) (ht : elapsed s.timeBase t0 ≤ 20) (bytes : List Byte) :
    exec (.cardReadAnswer bytes) s = .next (readAnswered bytes s) :=
  whenDue_on _ _ _ hp (by simp [State.awaitsRead, hreq, ht])

theorem execCardAnswerDeadline_due {r : CardRequest} {t0 : TimePoint} (hp : s.powered = true)
    (hreq : s.card.request = some (r, t0)) (ht : 20 ≤ elapsed s.timeBase t0) :
    exec .cardAnswerDeadline s = .next (cardSilent s) :=
  whenDue_on _ _ _ hp (by simp [State.cardLate, hreq, ht])

theorem cardSilent_reading (h : s.card.writing = none) : cardSilent s = rejectCard .unreadable s := by
  rw [cardSilent, h]

/-- A rejection with no job that waits for the card: the card's state and the notice (R85). -/
theorem rejectCard_eq (awaits : s.job.awaitsCard = false) (room : s.port.notices.length < 16) (reason : Reason) :
    rejectCard reason s =
      (s.setCard { s.card with state := .rejected reason, request := none, record1 := none, image := none }).setPort
        { s.port with notices := s.port.notices ++ [{ time := s.timeBase
                                                      body := .cardRejected reason
                                                        (s.card.identity.map CardIdentity.serial) }] } := by
  rw [rejectCard, raiseNotice_room (by exact room), interruptedNoCard_none (by exact awaits)]
  rfl

section
variable {bytes : List Byte} (len : bytes.length = 16)
include len

theorem readAnswered_record0 (h : s.card.state = .reading 0) : readAnswered bytes s = judgeIdentity bytes s := by
  simp [readAnswered, len, h]

theorem readAnswered_record1 (h : s.card.state = .reading 1) : readAnswered bytes s =
    s.setCard { s.card with
      state := .reading 2, record1 := some bytes, request := some (.read 2, s.timeBase) } := by
  rw [readAnswered, if_neg (not_not_intro len), h]
  rfl

theorem readAnswered_record2 (h : s.card.state = .reading 2) :
    readAnswered bytes s = judgeSlots (s.card.record1.getD []) bytes s := by
  simp [readAnswered, len, h]

theorem IdentityRecord.read_good (good : onesSum (bytes.take 14) = field bytes 14 2) :
    IdentityRecord.read bytes = some
      { serial := field bytes 0 4, kind := field bytes 4 2, account := field bytes 6 2
        issuer := field bytes 8 2 } := by
  simp [IdentityRecord.read, cardCheckAgrees, good, len]

end

theorem IdentityRecord.read_bad {bytes : List Byte} (bad : onesSum (bytes.take 14) ≠ field bytes 14 2) :
    IdentityRecord.read bytes = none := by
  simp [IdentityRecord.read, cardCheckAgrees, bad]

/-! ### The identity judged (R82, R85) -/

/-- The identity that a good record 0 gives a card of this kind. -/
def IdentityRecord.identity (r : IdentityRecord) (k : CardKind) : CardIdentity :=
  { serial := r.serial, kind := k, account := r.account }

variable {bytes : List Byte}

theorem judgeIdentity_unreadable (h : IdentityRecord.read bytes = none) :
    judgeIdentity bytes s = rejectCard .unreadable s := by
  rw [judgeIdentity, h]

section
variable {r : IdentityRecord} (h : IdentityRecord.read bytes = some r)
include h

theorem judgeIdentity_unknownKind (hk : r.kind ≠ 1 ∧ r.kind ≠ 2) : judgeIdentity bytes s =
    rejectCard .unknownKind (s.setCard { s.card with identity := some (r.identity .account) }) := by
  have unknown : cardKind r.kind = none := by simp [cardKind, hk]
  simp only [judgeIdentity, h, unknown]
  rfl

/-- A known kind is judged by the account number of an ACCOUNT card, then by the issuer (R85). -/
theorem judgeIdentity_known {k : CardKind} (hk : cardKind r.kind = some k) : judgeIdentity bytes s =
    let s1 := s.setCard { s.card with identity := some (r.identity k) }
    if k = .account ∧ r.account = 0 then rejectCard .unknownKind s1
    else if r.issuer ≠ s.options.issuer then rejectCard .isForeign s1
    else if k = .account then readyAccountCard (r.identity k) s1
    else sendCard (.read 1) (s1.setCard { s1.card with state := .reading 1 }) := by
  simp only [judgeIdentity, h, hk]
  cases k <;> rfl

theorem judgeIdentity_noAccount (hk : r.kind = 2) (ha : r.account = 0) : judgeIdentity bytes s =
    rejectCard .unknownKind (s.setCard { s.card with identity := some (r.identity .account) }) := by
  rw [judgeIdentity_known h (k := .account) (by simp [cardKind, hk])]
  exact if_pos ⟨rfl, ha⟩

theorem judgeIdentity_foreignPurse (hk : r.kind = 1) (hi : r.issuer ≠ s.options.issuer) : judgeIdentity bytes s =
    rejectCard .isForeign (s.setCard { s.card with identity := some (r.identity .purse) }) := by
  rw [judgeIdentity_known h (k := .purse) (by simp [cardKind, hk])]
  exact (if_neg (by simp)).trans (if_pos hi)

theorem judgeIdentity_account (hk : r.kind = 2) (ha : r.account ≠ 0) (hi : r.issuer = s.options.issuer) :
    judgeIdentity bytes s = readyAccountCard (r.identity .account)
      (s.setCard { s.card with identity := some (r.identity .account) }) := by
  rw [judgeIdentity_known h (k := .account) (by simp [cardKind, hk])]
  simp [ha, hi]

theorem judgeIdentity_purse (hk : r.kind = 1) (hi : r.issuer = s.options.issuer) : judgeIdentity bytes s =
    s.setCard { s.card with
      state := .reading 1, identity := some (r.identity .purse), request := some (.read 1, s.timeBase) } := by
  rw [judgeIdentity_known h (k := .purse) (by simp [cardKind, hk])]
  exact (if_neg (by simp)).trans (if_neg (not_not_intro hi))

end

end

/-- Settles O29: the deadline by `rejectCard_eq`, record 0 by the cases of `judgeIdentity`, record 1 by
`readAnswered_record1`. -/
theorem readAnswersJudgeTheCard : Obligations.ReadAnswersJudgeTheCard := by
  unfold Obligations.ReadAnswersJudgeTheCard
  intro s n t0 hp hreq reading idle awaits room rejected
  have rejects (reason : Reason) (id : Option CardIdentity) :
      rejected reason id (rejectCard reason (s.setCard { s.card with identity := id })) := by
    rw [rejectCard_eq (by exact awaits) (by exact room)]
    exact ⟨rfl, rfl, rfl, by simp [State.unchangedBut]⟩
  refine ⟨fun late => ?_, fun bytes inTime len => ?_⟩
  · refine ⟨_, execCardAnswerDeadline_due hp hreq late, ?_⟩
    rw [cardSilent_reading idle]
    exact rejects .unreadable s.card.identity
  · rw [execCardReadAnswer_taken hp hreq inTime]
    refine ⟨?_, ?_, ?_⟩
    · intro hn unknown bad
      rw [readAnswered_record0 len (hn ▸ reading), judgeIdentity_unreadable (IdentityRecord.read_bad bad)]
      exact ⟨_, rfl, unknown ▸ rejects .unreadable s.card.identity⟩
    · intro hn good serial kind account issuer
      have read := IdentityRecord.read_good len good
      rw [readAnswered_record0 len (hn ▸ reading)]
      refine ⟨fun hk => ?_, fun hk ha => ?_, fun hk hi => ?_, fun hk ha hi => ?_, fun hk hi => ?_⟩
      · rw [judgeIdentity_unknownKind read hk]
        exact ⟨_, _, rfl, rfl, rejects .unknownKind (some _)⟩
      · have id : IdentityRecord.identity ⟨serial, kind, account, issuer⟩ .account = ⟨serial, .account, 0⟩ := by
          rw [IdentityRecord.identity, ha]
        rw [judgeIdentity_noAccount read hk ha]
        exact ⟨_, rfl, id ▸ rejects .unknownKind (some _)⟩
      · rw [judgeIdentity_foreignPurse read hk hi]
        exact ⟨_, rfl, rejects .isForeign (some _)⟩
      · rw [judgeIdentity_account read hk ha hi, readyAccountCard, raiseNotice_room (by exact room),
          interruptedNoCard_none (by exact awaits)]
        exact ⟨_, rfl, rfl, rfl, by simp [State.unchangedBut]⟩
      · rw [judgeIdentity_purse read hk hi]
        rfl
    · intro hn
      rw [readAnswered_record1 len (hn ▸ reading)]
      rfl

end Sys2Proof.Machine
end

section
/-! ## The refund list and the card controller's exchanges (R92, R94 to R97) -/

namespace Sys2Proof.Machine

/-! ### The refund list -/

/-- A new refund list at a store in order: the list stands, and one write of it joins those in hand (R92, R181). -/
theorem setRefunds_eq {s : State} (ho : s.store.orderly) (l : List RefundEntry) :
    ∃ x : Store, setRefunds .plain l s = (s.setCard { s.card with refunds := l }).setStore x ∧
      x.writes = s.store.writes ++ [.refunds l] ∧ x.records = s.store.records := by
  obtain ⟨x, hx⟩ := submit_store_only .plain (.refunds l) (s.setCard { s.card with refunds := l })
  have writes := submit_writes .plain (.refunds l) (s.setCard { s.card with refunds := l }) ho rfl
  have records := submit_records .plain (.refunds l) (s.setCard { s.card with refunds := l })
  rw [hx] at writes records
  exact ⟨x, hx, writes, records⟩

theorem escrowIsOwn_iff {s : State} {p : Purse} :
    s.escrowIsOwn p = true ↔ p.escrow ≠ 0 ∧ p.station = some (s.options.station.getD 0) := by
  simp [State.escrowIsOwn, State.cardStation]

/-- The refund list without the entries of the card that do not match its escrow (R94). -/
def State.keptRefunds (s : State) (i : PurseImage) : List RefundEntry :=
  s.card.refunds.filter fun e =>
    decide (e.serial ≠ i.serial ∨ (s.escrowIsOwn i.purse = true ∧ e.tag = i.purse.tag))

theorem keptRefunds_eq (s : State) (i : PurseImage) : s.keptRefunds i =
    s.card.refunds.filter fun e => !(e.serial == i.serial && !s.entryMatches i e) := by
  refine List.filter_congr fun e _ => ?_
  rw [Bool.eq_iff_iff]
  simp [State.entryMatches]

theorem removeStale_of_kept {s : State} {i : PurseImage} (h : s.keptRefunds i = s.card.refunds) :
    removeStale i s = s := by
  rw [keptRefunds_eq, List.filter_eq_self] at h
  refine if_neg ?_
  simpa [imp_iff_not_or] using h

theorem removeStale_of_dropped {s : State} {i : PurseImage} (h : s.keptRefunds i ≠ s.card.refunds) :
    removeStale i s = setRefunds .plain (s.keptRefunds i) s := by
  rw [keptRefunds_eq] at h ⊢
  refine if_pos ?_
  simpa [List.filter_eq_self] using h

/-- The list that a reading leaves, with one write of it where entries left it (R92, R94; log 54). -/
theorem removeStale_eq {s : State} (ho : s.store.orderly) (i : PurseImage) :
    ∃ x : Store, removeStale i s = (s.setCard { s.card with refunds := s.keptRefunds i }).setStore x ∧
      (s.keptRefunds i = s.card.refunds → x = s.store) ∧
      (s.keptRefunds i ≠ s.card.refunds →
        x.writes = s.store.writes ++ [.refunds (s.keptRefunds i)] ∧ x.records = s.store.records) := by
  by_cases h : s.keptRefunds i = s.card.refunds
  · refine ⟨s.store, ?_, fun _ => rfl, fun changed => absurd h changed⟩
    rw [removeStale_of_kept h, h]
    rfl
  · obtain ⟨x, hx, written⟩ := setRefunds_eq ho (s.keptRefunds i)
    exact ⟨x, (removeStale_of_dropped h).trans hx, fun same => absurd same h, fun _ => written⟩

/-- No entry of the card stands, so none leaves the list. -/
theorem removeStale_none {s : State} {i : PurseImage} (h : ∀ e ∈ s.card.refunds, e.serial ≠ i.serial) :
    removeStale i s = s :=
  removeStale_of_kept (List.filter_eq_self.mpr fun e he => by simp [h e he])

/-- The entry of an escrow of this station is not among those that leave (R94, R95). -/
theorem find_keptRefunds {s : State} {i : PurseImage} (own : s.escrowIsOwn i.purse = true) :
    (s.keptRefunds i).find? (fun e => e.names i.serial i.purse.tag) =
      s.card.refunds.find? fun e => e.names i.serial i.purse.tag := by
  rw [State.keptRefunds, List.find?_filter]
  congr 1
  funext e
  rw [Bool.eq_iff_iff]
  simp only [RefundEntry.names, own, Bool.and_eq_true, decide_eq_true_eq, beq_iff_eq, true_and, and_iff_right_iff_imp]
  exact fun named => .inr named.2

/-! ### The card controller's exchanges -/

section
variable {s : State}

theorem pumpCard_none (hw : s.card.waiting = []) : pumpCard s = s := by
  rw [pumpCard, hw, handCardExchanges]

/-- In MEMBER, a request that finds the slot free and nothing waiting goes to the line (R96, R110). -/
theorem askCard_free (hslot : s.card.slot = none) (hw : s.card.waiting = []) (hm : s.line.state = .member)
    (e : CardExchange) : askCard e s =
      askExchange .card e.dest e.body 3 (s.setCard { s.card with slot := some e }) := by
  simp [askCard, pumpCard, handCardExchanges, hslot, hw, State.member, hm]

theorem escrowUnresolved_raised {i : PurseImage} (hi : s.card.image = some i) (room : s.port.notices.length < 16)
    (reason : Reason) : escrowUnresolved reason s =
      s.setPort { s.port with notices := s.port.notices ++
        [{ time := s.timeBase
           body := .escrowUnresolved reason i.serial i.purse.escrow i.purse.station i.purse.tag }] } := by
  rw [escrowUnresolved, hi]
  exact raiseNotice_room room _

/-! ### An escrow met at a reading (R94 to R96) -/

variable {i : PurseImage}

theorem lookAtEscrow_none (h : i.purse.escrow = 0) : lookAtEscrow i s = s := if_pos h

section
variable (held : i.purse.escrow ≠ 0)
include held

theorem lookAtEscrow_own (own : i.purse.station = some (s.options.station.getD 0)) :
    lookAtEscrow i s = settleFromList i s := by
  rw [lookAtEscrow, if_neg held, if_pos (escrowIsOwn_iff.mpr ⟨held, own⟩)]

theorem lookAtEscrow_other {k : Nat} (hk : i.purse.station = some k) (other : k ≠ s.options.station.getD 0) :
    lookAtEscrow i s = resolveEscrow k i s := by
  rw [lookAtEscrow, if_neg held, if_neg (by simp [escrowIsOwn_iff, hk, other]), hk]

end

theorem settleFromList_noEntry (h : s.card.findRefund i.serial i.purse.tag = none) :
    settleFromList i s = escrowUnresolved .noEntry s := by
  rw [settleFromList, h]

section
variable {e : RefundEntry} (h : s.card.findRefund i.serial i.purse.tag = some e)
include h

theorem settleFromList_short (short : i.purse.escrow < e.charged) :
    settleFromList i s = escrowUnresolved .escrowShort s := by
  rw [settleFromList, h]
  exact if_pos short

/-- The total of the escrow's entry settles it on a card that can be written (R91, R95). -/
theorem settleFromList_writes (hw : s.card.writable i) (enough : e.charged ≤ i.purse.escrow) :
    settleFromList i s = s.setCard (s.card.writes (.refundEntry i.serial i.purse.tag e.charged) i.slot
      (i.purse.settledTo e.charged) s.timeBase) := by
  have names : e.names i.serial i.purse.tag = true :=
    List.find?_some (p := fun x : RefundEntry => x.names i.serial i.purse.tag) h
  obtain ⟨serial, tag⟩ : e.serial = i.serial ∧ e.tag = i.purse.tag := by simpa [RefundEntry.names] using names
  rw [settleFromList, h]
  dsimp only
  rw [if_neg (by omega), writableImage_eq_some.mpr hw, serial, tag]
  exact startWrite_eq _ _ _ _

end

section
variable (k : Nat)

theorem resolveEscrow_noLine (hm : s.line.state ≠ .member) : resolveEscrow k i s = escrowUnresolved .noLine s :=
  if_pos (by simp [State.member, hm])

variable (hm : s.line.state = .member)
include hm

theorem resolveEscrow_absent (absent : s.marksPresent k ≠ true) :
    resolveEscrow k i s = escrowUnresolved .stationAbsent s := by
  simp [resolveEscrow, State.member, hm, absent]

variable (present : s.marksPresent k = true)
include present

theorem resolveEscrow_full (full : 16 ≤ s.settle.occupied) :
    resolveEscrow k i s = escrowUnresolved .listFull s := by
  simp [resolveEscrow, State.member, hm, present, full]

/-- With a place free the card is RESOLVING and the query waits in the slot (R96). -/
theorem resolveEscrow_asks (free : s.settle.occupied < 16) (hslot : s.card.slot = none) (hw : s.card.waiting = []) :
    resolveEscrow k i s =
      askExchange .card k (.escrowQuery { serial := i.serial, tag := i.purse.tag }) 3
        ((s.setSettle { s.settle with reservedCard := s.settle.reservedCard + 1 }).setCard
          { s.card with resolving := true, slot := some (.query k i.serial i.purse.tag true) }) := by
  rw [resolveEscrow, if_neg (by simp [State.member, hm]), if_neg (by simp [present]), if_neg (by omega)]
  exact askCard_free (by exact hslot) (by exact hw) (by exact hm) _

end

end

end Sys2Proof.Machine
end

section
/-! ## The slots of a purse card judged (R83 to R85, R94 to R96) -/

namespace Sys2Proof.Machine

/-- The escrow of the open purse job (R94). -/
theorem escrowIsJobs_iff {s : State} {i : PurseImage} : s.escrowIsJobs i = true ↔
    s.job.ctx.state ≠ .none ∧ s.job.ctx.funding = some .purse ∧
      (i.purse.escrow ≠ 0 ∧ i.purse.station = some (s.options.station.getD 0)) ∧
      s.job.ctx.purse = some { card := i.serial, tag := some i.purse.tag } := by
  simp only [State.escrowIsJobs, State.jobOpen, Bool.and_eq_true, bne_iff_ne, beq_iff_eq, escrowIsOwn_iff, and_assoc]

section
variable {s : State} {id : CardIdentity} {a b : List Byte}

theorem judgeSlots_badPurse (h : currentSlot (Purse.read a) (Purse.read b) = none) :
    judgeSlots a b s = rejectCard .badPurse s := by
  unfold judgeSlots
  rw [h]
  cases s.card.identity <;> rfl

variable {slot : SlotName} {p : Purse} (hid : s.card.identity = some id)
  (h : currentSlot (Purse.read a) (Purse.read b) = some (slot, p))
include hid h

theorem judgeSlots_worn (worn : p.counter = 4294967295) : judgeSlots a b s = rejectCard .worn s := by
  simp only [judgeSlots, hid, h]
  exact if_pos worn

theorem judgeSlots_ready (room : p.counter ≠ 4294967295) :
    judgeSlots a b s = readyPurseCard { serial := id.serial, slot := slot, purse := p } s := by
  simp only [judgeSlots, hid, h]
  exact if_neg room

end

/-- The part with this purse card READY and its notice raised, before its escrow is looked at (R85). -/
def purseShown (i : PurseImage) (s : State) : State :=
  (s.setCard { s.card with state := .ready, request := none, record1 := none, image := some i }).setPort
    { s.port with notices := s.port.notices ++ [{ time := s.timeBase, body := .cardInsertedPurse i.serial i.purse }] }

/-- A purse card that no job waits for, with an escrow that is no open job's (R85, R94). -/
theorem readyPurseCard_eq {s : State} {i : PurseImage} (awaits : s.job.awaitsCard = false)
    (room : s.port.notices.length < 16) (other : i.purse.escrow = 0 ∨ s.job.ctx.state = .none) :
    readyPurseCard i s = lookAtEscrow i (removeStale i (purseShown i s)) := by
  have job : (removeStale i (purseShown i s)).job = s.job := by
    unfold removeStale
    split
    · exact setRefunds_job _ _ _
    · rfl
  have notJobs : ¬ (removeStale i (purseShown i s)).escrowIsJobs i = true := by
    rw [escrowIsJobs_iff, job]
    rintro ⟨isOpen, -, ⟨held, -⟩, -⟩
    exact other.elim held isOpen
  rw [readyPurseCard, raiseNotice_room (by exact room)]
  have waits : interruptedCard (removeStale i (purseShown i s)) = removeStale i (purseShown i s) :=
    if_neg (by simp [job, awaits])
  exact (if_neg notJobs).trans (congrArg _ waits)

/-- The part with this escrow met: the purse card shown, this refund list and this store (R94). -/
def escrowMet (i : PurseImage) (l : List RefundEntry) (x : Store) (s : State) : State :=
  ((purseShown i s).setCard { (purseShown i s).card with refunds := l }).setStore x

/-- An escrow met with no job open: the entries that do not match it leave the list with one write of it (R92, R94). -/
theorem readyPurseCard_met {s : State} {i : PurseImage} (awaits : s.job.awaitsCard = false)
    (room : s.port.notices.length < 16) (noJob : s.job.ctx.state = .none) (ho : s.store.orderly) :
    ∃ x : Store, readyPurseCard i s = lookAtEscrow i (escrowMet i (s.keptRefunds i) x s) ∧
      (s.keptRefunds i = s.card.refunds → x = s.store) ∧
      (s.keptRefunds i ≠ s.card.refunds →
        x.writes = s.store.writes ++ [.refunds (s.keptRefunds i)] ∧ x.records = s.store.records) := by
  obtain ⟨x, cleaned, written⟩ := removeStale_eq (s := purseShown i s) (by exact ho) i
  exact ⟨x, (readyPurseCard_eq awaits room (.inr noJob)).trans (congrArg _ cleaned), written⟩

theorem readyPurseCard_noEscrow {s : State} {i : PurseImage} (awaits : s.job.awaitsCard = false)
    (room : s.port.notices.length < 16) (empty : i.purse.escrow = 0) (h : ∀ e ∈ s.card.refunds, e.serial ≠ i.serial) :
    readyPurseCard i s = purseShown i s := by
  rw [readyPurseCard_eq awaits room (.inl empty), removeStale_none (by exact h), lookAtEscrow_none empty]

/-- Settles O30: the current slot by its definition, a card without escrow by `readyPurseCard_noEscrow`, and an escrow met
by `readyPurseCard_met` and the cases of `settleFromList` and `resolveEscrow`. -/
theorem currentSlotBecomesTheImage : Obligations.CurrentSlotBecomesTheImage := by
  unfold Obligations.CurrentSlotBecomesTheImage
  refine ⟨fun a b => ⟨?_, ?_, ?_, ?_⟩, ?_, ?_⟩
  · rintro p q rfl rfl
    exact (apply_ite some _ _ _).symm
  · rintro p rfl rfl
    rfl
  · rintro q rfl rfl
    rfl
  · rintro rfl rfl
    rfl
  · intro s t0 id first bytes slot p hp hreq inTime reading hid hfirst len awaits room unlisted
    have judged : exec (.cardReadAnswer bytes) s = .next (judgeSlots first bytes s) := by
      rw [execCardReadAnswer_taken hp hreq inTime, readAnswered_record2 len reading, hfirst, Option.getD_some]
    refine ⟨fun invalid => ?_, fun current worn => ?_, fun current fresh empty => ?_⟩
    · rw [judged, judgeSlots_badPurse invalid, rejectCard_eq awaits room]
      exact ⟨_, rfl, rfl, rfl, by simp [State.unchangedBut]⟩
    · rw [judged, judgeSlots_worn hid current worn, rejectCard_eq awaits room]
      exact ⟨_, rfl, rfl, rfl, by simp [State.unchangedBut]⟩
    · rw [judged, judgeSlots_ready hid current fresh,
        readyPurseCard_noEscrow awaits room (by exact empty) (by exact unlisted)]
      rfl
  · intro s t0 id first bytes slot p hp hreq inTime reading hid hfirst len idle settled awaits noJob ho room current
      fresh held own i kept card inserted list unresolved
    have keeps : s.keptRefunds i = kept := by
      refine List.filter_congr fun e _ => ?_
      have mine : s.escrowIsOwn i.purse = true ↔ p.station = some own := escrowIsOwn_iff.trans (and_iff_right held)
      simp only [mine]
      rfl
    obtain ⟨x, ready, same, dropped⟩ := readyPurseCard_met (i := i) awaits (by omega) noJob ho
    rw [keeps] at ready same dropped
    have judged : exec (.cardReadAnswer bytes) s = .next (lookAtEscrow i (escrowMet i kept x s)) := by
      rw [execCardReadAnswer_taken hp hreq inTime, readAnswered_record2 len reading, hfirst, Option.getD_some,
        judgeSlots_ready hid current (by omega), ready]
    have unresolvedBy (reason : Reason)
        (h : lookAtEscrow i (escrowMet i kept x s) = escrowUnresolved reason (escrowMet i kept x s)) :
        unresolved reason := by
      have room' : (escrowMet i kept x s).port.notices.length < 16 := by
        simp [escrowMet, purseShown]
        omega
      refine ⟨_, judged, ?_⟩
      rw [h, escrowUnresolved_raised (i := i) rfl room']
      refine ⟨rfl, ⟨same, dropped⟩, ?_, by simp [escrowMet, purseShown, State.unchangedBut]⟩
      simp [escrowMet, purseShown, inserted, i]
    refine ⟨fun mine => ?_, fun k hk other => ?_⟩
    · intro found
      have look := lookAtEscrow_own (s := escrowMet i kept x s) (i := i) held mine
      have entry : (escrowMet i kept x s).card.findRefund i.serial i.purse.tag = found := by
        have find := find_keptRefunds (s := s) (i := i) (escrowIsOwn_iff.mpr ⟨held, mine⟩)
        rw [keeps] at find
        exact find
      refine ⟨fun missing => ?_, fun e one short => ?_, fun e one enough => ?_⟩
      · exact unresolvedBy _ (look.trans (settleFromList_noEntry (entry.trans missing)))
      · exact unresolvedBy _ (look.trans (settleFromList_short (entry.trans one) short))
      · refine ⟨_, judged, ?_⟩
        rw [look, settleFromList_writes (entry.trans one) ⟨rfl, rfl, idle, settled, fresh⟩ enough]
        exact ⟨⟨same, dropped⟩, rfl, rfl, by simp [escrowMet, purseShown, State.unchangedBut]⟩
    · intro member present
      have look := lookAtEscrow_other (s := escrowMet i kept x s) (i := i) held hk other
      refine ⟨fun outside => ?_, fun hm absent => ?_, fun hm hpr full => ?_, fun hm hpr free hslot hw => ?_⟩
      · exact unresolvedBy _ (look.trans (resolveEscrow_noLine k outside))
      · exact unresolvedBy _ (look.trans (resolveEscrow_absent k hm absent))
      · exact unresolvedBy _ (look.trans (resolveEscrow_full k hm hpr full))
      · refine ⟨_, judged, ?_⟩
        rw [look, resolveEscrow_asks k (by exact hm) (by exact hpr) (by exact free) (by exact hslot) (by exact hw)]
        exact ⟨⟨same, dropped⟩, rfl, rfl, rfl, rfl, by simp [escrowMet, purseShown, askExchange, State.unchangedBut]⟩

end Sys2Proof.Machine
end

section
/-! ## RELEASE ESCROW and DISCARD REFUND (R89, R91, R101, R102) -/

namespace Sys2Proof.Machine

/-! ### The commands taken by the port -/

section
variable {s : State} (h : s.accepts) {ps : List Byte} (hp : ps.length ≤ 240)
include h hp

theorem execReleaseEscrow_taken :
    exec (.releaseEscrow ps) s = .next (releaseEscrow ps (commandTaken .releaseEscrow s)) := by
  show whenPowered s (releaseEscrowCommand ps) = _
  rw [whenPowered_on _ _ h.1, releaseEscrowCommand, takeCommand_taken _ _ _ _ h.2 hp, commandTaken]

theorem execDiscardRefund_taken :
    exec (.discardRefund ps) s = .next (discardRefund ps (commandTaken .discardRefund s)) := by
  show whenPowered s (discardRefundCommand ps) = _
  rw [whenPowered_on _ _ h.1, discardRefundCommand, takeCommand_taken _ _ _ _ h.2 hp, commandTaken]

end

/-- A number that fits its bytes reads back from them alone (R190). -/
theorem field_spell_of_lt {width n : Nat} (h : n < 256 ^ width) : field (spell width n) 0 width = n := by
  have whole := field_spell width n []
  rwa [List.append_nil, Nat.mod_eq_of_lt h] at whole

theorem amountOperand_spell {n : Nat} (h : n < 16777216) : amountOperand (spell 3 n) = some n := by
  rw [amountOperand, if_pos (Laws.Wire.spell_length 3 n), field_spell_of_lt (by omega)]

theorem refundOperand_spell {serial tag : Nat} (hs : serial < 4294967296) (ht : tag < 65536) :
    refundOperand (spell 4 serial ++ spell 2 tag) = some (serial, tag) := by
  have front : field (spell 4 serial ++ spell 2 tag) 0 4 = serial := by
    rw [field_spell, Nat.mod_eq_of_lt (by omega)]
  have back : field (spell 4 serial ++ spell 2 tag) 4 2 = tag := by
    rw [field_behind _ _ (k := 0) 2 (by rw [Laws.Wire.spell_length]), field_spell_of_lt (by omega)]
  rw [refundOperand, if_pos (by simp [Laws.Wire.spell_length]), front, back]

/-! ### What RELEASE ESCROW does with the card (R102) -/

section
variable {s : State} {ps : List Byte}

theorem releaseEscrow_noCard (h : s.card.state = .empty ∨ ∃ n, s.card.state = .reading n) :
    releaseEscrow ps s = complete .noCard .none s := by
  rcases h with h | ⟨n, h⟩ <;> rw [releaseEscrow, h]

theorem releaseEscrow_rejected (h : ∃ r, s.card.state = .rejected r) :
    releaseEscrow ps s = complete .cardRejected .none s := by
  obtain ⟨r, h⟩ := h
  rw [releaseEscrow, h]

variable (ready : s.card.state = .ready)
include ready

theorem releaseEscrow_noEscrow (h : ∀ i, s.card.image = some i → i.purse.escrow = 0) :
    releaseEscrow ps s = complete .noEscrow .none s := by
  rw [releaseEscrow, ready]
  cases hi : s.card.image with
  | none => rfl
  | some i => exact if_pos (h i hi)

variable {i : PurseImage} (hi : s.card.image = some i) (held : i.purse.escrow ≠ 0)
include hi held

theorem releaseEscrow_busy (h : s.card.writing ≠ none ∨ s.card.resolving = true) :
    releaseEscrow ps s = complete .wrongState .none s := by
  simp only [releaseEscrow, ready, hi]
  exact (if_neg held).trans (if_pos (by simpa [Option.isSome_iff_ne_none] using h))

variable (idle : s.card.writing = none) (settled : s.card.resolving = false)
include idle settled

theorem releaseEscrow_jobs (own : s.escrowIsJobs i = true) : releaseEscrow ps s = complete .jobOpen .none s := by
  simp only [releaseEscrow, ready, hi]
  exact (if_neg held).trans ((if_neg (by simp [idle, settled])).trans (if_pos own))

variable (other : ¬ s.escrowIsJobs i = true) {kept : Nat} (hk : amountOperand ps = some kept)
include other hk

theorem releaseEscrow_above (above : i.purse.escrow < kept) : releaseEscrow ps s = complete .badParam .none s := by
  simp [releaseEscrow, ready, hi, releaseOnImage, held, idle, settled, other, hk, above]

/-- An escrow that can be released has its settlement write sent to the card (R91, R102). -/
theorem releaseEscrow_writes (room : i.purse.counter < 4294967295) (within_ : kept ≤ i.purse.escrow) :
    releaseEscrow ps s =
      s.setCard (s.card.writes (.release kept) i.slot (i.purse.settledTo kept) s.timeBase) := by
  have writable : s.writableImage false = some i := writableImage_eq_some.mpr ⟨ready, hi, idle, settled, room⟩
  simp only [releaseEscrow, ready, hi, releaseOnImage, idle, settled, hk, writable]
  rw [if_neg held, if_neg (by simp), if_neg other, if_neg (by omega), startWrite_eq]
  rfl

end

/-- The card acknowledges the write of a RELEASE ESCROW: its result is placed (R88, R102). -/
theorem writeCompleted_release {s : State} {kept : Nat} {p : Purse} {i : PurseImage} (hi : s.card.image = some i)
    (h : ∀ e ∈ s.card.refunds, e.serial ≠ i.serial) :
    writeCompleted { purpose := .release kept, purse := p } s = complete .ok (.released kept p.balance) s := by
  have image : (complete .ok (.released kept p.balance) s).card.image = some i := by simpa using hi
  simp only [writeCompleted, image]
  exact removeStale_none (by simpa using h)

/-! ### DISCARD REFUND (R101) -/

section
variable {s : State} {ps : List Byte} {serial tag : Nat} (hps : refundOperand ps = some (serial, tag))
include hps

theorem discardRefund_noEntry (h : (s.card.refunds.filter fun e => !e.names serial tag) = s.card.refunds) :
    discardRefund ps s = complete .noEntry .none s := by
  rw [List.filter_eq_self] at h
  simp only [discardRefund, hps]
  exact if_neg (by simpa using h)

theorem discardRefund_removes (h : (s.card.refunds.filter fun e => !e.names serial tag) ≠ s.card.refunds) :
    discardRefund ps s = submitAndAnswer (.refunds (s.card.refunds.filter fun e => !e.names serial tag)) .none
      (s.setCard { s.card with refunds := s.card.refunds.filter fun e => !e.names serial tag }) := by
  rw [ne_eq, List.filter_eq_self] at h
  simp only [discardRefund, hps]
  exact if_pos (by simpa using h)

end

/-- Settles O31: RELEASE ESCROW by the checks of R102, the two ends of its write, and DISCARD REFUND by whether its entry
stands. -/
theorem releaseEscrowAndDiscardRefund : Obligations.ReleaseEscrowAndDiscardRefund := by
  unfold Obligations.ReleaseEscrowAndDiscardRefund
  refine ⟨fun s ps ha len => ?_, fun s i kept ha ready hi held idle settled noJob room hk => ?_,
    fun s i kept record bytes p t0 hp port hreq hw hi unlisted => ?_, fun s serial tag ha hs ht => ?_⟩
  · rw [execReleaseEscrow_taken ha len]
    refine ⟨fun h => ?_, fun h => ?_, fun ready empty => ?_, fun i ready hi held => ⟨fun busy => ?_, ?_⟩⟩
    · rw [releaseEscrow_noCard (by simpa using h), complete_commandTaken]
    · rw [releaseEscrow_rejected (by simpa using h), complete_commandTaken]
    · rw [releaseEscrow_noEscrow (by simpa using ready) (by simpa using empty), complete_commandTaken]
    · rw [releaseEscrow_busy (by simpa using ready) (by simpa using hi) held (by simpa using busy),
        complete_commandTaken]
    · intro idle settled isOpen purse mine part
      have own : (commandTaken .releaseEscrow s).escrowIsJobs i = true :=
        escrowIsJobs_iff.mpr (by simpa using ⟨isOpen, purse, ⟨held, mine⟩, part⟩)
      rw [releaseEscrow_jobs (by simpa using ready) (by simpa using hi) held (by simpa using idle)
        (by simpa using settled) own, complete_commandTaken]
  · rw [execReleaseEscrow_taken ha (by simp [Laws.Wire.spell_length])]
    have other : ¬ (commandTaken .releaseEscrow s).escrowIsJobs i = true := by
      simp [escrowIsJobs_iff, noJob]
    refine ⟨fun above => ?_, fun within_ => ?_⟩
    · rw [releaseEscrow_above (by simpa using ready) (by simpa using hi) held (by simpa using idle)
        (by simpa using settled) other (amountOperand_spell hk) above, complete_commandTaken]
    · intro p
      rw [releaseEscrow_writes (by simpa using ready) (by simpa using hi) held (by simpa using idle)
        (by simpa using settled) other (amountOperand_spell hk) room within_]
      exact ⟨_, rfl, rfl, by simp [CardUnit.writes, Purse.settledTo, p], by simp [State.unchangedBut]⟩
  · refine ⟨fun inTime => ?_, fun late => ?_⟩
    · rw [execCardWriteAck_taken hp hreq inTime hw hi, writeCompleted_release (by rfl) (by exact unlisted)]
      exact ⟨_, rfl, complete_holdsResult _ _ port, by simp [PurseImage.wrote], by simp [State.unchangedBut]⟩
    · rw [execCardAnswerDeadline_due hp hreq late, cardSilent, hw]
      refine ⟨_, rfl, complete_holdsResult _ _ port, ?_, ?_⟩
      · simp [writeUncertain, beginReading, sendCard]
      · simp [writeUncertain, beginReading, sendCard, State.unchangedBut]
  · intro left c
    have operand := refundOperand_spell hs ht
    rw [execDiscardRefund_taken ha (by simp [Laws.Wire.spell_length])]
    refine ⟨fun missing => ?_, fun removed ho => ⟨_, rfl, ?_⟩⟩
    · rw [discardRefund_noEntry operand (by rw [commandTaken_card]; exact missing), complete_commandTaken]
    · rw [discardRefund_removes operand (by rw [commandTaken_card]; exact removed), commandTaken_card]
      exact ⟨by rw [submitAndAnswer_card]; rfl, submitAndAnswer_writesAndAnswers rfl (by simp) ho rfl _, by simp [State.unchangedBut]⟩

end Sys2Proof.Machine
end

section
/-! ## Queries and releases of peers (R98, R99, R113) -/

namespace Sys2Proof.Machine

/-! ### The refund list and its entries -/

section
variable {s : State} {serial tag : Nat}

theorem removeRefund_of_none (h : s.card.findRefund serial tag = none) : removeRefund serial tag s = s := by
  refine if_neg ?_
  simpa [CardUnit.findRefund] using h

theorem removeRefund_of_some (h : s.card.findRefund serial tag ≠ none) : removeRefund serial tag s =
    setRefunds .plain (s.card.refunds.filter fun x => !x.names serial tag) s := by
  refine if_pos ?_
  simpa [CardUnit.findRefund] using h

end

/-! ### The answers (R98, R99) -/

section
variable {s : State} {q : EscrowFields}

/-- The card is the one of the open purse job (R98). -/
def State.jobsCard (s : State) (serial : Nat) : Prop :=
  s.job.ctx.state ≠ .none ∧ s.job.ctx.funding = some .purse ∧ s.job.ctx.purse.map PursePart.card = some serial

theorem jobsCard_iff (serial : Nat) : s.jobsCard serial ↔
    s.jobOpen = true ∧ s.job.ctx.funding = some .purse ∧ s.job.ctx.purse.map PursePart.card = some serial := by
  simp [State.jobsCard, State.jobOpen]

theorem answerQuery_jobsCard (h : s.jobsCard q.serial) :
    answerQuery q s = (s, .escrowAnswer { status := Reason.jobOpen.code, charged := 0 }) :=
  if_pos ((jobsCard_iff _).mp h)

section
variable (h : ¬ s.jobsCard q.serial)
include h

theorem answerQuery_noEntry (hf : s.card.findRefund q.serial q.tag = none) :
    answerQuery q s = (s, .escrowAnswer { status := Reason.noEntry.code, charged := 0 }) := by
  rw [answerQuery, if_neg (mt (jobsCard_iff _).mpr h), hf]

variable {e : RefundEntry} (hf : s.card.findRefund q.serial q.tag = some e)
include hf

theorem answerQuery_claimed (he : e.state = .claimed) :
    answerQuery q s = (s, .escrowAnswer { status := Reason.ok.code, charged := e.charged }) := by
  rw [answerQuery, if_neg (mt (jobsCard_iff _).mpr h), hf]
  simp [he]

/-- An entry found HELD becomes CLAIMED (R98). -/
theorem answerQuery_held (he : e.state = .held) : answerQuery q s =
    (setRefunds .plain (s.card.refunds.map fun x =>
        if x.names q.serial q.tag then { x with state := .claimed } else x) s,
      .escrowAnswer { status := Reason.ok.code, charged := e.charged }) := by
  rw [answerQuery, if_neg (mt (jobsCard_iff _).mpr h), hf]
  simp [he]

end

end

/-! ### Requests heard (R113) -/

/-- The part once a frame of this station was heard (R104, R107). -/
def heardFrom (station : Nat) (s : State) : State :=
  s.setLine (s.line.heard (markHeard station s.line.roster))

/-- The line with an answer made ready in the card answer place (R106, R108). -/
def LineUnit.answering (l : LineUnit) (dest source exch : Nat) (body : Payload) : LineUnit :=
  { l with waiting := l.waiting ++
    [{ place := .cardAnswer, k := 0
       frame := { head := { dest := dest, source := source, exch := exch }, body := body } }] }

/-- With the place free the answer waits there, with the request's exchange number (R106, R113). -/
theorem answerAsCard_free {s t : State} {answer : State → State × Payload} {body : Payload} {n : Nat}
    (h : s.placeTaken .cardAnswer = false) (ha : answer s = (t, body)) (hn : t.options.station = some n) (f : Frame) :
    answerAsCard answer f s = t.setLine (t.line.answering f.head.source n f.head.exch body) := by
  rw [answerAsCard, if_neg (by simp [h]), ha]
  simp [readyFrame, State.answerFrame, State.own, hn, LineUnit.answering]

section
variable {s t : State} {head : FrameHead} {q : EscrowFields} {body : Payload} {n : Nat} (hq : s.settle.queue = [])
include hq

section
variable (h : s.hears head (.escrowQuery q))
include h

theorem execEscrowQuery_heard : exec (.escrowQuery head q) s =
    .next (answerAsCard (answerQuery q) { head := head, body := .escrowQuery q } (heardFrom head.source s)) := by
  show execEscrowQuery head q s = _
  rw [execEscrowQuery, whenPowered_on _ _ h.1, hearFrame_heard h hq, heardFrom]

/-- While the card answer place is occupied a query is discarded (R113). -/
theorem execEscrowQuery_occupied (occupied : s.placeTaken .cardAnswer = true) :
    exec (.escrowQuery head q) s = .next (heardFrom head.source s) := by
  rw [execEscrowQuery_heard hq h]
  exact congrArg _ (if_pos occupied)

theorem execEscrowQuery_answered (free : s.placeTaken .cardAnswer = false)
    (ha : answerQuery q (heardFrom head.source s) = (t, body)) (hn : t.options.station = some n) :
    exec (.escrowQuery head q) s = .next (t.setLine (t.line.answering head.source n head.exch body)) := by
  rw [execEscrowQuery_heard hq h, answerAsCard_free (by exact free) ha hn]

end

variable (h : s.hears head (.escrowRelease q))
include h

theorem execEscrowRelease_heard : exec (.escrowRelease head q) s =
    .next (answerAsCard (answerRelease q) { head := head, body := .escrowRelease q } (heardFrom head.source s)) := by
  show execEscrowRelease head q s = _
  rw [execEscrowRelease, whenPowered_on _ _ h.1, hearFrame_heard h hq, heardFrom]

/-- While the card answer place is occupied a release is discarded (R113). -/
theorem execEscrowRelease_occupied (occupied : s.placeTaken .cardAnswer = true) :
    exec (.escrowRelease head q) s = .next (heardFrom head.source s) := by
  rw [execEscrowRelease_heard hq h]
  exact congrArg _ (if_pos occupied)

theorem execEscrowRelease_answered (free : s.placeTaken .cardAnswer = false)
    (ha : removeRefund q.serial q.tag (heardFrom head.source s) = t) (hn : t.options.station = some n) :
    exec (.escrowRelease head q) s = .next
      (t.setLine (t.line.answering head.source n head.exch (.releaseAnswer { status := Reason.ok.code }))) := by
  rw [execEscrowRelease_heard hq h, answerAsCard_free (by exact free) (congrArg (·, _) ha) hn]

end

/-- Settles O32: a request heard is discarded or answered by the place, and the answer is that of the refund list. -/
theorem escrowQueriesAndReleasesAreAnswered : Obligations.EscrowQueriesAndReleasesAreAnswered := by
  unfold Obligations.EscrowQueriesAndReleasesAreAnswered
  intro s head q n hn hq ho mine roster line ownJob
  have changed := setRefunds_eq (s := heardFrom head.source s) ho
  refine ⟨fun h => ⟨fun occupied => ?_, fun free own => ?_, fun free other missing => ?_, fun e free other one => ?_⟩,
    fun h occupied => ?_, fun h free => ⟨fun missing => ?_, fun listed => ?_⟩⟩
  · rw [execEscrowQuery_occupied hq h occupied]
    rfl
  · rw [execEscrowQuery_answered hq h free (answerQuery_jobsCard (by exact own)) hn]
    rfl
  · rw [execEscrowQuery_answered hq h free (answerQuery_noEntry (by exact other) (by exact missing)) hn]
    rfl
  · cases he : e.state with
    | claimed =>
      rw [execEscrowQuery_answered hq h free (answerQuery_claimed (by exact other) (by exact one) he) hn]
      exact ⟨_, rfl, rfl, fun _ => by simp [heardFrom, State.unchangedBut], fun held => absurd held (by decide)⟩
    | held =>
      have answer := answerQuery_held (s := heardFrom head.source s) (by exact other) (by exact one) he
      obtain ⟨x, marked, writes, records⟩ := changed
        (s.card.refunds.map fun x => if mine x then { x with state := .claimed } else x)
      rw [execEscrowQuery_answered hq h free (answer.trans (congrArg (·, _) marked)) hn]
      refine ⟨_, rfl, rfl, fun claimed => absurd claimed (by decide), fun _ => ⟨rfl, writes, records, ?_⟩⟩
      simp [heardFrom, State.unchangedBut]
  · rw [execEscrowRelease_occupied hq h occupied]
    rfl
  · rw [execEscrowRelease_answered hq h free (removeRefund_of_none (by exact missing)) hn]
    rfl
  · intro left
    obtain ⟨x, removed, writes, records⟩ := changed left
    have dropped := (removeRefund_of_some (s := heardFrom head.source s) (by exact listed)).trans removed
    rw [execEscrowRelease_answered hq h free dropped hn]
    exact ⟨_, rfl, rfl, rfl, writes, records, by simp [heardFrom, State.unchangedBut]⟩

end Sys2Proof.Machine
end

section
/-! ## The answers to the card controller's exchanges (R97, R111) -/

namespace Sys2Proof.Machine

/-- An answer to the exchange in progress ends it with that outcome at its source, whichever that is (R111). -/
theorem hearFrame_answer {s : State} {head : FrameHead} {body : Payload} {e : Exchange} (h : s.hears head body)
    (hq : s.settle.queue = []) (he : s.line.inProgress = some e) (hdest : e.dest = head.source)
    (hnumber : e.number = head.exch) (hkind : Payload.answeredBy e.body body = true) :
    hearFrame { head := head, body := body } (takeAnswer { head := head, body := body }) s =
      exchangeEnds (.answer body) (s.setLine (s.line.ended (markHeard head.source s.line.roster))) e := by
  have heard := hearFrame_heard h hq (takeAnswer { head := head, body := body })
  obtain ⟨-, -, sending, -⟩ := h
  have inProgress : (s.setLine (s.line.heard (markHeard head.source s.line.roster))).line.inProgress = some e := he
  have matched : e.matchedBy { head := head, body := body } = true := by
    simp [Exchange.matchedBy, hdest, hnumber, hkind]
  rw [heard, takeAnswer, inProgress]
  dsimp only
  rw [if_pos matched, endExchange, inProgress]
  simp [emptyPlace, LineUnit.ended, LineUnit.heard, sending]
  rfl

section
variable {s : State}

/-- The exchange in the card controller's slot ends, with nothing else waiting for the slot (R97). -/
theorem exchangeEnds_card {e : Exchange} (hsource : e.source = .card) {x : CardExchange} (hx : s.card.slot = some x)
    (o : ExchangeOutcome) (hw : (cardExchangeEnds x o (s.setCard { s.card with slot := none })).card.waiting = []) :
    exchangeEnds o s e = cardExchangeEnds x o (s.setCard { s.card with slot := none }) := by
  simp only [exchangeEnds, hsource, cardOutcome, hx]
  exact pumpCard_none hw

variable {k serial tag : Nat} {a : EscrowAnswerFields} {i : PurseImage}

theorem writableImage_resolving (ready : s.card.state = .ready) (hi : s.card.image = some i)
    (idle : s.card.writing = none) (resolving : s.card.resolving = true) (room : i.purse.counter < 4294967295) :
    s.writableImage true = some i := by
  simp [State.writableImage, hi, ready, idle, resolving, room, counterEnd]

/-- A charged total within the escrow of the card still in the slot is written to it (R91, R97). -/
theorem cardExchangeEnds_settles (ok : a.status = Reason.ok.code) (hi : s.writableImage true = some i)
    (hs : i.serial = serial) (within_ : a.charged ≤ i.purse.escrow) :
    cardExchangeEnds (.query k serial tag true) (.answer (.escrowAnswer a)) s =
      s.setCard (s.card.writes (.peerAnswer k serial tag a.charged) i.slot (i.purse.settledTo a.charged) s.timeBase) := by
  simp only [cardExchangeEnds, ok, hi, hs, within_, if_true]
  exact startWrite_eq _ _ _ _

/-- NO_ENTRY leaves the escrow of the card unresolved, with its notice and its reserved place released (R97). -/
theorem cardExchangeEnds_noEntry (noEntry : a.status = Reason.noEntry.code) (hi : s.card.image = some i)
    (room : s.port.notices.length < 16) :
    cardExchangeEnds (.query k serial tag true) (.answer (.escrowAnswer a)) s =
      endResolving (s.setPort { s.port with notices := s.port.notices ++
        [{ time := s.timeBase
           body := .escrowUnresolved .noEntry i.serial i.purse.escrow i.purse.station i.purse.tag }] }) := by
  rw [← escrowUnresolved_raised hi room]
  simp only [cardExchangeEnds, noEntry]
  rfl

end

/-- Settles O39: the answer reaches the card controller by `hearFrame_answer`, and ends what stands in its slot. -/
theorem escrowAnswersEndTheResolution : Obligations.EscrowAnswersEndTheResolution := by
  unfold Obligations.EscrowAnswersEndTheResolution
  intro s head e k serial tag hown hq he hsource hdest hnumber hw room line
  refine ⟨fun a q i h hbody hslot ready idle resolving hi hserial fresh => ?_, fun a q h hbody hslot => ?_⟩
  · have taken : exec (.escrowAnswer head a) s =
        .next (exchangeEnds (.answer (.escrowAnswer a)) (s.setLine line) e) := by
      show execEscrowAnswer head a s = _
      rw [execEscrowAnswer, whenPowered_on _ _ h.1, hearFrame_answer h hq he hdest hnumber (by rw [hbody]; rfl)]
    refine ⟨fun ok within_ => ?_, fun noEntry => ?_⟩
    · intro p
      have written := cardExchangeEnds_settles (k := k) (tag := tag)
        (s := (s.setLine line).setCard { s.card with slot := none }) ok
        (writableImage_resolving ready hi idle resolving fresh) hserial within_
      rw [taken, exchangeEnds_card hsource (by exact hslot) _ (by exact written ▸ hw)]
      exact congrArg _ written
    · have ended := cardExchangeEnds_noEntry (k := k) (serial := serial) (tag := tag)
        (s := (s.setLine line).setCard { s.card with slot := none }) noEntry hi room
      rw [hserial] at ended
      rw [taken, exchangeEnds_card hsource (by exact hslot) _ (by exact ended ▸ hw)]
      exact congrArg _ ended
  · have taken : exec (.releaseAnswer head a) s =
        .next (exchangeEnds (.answer (.releaseAnswer a)) (s.setLine line) e) := by
      show execReleaseAnswer head a s = _
      rw [execReleaseAnswer, whenPowered_on _ _ h.1, hearFrame_answer h hq he hdest hnumber (by rw [hbody]; rfl)]
    rw [taken, exchangeEnds_card hsource (by exact hslot) _ (by exact hw)]
    rfl

end Sys2Proof.Machine
end

section
/-! ## Frames that read back (R104, R105, R188) -/

namespace Sys2Proof.Machine

/-! ### Fields of a record -/

/-- A field behind the number at the front of a record. -/
theorem field_spell_skip {width start : Nat} (h : width ≤ start) (n : Nat) (rest : List Byte) (len : Nat) :
    field (spell width n ++ rest) start len = field rest (start - width) len :=
  field_behind _ _ _ (by rw [Laws.Wire.spell_length]; omega)

/-- The number that ends a record. -/
theorem field_spell_last (width n : Nat) : field (spell width n) 0 width = n % 256 ^ width := by
  simpa using field_spell width n []

end Sys2Proof.Machine

namespace Sys2Proof

open Machine

/-! ### Payloads -/

/-- The station byte of a POST holds its station and its two marks apart (R188). -/
theorem postStationByte_parts {station : Nat} (h : station < 64) (final offline : Bool) :
    postStationByte station final offline < 256 ∧ postStationByte station final offline % 64 = station ∧
    (postStationByte station final offline / 64 % 2 == 1) = final ∧
    (postStationByte station final offline / 128 == 1) = offline := by
  cases final <;> cases offline <;> simp [postStationByte] <;> omega

/-- A payload reads back from its bytes by its kind: its fields stand one behind the other in their widths, a ROLL's
mark in a byte of its own, a POST's in its station byte. -/
theorem Payload.read_bytes {p : Payload} (h : p.fits = true) : Payload.read p.kind p.bytes = some p := by
  cases p with
  | roll p =>
    have mark : ((if p.joining then 1 else 0) % 256 != 0) = p.joining := by cases p.joining <;> rfl
    simp [Payload.fits] at h
    simp [Payload.read, Payload.kind, Payload.bytes, field_spell, field_spell_skip, field_spell_last, mark,
      Nat.mod_eq_of_lt h.1, Nat.mod_eq_of_lt h.2]
  | post p =>
    simp [Payload.fits] at h
    obtain ⟨byte, station, final, offline⟩ := postStationByte_parts (by omega : p.hold.station < 64) p.final p.offline
    simp [Payload.read, Payload.kind, Payload.bytes, field_spell, field_spell_skip, field_spell_last,
      Nat.mod_eq_of_lt byte, station, final, offline]
    simp (disch := omega) only [Nat.mod_eq_of_lt]
  | _ p =>
    simp [Payload.fits] at h
    simp [Payload.read, Payload.kind, Payload.bytes, field_spell, field_spell_skip, field_spell_last]
    simp (disch := omega) only [Nat.mod_eq_of_lt]

theorem kindLength_le {kind len : Nat} (h : kindLength kind = some len) : len ≤ 24 := by
  unfold kindLength at h
  split at h <;> simp_all <;> omega

theorem Payload.kind_lt (p : Payload) : p.kind < 256 := by
  cases p <;> simp [Payload.kind]

theorem Payload.kind_eq_one (p : Payload) : (p.kind == 1) = p.isRoll := by
  cases p <;> rfl

/-! ### Whole frames -/

section
variable (f : Frame)

theorem Frame.covered_length : f.covered.length = 5 + f.body.bytes.length := by
  simp [Frame.covered, Laws.Wire.spell_length]
  omega

/-- The six bytes before the payload: the start byte and the header (R188). -/
theorem Frame.bytes_eq : f.bytes = (spell 1 165 ++ (spell 1 f.head.dest ++ (spell 1 f.head.source ++
    (spell 1 f.body.kind ++ (spell 1 f.head.exch ++ spell 1 f.body.bytes.length))))) ++
      (f.body.bytes ++ spell 2 (crc f.covered).toNat) := by
  simp [Frame.bytes, Frame.covered, spell]

/-- The CRC covers the bytes between the start byte and itself (R105). -/
theorem Frame.bytes_covered : (f.bytes.drop 1).take (5 + f.body.bytes.length) = f.covered := by
  rw [← f.covered_length]
  exact List.take_left ..

theorem Frame.bytes_body : (f.bytes.drop 6).take f.body.bytes.length = f.body.bytes := by
  rw [f.bytes_eq, List.drop_left' (by simp [Laws.Wire.spell_length]), List.take_left]

theorem Frame.bytes_crc : field f.bytes (6 + f.body.bytes.length) 2 = (crc f.covered).toNat := by
  rw [f.bytes_eq, field_behind _ _ (k := f.body.bytes.length) 2 (by simp [Laws.Wire.spell_length]),
    field_behind _ _ (k := 0) 2 (Nat.add_zero _).symm, field_spell_of_lt (crc f.covered).isLt]

theorem Frame.bytes_length : f.bytes.length = 8 + f.body.bytes.length := by
  simp [Frame.bytes, f.covered_length, Laws.Wire.spell_length]
  omega

end

/-- A good frame passes every check of the receiver (R104), in its order, with each field as it was sent. -/
theorem Frame.read_bytes {f : Frame} (h : f.good = true) : Frame.read f.bytes = some f := by
  have kindLen := Laws.Wire.payload_length f.body
  have short := kindLength_le kindLen
  have kind := f.body.kind_lt
  simp only [Frame.good, Bool.and_eq_true, decide_eq_true_eq, beq_iff_eq] at h
  obtain ⟨⟨⟨⟨dest, source⟩, exch⟩, fits⟩, roll⟩ := h
  have header : field f.bytes 1 1 = f.head.dest ∧ field f.bytes 2 1 = f.head.source ∧ field f.bytes 3 1 = f.body.kind ∧
      field f.bytes 4 1 = f.head.exch ∧ field f.bytes 5 1 = f.body.bytes.length := by
    rw [f.bytes_eq]
    simp [field_spell, field_spell_skip]
    omega
  obtain ⟨destByte, sourceByte, kindByte, exchByte, lenByte⟩ := header
  have start : f.bytes.head? = some 0xA5#8 := rfl
  simp only [Frame.read, destByte, sourceByte, kindByte, exchByte, lenByte, f.bytes_length, f.bytes_covered,
    f.bytes_crc, f.bytes_body, Payload.read_bytes fits, start, kindLen, f.body.kind_eq_one, roll]
  rw [if_neg (by simp), if_neg (by simp; omega), if_neg (by simp), if_neg (by omega), if_neg (by simp),
    if_neg (by simp)]
  rfl

end Sys2Proof
end

section
/-! ## Messages and records that read back (R171, R189, R190) -/

namespace Sys2Proof.Machine

/-! ### Command messages (R171, R190) -/

theorem byteSum_append (b c : List Byte) : byteSum (b ++ c) = (byteSum b + byteSum c) % 256 := by
  have sum (l : List Byte) (n : Nat) : l.foldl (fun n x => n + x.toNat) n = n + (l.map BitVec.toNat).sum := by
    induction l generalizing n with
    | nil => rfl
    | cons x rest ih => simp [ih, Nat.add_assoc]
  simp [byteSum, sum]

/-- The check byte brings the sum of a message to 0 (R171). -/
theorem byteSum_checkByte (b : List Byte) : byteSum (b ++ [checkByte b]) = 0 := by
  have low : byteSum b < 256 := Nat.mod_lt _ (by decide)
  have check : byteSum [checkByte b] = (256 - byteSum b) % 256 := by simp [byteSum, checkByte]
  rw [byteSum_append, check]
  omega

theorem Opcode.code_lt (o : Opcode) : o.code < 27 := by
  cases o <;> decide

/-- A command message is well formed, names its command and holds its parameters between length and check (R190). -/
theorem Message.read_commandMessage (o : Opcode) {ps : List Byte} (len : ps.length ≤ 240) :
    Message.read (commandMessage o ps) = .command o ps := by
  have code := o.code_lt
  have message : commandMessage o ps = (spell 1 o.code ++ spell 1 ps.length) ++ (ps ++ [checkByte (spell 1 o.code ++
      spell 1 ps.length ++ ps)]) := by
    simp [commandMessage]
  have codeByte : field (commandMessage o ps) 0 1 = o.code := by
    rw [message, List.append_assoc, field_spell, Nat.mod_eq_of_lt (by omega)]
  have lenByte : field (commandMessage o ps) 1 1 = ps.length := by
    rw [message, List.append_assoc, field_spell_skip (by decide), field_spell, Nat.mod_eq_of_lt (by omega)]
  have params : ((commandMessage o ps).drop 2).take ps.length = ps := by
    rw [message, List.drop_left' (by simp [Laws.Wire.spell_length]), List.take_left]
  have wellFormed : messageWellFormed (commandMessage o ps) = true := by
    have total : (commandMessage o ps).length = ps.length + 3 := by simp [message, Laws.Wire.spell_length]; omega
    have sum : byteSum (commandMessage o ps) = 0 := byteSum_checkByte _
    simp [messageWellFormed, lenByte, total, sum, len]
  have noRead : ¬ (commandMessage o ps = [] ∨ (commandMessage o ps).head? = some readCode) := by
    cases o <;> simp [message, spell, Opcode.code, Opcode.ctorIdx, readCode]
  rw [Message.read, if_neg noRead, if_neg (by simp [wellFormed]), codeByte, Laws.Wire.opcode_reads_back,
    lenByte, params]

/-! ### Purse slots and option records (R189) -/

theorem onesAdd_lt {a b : Nat} (ha : a < 65536) (hb : b < 65536) : onesAdd a b < 65536 := by
  unfold onesAdd
  split <;> omega

theorem words_lt (l : List Byte) : ∀ w ∈ words l, w < 65536 := by
  induction l using words.induct with
  | case1 hi lo rest ih =>
    simp only [words, List.mem_cons]
    rintro w (rfl | h)
    · omega
    · exact ih w h
  | case2 l h => simp [words]

/-- A check is a 16-bit word. -/
theorem onesSum_lt (l : List Byte) : onesSum l < 65536 := by
  have fold (ws : List Nat) (h : ∀ w ∈ ws, w < 65536) (n : Nat) (hn : n < 65536) : ws.foldl onesAdd n < 65536 := by
    induction ws generalizing n with
    | nil => exact hn
    | cons w rest ih =>
      exact ih (fun x hx => h x (by simp [hx])) _ (onesAdd_lt hn (h w (by simp)))
  exact fold _ (words_lt l) 0 (by decide)

theorem optionCheck_lt (l : List Byte) : optionCheck l < 65536 := by
  unfold optionCheck
  omega

/-- A check word behind fourteen bytes reads back (R189). -/
theorem field_check {l : List Byte} (len : l.length = 14) {n : Nat} (h : n < 65536) :
    field (l ++ spell 2 n) 14 2 = n := by
  rw [field_behind _ _ (k := 0) 2 (by omega), field_spell_of_lt h]

theorem cardCheckAgrees_spell {l : List Byte} (len : l.length = 14) :
    cardCheckAgrees (l ++ spell 2 (onesSum l)) = true := by
  simp [cardCheckAgrees, len, Laws.Wire.spell_length, List.take_left' len, field_check len (onesSum_lt l)]

/-- A station byte reads back: a station is below 32, so that 0xFF is left for none (R188). -/
theorem stationByte_reads {x : Option Nat} (h : ∀ n, x = some n → n < 32) : stationByte x % 256 = stationByte x ∧
    (if stationByte x = 255 then none else some (stationByte x)) = x ∧
    (stationByte x < 32 ∨ stationByte x = 255) ∧ (stationByte x = 255 ↔ x = none) := by
  cases x with
  | none => decide
  | some n =>
    have n_lt := h n rfl
    have noMark : n ≠ 255 := by omega
    simp [stationByte, noMark, n_lt]
    omega

theorem Purse.read_bytes {p : Purse} (balance : p.balance < 16777216) (escrow : p.escrow < 16777216)
    (tag : p.tag < 65536) (counter : p.counter < 4294967296) (station : ∀ n, p.station = some n → n < 32)
    (held : p.escrow = 0 ↔ p.station = none) : Purse.read p.bytes = some p := by
  obtain ⟨byte, reads, valid, noneByte⟩ := stationByte_reads station
  have agrees : cardCheckAgrees p.bytes = true := cardCheckAgrees_spell (by simp [Purse.fields, Laws.Wire.spell_length])
  have parts : field p.bytes 0 3 = p.balance ∧ field p.bytes 3 3 = p.escrow ∧
      field p.bytes 6 1 = stationByte p.station ∧ field p.bytes 8 2 = p.tag ∧ field p.bytes 10 4 = p.counter := by
    simp [Purse.bytes, Purse.fields, field_spell, field_spell_skip, byte]
    omega
  obtain ⟨balanceField, escrowField, stationField, tagField, counterField⟩ := parts
  simp only [Purse.read, agrees, balanceField, escrowField, stationField, tagField, counterField, reads]
  exact if_pos (by simpa [held, noneByte] using valid)

/-! ### Tariffs and profiles (R27, R46) -/

theorem Tariff.read_bytes {x : Tariff} (stdMono : x.stdMono < 65536) (stdColour : x.stdColour < 65536)
    (largeMono : x.largeMono < 65536) (largeColour : x.largeColour < 65536) (light : x.light < 256)
    (normal : x.normal < 256) (heavy : x.heavy < 256) (full : x.full < 256) (h : x.inRange = true) :
    Tariff.read x.bytes = some x := by
  simp [Tariff.inRange] at h
  simp [Tariff.read, Tariff.bytes, Laws.Wire.spell_length, field_spell, field_spell_skip, field_spell_last]
  simp (disch := omega) only [Nat.mod_eq_of_lt]

theorem Profile.read_bytes {p : Profile} (h : p.inRange = true) : Profile.read p.bytes = some p := by
  simp [Profile.inRange, Profile.segments] at h
  simp [Profile.read, Profile.bytes, Laws.Wire.spell_length, field_spell, field_spell_skip, field_spell_last]
  simp (disch := omega) only [Nat.mod_eq_of_lt]

theorem Options.readFields_fields {o : Options} (h : o.inRange = true) : Options.readFields o.fields = some o := by
  have len : o.fields.length = 14 := by simp [Options.fields, Laws.Wire.spell_length]
  have inRange := h
  simp only [Options.inRange, Bool.and_eq_true, decide_eq_true_eq] at inRange
  obtain ⟨⟨⟨⟨⟨station, home⟩, issuer⟩, allowance⟩, accountBlock⟩, purseBlock⟩ := inRange
  obtain ⟨byte, reads, -⟩ := stationByte_reads (x := o.station) fun n hn => by simpa [hn] using station
  have stationField : field o.fields 0 1 = stationByte o.station := by simp [Options.fields, field_spell, byte]
  have homePart : (if field o.fields 1 2 = 0 ∧ field o.fields 3 2 = 0 then none
      else some { first := field o.fields 1 2, last := field o.fields 3 2 }) = o.home := by
    simp [Options.fields, field_spell, field_spell_skip]
    cases hh : o.home with
    | none => rfl
    | some r =>
      have range : (1 ≤ r.first ∧ r.first ≤ r.last) ∧ r.last < 65536 := by simpa [hh] using home
      have first : r.first % 65536 = r.first := Nat.mod_eq_of_lt (by omega)
      have last : r.last % 65536 = r.last := Nat.mod_eq_of_lt (by omega)
      simp [first, last]
      omega
  have rest : field o.fields 5 2 = o.issuer ∧ field o.fields 7 2 = o.allowance ∧ field o.fields 9 3 = o.accountBlock ∧
      field o.fields 12 2 = o.purseBlock := by
    simp [Options.fields, field_spell, field_spell_skip, field_spell_last]
    omega
  obtain ⟨issuerField, allowanceField, accountField, purseField⟩ := rest
  simp only [Options.readFields, stationField, reads, homePart, issuerField, allowanceField, accountField, purseField]
  exact if_pos ⟨len, h⟩

theorem Options.readRecord_optionRecord {o : Options} (h : o.inRange = true) :
    Options.readRecord (optionRecord o.fields) = some o := by
  have len : o.fields.length = 14 := by simp [Options.fields, Laws.Wire.spell_length]
  have check : optionCheck (optionRecord o.fields) = optionCheck o.fields := by
    simp [optionCheck, optionRecord, List.take_left' len, List.take_of_length_le (Nat.le_of_eq len)]
  have checkField : field (optionRecord o.fields) 14 2 = optionCheck o.fields := field_check len (optionCheck_lt _)
  have front : (optionRecord o.fields).take 14 = o.fields := List.take_left' len
  rw [Options.readRecord, if_pos ⟨by simp [optionRecord, len, Laws.Wire.spell_length], checkField.trans check.symm⟩,
    front, Options.readFields_fields h]

/-- Settles O60: each layout by its own reading, a frame by the receiver's checks, an erased option record by its
check. -/
theorem framesAndRecordsReadBack : Obligations.FramesAndRecordsReadBack := by
  unfold Obligations.FramesAndRecordsReadBack
  refine ⟨fun f h => Frame.read_bytes h, fun o ps len => Message.read_commandMessage o len,
    fun p balance escrow tag counter station held => Purse.read_bytes balance escrow tag counter station held,
    fun o h => Options.readRecord_optionRecord h, ?_,
    fun x stdMono stdColour largeMono largeColour light normal heavy full h =>
      Tariff.read_bytes stdMono stdColour largeMono largeColour light normal heavy full h,
    fun p h => Profile.read_bytes h⟩
  decide

end Sys2Proof.Machine
end

section
/-! ## Frames that end on the line (R103, R104, R106, R107, R111, R114) -/

namespace Sys2Proof.Machine

/-- What a frame does at the station it is for, by its kind (R106). -/
def frameAct (f : Frame) (s : State) : State → State :=
  match f.body with
  | .roll p => takeRoll (s.marksPresent f.head.source) f p
  | .holdRequest _ => queueRequest f
  | .topUpRequest _ => queueRequest f
  | .post _ => queueRequest f
  | .holdAnswer _ => takeAnswer f
  | .postAnswer _ => takeAnswer f
  | .escrowQuery p => answerAsCard (answerQuery p) f
  | .escrowAnswer _ => takeAnswer f
  | .escrowRelease p => answerAsCard (answerRelease p) f
  | .releaseAnswer _ => takeAnswer f

/-- Every kind of frame is heard alike, and then acts (R104, R106). -/
theorem hearByKind_eq (f : Frame) (s : State) : hearByKind f s = hearFrame f (frameAct f s) s := by
  obtain ⟨head, body⟩ := f
  cases body <;> rfl

/-- The event that a frame is when it ends on the line hears it by its kind. -/
theorem exec_ofFrame (f : Frame) (s : State) : exec (Instr.ofFrame f) s = whenPowered s (hearByKind f) := by
  obtain ⟨head, body⟩ := f
  cases body <;> rfl

theorem exec_ofFrame_powered {s : State} (h : s.powered = true) (f : Frame) :
    exec (Instr.ofFrame f) s = .next (hearFrame f (frameAct f s) s) := by
  rw [exec_ofFrame, whenPowered_on _ _ h, hearByKind_eq]

/-- The part with the line idle again after a run of bytes (R103). -/
def idled (s : State) : State := s.setLine (s.line.heard s.line.roster)

theorem lineGoesIdle_on {s : State} (h : s.line.state ≠ .off) : lineGoesIdle s = idled s := if_neg h

/-- A run in which this station has sent only leaves the line idle (R104, R121). -/
theorem hearFrame_ownRun {s : State} {f : Frame} (on : s.line.state ≠ .off) (sending : s.line.sending = none)
    (own : s.ownRun f.head.source = true) (act : State → State) : hearFrame f act s = idled s := by
  rw [hearFrame, if_neg (by simp [sending]), lineGoesIdle_on on]
  exact if_pos (.inr (.inr own))

section
variable {s : State} {f : Frame} (state : s.line.state = .joining ∨ s.line.state = .member)
  (sending : s.line.sending = none) (good : f.good = true)
include state sending good

/-- A good frame in another run is received: from the own number it is a conflict, from another it is heard, and acts
where it is for this station (R104, R106, R107, R120). -/
theorem hearFrame_received (other : s.ownRun f.head.source = false) (act : State → State) : hearFrame f act s =
    if s.own = some f.head.source then enterConflict f (idled s)
    else if s.own = some f.head.dest ∨ f.head.dest = 63 then act (noteHeard f.head.source (idled s))
    else noteHeard f.head.source (idled s) := by
  have on : s.line.state ≠ .off := by rcases state with h | h <;> simp [h]
  have onLine : (idled s).onLine = true := by
    show (s.line.state == .joining || s.line.state == .member) = true
    rcases state with h | h <;> simp [h]
  rw [hearFrame, if_neg (by simp [sending]), lineGoesIdle_on on]
  exact if_neg (by simp [good, onLine, other])

/-- A good frame from the own number, in a run with nothing sent, puts the line in CONFLICT (R120). -/
theorem hearFrame_conflict (share : s.line.share = .nothing) (own : s.own = some f.head.source)
    (act : State → State) : hearFrame f act s = enterConflict f (idled s) := by
  rw [hearFrame_received state sending good (by simp [State.ownRun, share]), if_pos own]

variable (share : s.line.share ≠ .part) (other : s.own ≠ some f.head.source) (quiet : s.settle.queue = [])
include share other quiet

/-- A good frame from another station with no outbound entry is heard, and acts where it is for this station. -/
theorem hearFrame_other (act : State → State) : hearFrame f act s =
    if s.own = some f.head.dest ∨ f.head.dest = 63 then act (heardFrom f.head.source s)
    else heardFrom f.head.source s := by
  have notOwn : s.ownRun f.head.source = false := by
    cases hs : s.line.share with
    | nothing => simp [State.ownRun, hs]
    | part => exact absurd hs share
    | whole => simpa [State.ownRun, hs] using other
  have heard : noteHeard f.head.source (idled s) = heardFrom f.head.source s :=
    noteHeard_other (by exact quiet) (by exact other)
  rw [hearFrame_received state sending good notOwn, if_neg other, heard]

end

theorem State.hears.exec_ofFrame {s : State} {f : Frame} (h : s.hears f.head f.body) (quiet : s.settle.queue = []) :
    exec (Instr.ofFrame f) s = .next (frameAct f s (heardFrom f.head.source s)) := by
  rw [exec_ofFrame_powered h.1]
  exact congrArg _ (hearFrame_heard h quiet _)

/-! ### Frames and bytes that are discarded -/

/-- An answer that ends no exchange in progress changes nothing (R111). -/
theorem takeAnswer_unmatched {f : Frame} {s : State} (h : ∀ e, s.line.inProgress = some e → e.matchedBy f = false) :
    takeAnswer f s = s := by
  unfold takeAnswer
  split
  · next e he => exact if_neg (by simp [h e he])
  · rfl

theorem frameAct_answer {f : Frame} (h : (∃ a, f.body = .holdAnswer a) ∨ (∃ a, f.body = .postAnswer a) ∨
    (∃ a, f.body = .escrowAnswer a) ∨ (∃ a, f.body = .releaseAnswer a)) (s : State) : frameAct f s = takeAnswer f := by
  obtain ⟨head, body⟩ := f
  rcases h with ⟨a, h⟩ | ⟨a, h⟩ | ⟨a, h⟩ | ⟨a, h⟩ <;> cases h <;> rfl

theorem execFrameDiscarded_good {f : Frame} (h : f.good = true) (s : State) :
    exec (.frameDiscarded f.bytes) s = exec (Instr.ofFrame f) s := by
  show execFrameDiscarded f.bytes s = _
  rw [execFrameDiscarded, Frame.read_bytes h, exec_ofFrame]

theorem execFrameDiscarded_bad {s : State} {bytes : List Byte} (powered : s.powered = true)
    (h : Frame.read bytes = none) : exec (.frameDiscarded bytes) s =
      .next (if s.line.sending.isSome then s else lineGoesIdle s) := by
  show execFrameDiscarded bytes s = _
  rw [execFrameDiscarded, whenPowered_on _ _ powered, h]

theorem execLineBusy_powered {s : State} (powered : s.powered = true) : exec .lineBusy s = .next (lineGoesBusy s) :=
  whenPowered_on _ _ powered

/-- Settles O36: each frame and run of bytes by the branch of the receiver it meets. -/
theorem discardedFramesChangeNothingElse : Obligations.DiscardedFramesChangeNothingElse := by
  unfold Obligations.DiscardedFramesChangeNothingElse
  refine ⟨fun s f good => execFrameDiscarded_good good s, fun s bytes powered bad => ?_, fun s powered => ?_,
    fun s f powered on sending own => ?_, fun s f powered state sending share good other quiet => ?_⟩
  · rw [execFrameDiscarded_bad powered bad]
    refine ⟨fun sending => ?_, fun sending on => ?_, fun off => ?_⟩
    · rw [if_pos (Option.isSome_iff_ne_none.mpr sending)]
    · rw [if_neg (by simp [sending]), lineGoesIdle_on on]
      rfl
    · rw [lineGoesIdle, if_pos off, ite_self]
  · rw [execLineBusy_powered powered]
    refine ⟨fun on => ?_, fun off => congrArg _ (if_pos off)⟩
    rw [lineGoesBusy, if_neg on]
    cases s.line.sending <;> rfl
  · have ownRun : s.ownRun f.head.source = true := by
      rcases own with part | ⟨whole, own⟩
      · simp [State.ownRun, part]
      · simp [State.ownRun, whole, own]
    rw [exec_ofFrame_powered powered, hearFrame_ownRun on sending ownRun]
    rfl
  · have heard := hearFrame_other state sending good share other quiet (frameAct f s)
    rw [exec_ofFrame_powered powered, heard]
    refine ⟨fun notMine notAll => congrArg _ (if_neg (by simp [notMine, notAll])), fun answer unmatched => ?_⟩
    have discarded : takeAnswer f (heardFrom f.head.source s) = heardFrom f.head.source s := by
      refine takeAnswer_unmatched fun e he => ?_
      rcases unmatched e he with dest | number | kind
      · simp [Exchange.matchedBy, dest.symm]
      · simp [Exchange.matchedBy, number.symm]
      · simp [Exchange.matchedBy, kind]
    rw [frameAct_answer answer, discarded, ite_self]
    rfl

end Sys2Proof.Machine
end

section
/-! ## Requests of peers and ROLLs (R113, R116, R119) -/

namespace Sys2Proof.Machine

/-! ### The account input queue (R113) -/

theorem isPeer_eq (o : Origin) : o.isPeer = (o != .job && o != .settlement) := by
  cases o <;> rfl

theorem frameAct_request {f : Frame} (h : (∃ p, f.body = .holdRequest p) ∨ (∃ p, f.body = .topUpRequest p) ∨
    (∃ p, f.body = .post p)) (s : State) : frameAct f s = queueRequest f := by
  obtain ⟨head, body⟩ := f
  rcases h with ⟨p, h⟩ | ⟨p, h⟩ | ⟨p, h⟩ <;> cases h <;> rfl

/-- Settles O35: the request acts by `queueRequest`, whose places are those of the peers' requests. -/
theorem peerRequestsJoinTheInputQueue : Obligations.PeerRequestsJoinTheInputQueue := by
  unfold Obligations.PeerRequestsJoinTheInputQueue
  intro s head body request h quiet line peers
  have heard : exec (Instr.ofFrame { head := head, body := body }) s =
      .next (queueRequest { head := head, body := body } (heardFrom head.source s)) := by
    rw [State.hears.exec_ofFrame (by exact h) quiet, frameAct_request (by exact request)]
  have counted : ((heardFrom head.source s).accounts.arrivals.filter fun a => a.origin.isPeer).length = peers := by
    simp only [isPeer_eq]
    rfl
  rw [heard, queueRequest, counted]
  exact ⟨fun room => congrArg _ (if_pos room), fun full => congrArg _ (if_neg (by omega))⟩

/-! ### The roster (R116, R119) -/

theorem ownOverlap_heardFrom (station : Nat) (s : State) : (heardFrom station s).ownOverlap = s.ownOverlap := by
  have each (e : RosterEntry) : (if e.station = station then { e with present := true } else e).station = e.station ∧
      (if e.station = station then { e with present := true } else e).overlap = e.overlap := by
    split <;> exact ⟨rfl, rfl⟩
  simp only [State.ownOverlap, heardFrom, State.own, State.setLine_line, State.setLine_options, LineUnit.heard,
    markHeard, List.any_map, Function.comp_def, each]

/-- The part with its sender's entry in the roster and every overlap mark judged again (R116, R119). -/
def rolled (station : Nat) (home : Option HomeRange) (s : State) : State :=
  s.setLine { s.line with roster := judgeOverlaps (putSorted RosterEntry.station
    { station := station, present := true, home := home, overlap := false } s.line.roster) }

/-- A change of the own mark raises ROSTER (R119). -/
def rosterTold (station : Nat) (home : Option HomeRange) (s : State) : Port :=
  let s1 := rolled station home s
  if s1.ownOverlap = s.ownOverlap then s.port else (raiseNotice (.roster s1.ownOverlap s1.overlapping) s1).port

/-- A ROLL changes the roster and the port (R116, R119). -/
theorem updateRoster_eq (station : Nat) (home : Option HomeRange) (s : State) :
    updateRoster station home s = (rolled station home s).setPort (rosterTold station home s) := by
  show (if (rolled station home s).ownOverlap = s.ownOverlap then rolled station home s
    else raiseNotice _ (rolled station home s)) = _
  rw [rosterTold]
  dsimp only
  split
  · rfl
  · exact raiseNotice_eq _ _

/-- The delays that run once a ROLL was heard: its answer's beside the others, where it calls for one (R116). -/
def rollDelaysWith (calls : Prop) [Decidable calls] (s : State) : List TimePoint :=
  if calls ∧ s.placeTaken .roll = false then s.line.rollDelays ++ [after s.timeBase (rollDelay (s.own.getD 0))]
  else s.line.rollDelays

/-- A ROLL heard changes the roster and the port, and the delays where it calls for an answer (R116). -/
theorem takeRoll_eq (known : Bool) (f : Frame) (p : RollFields) (s : State) : takeRoll known f p s =
    (s.setLine { (rolled f.head.source (rollHome p) s).line with
        rollDelays := rollDelaysWith (p.joining = true ∨ known = false) s }).setPort
      (rosterTold f.head.source (rollHome p) s) := by
  rw [takeRoll, updateRoster_eq, rollDelaysWith]
  dsimp only
  by_cases calls : p.joining = true ∨ known = false
  · rw [if_pos calls, callAnswerRoll]
    cases taken : s.placeTaken .roll with
    | true =>
      rw [if_pos (by exact taken), if_neg (by simp)]
      rfl
    | false =>
      rw [if_neg (by exact Bool.eq_false_iff.mp taken), if_pos ⟨calls, rfl⟩]
      rfl
  · rw [if_neg calls, if_neg (fun h => calls h.1)]
    rfl

/-- Settles O34: the line and the port are those of `takeRoll_eq`, and the own mark before the ROLL is not changed by
its hearing. -/
theorem rollUpdatesTheRoster : Obligations.RollUpdatesTheRoster := by
  unfold Obligations.RollUpdatesTheRoster
  intro s head p n h hn quiet home entries overlapped judged known
  have heard : exec (.roll head p) s =
      .next (takeRoll known { head := head, body := .roll p } p (heardFrom head.source s)) :=
    State.hears.exec_ofFrame (f := { head := head, body := .roll p }) h quiet
  rw [heard, takeRoll_eq]
  refine ⟨_, rfl, ?_, fun same => ?_, fun changed room => ?_, by simp [State.unchangedBut, heardFrom]⟩
  · have delays : rollDelaysWith (p.joining = true ∨ known = false) (heardFrom head.source s) =
        if (p.joining = true ∨ known = false) ∧ s.placeTaken .roll = false then
          s.line.rollDelays ++ [s.timeBase + BitVec.ofNat 32 ((n + 1) * 2)] else s.line.rollDelays := by
      have own : (heardFrom head.source s).own = some n := hn
      rw [rollDelaysWith, own]
      rfl
    rw [delays]
    rfl
  · exact if_pos (same.trans (ownOverlap_heardFrom head.source s).symm)
  · have told : rosterTold head.source home (heardFrom head.source s) = _ :=
      if_neg fun same => changed (same.trans (ownOverlap_heardFrom head.source s))
    exact told.trans ((raiseNotice_port _ _).trans (if_pos room))

end Sys2Proof.Machine
end

section
/-! ## CONFLICT (R120, R121) -/

namespace Sys2Proof.Machine

/-! ### The outcome NO_LINE at its source leaves the line -/

/-- The line is in CONFLICT with no exchange left. -/
structure LineUnit.Dropped (l : LineUnit) : Prop where
  state : l.state = .conflict
  inProgress : l.inProgress = none
  pending : l.pending = []

theorem whenSettling_line {s : State} {f : State → State} (h : (f s).line = s.line) :
    (whenSettling f s).line = s.line := by
  unfold whenSettling
  split
  · exact h
  · rfl

section
variable {s : State} (h : s.line.Dropped)
include h

theorem LineUnit.Dropped.notMember : s.member = false := by
  simp [State.member, h.state]

theorem LineUnit.Dropped.dropExchanges (src : Source) : (dropExchanges src s).line = s.line := by
  have none : s.line.inProgress.any (fun e => e.source == src) = false := by simp [h.inProgress]
  have pending : s.line.pending.filter (fun e => e.source != src) = s.line.pending := by simp [h.pending]
  rw [Machine.dropExchanges, none, pending]
  rfl

theorem LineUnit.Dropped.jobToNone : (jobToNone s).line = s.line := LineUnit.Dropped.dropExchanges (by exact h) .job

theorem LineUnit.Dropped.endJob (route : Route) : (endJob route s).line = s.line := by
  have counted : (jobCounted route s).line = s.line := by simp [jobCounted]
  have ended : (Machine.jobToNone (jobCounted route s)).line = s.line :=
    (LineUnit.Dropped.jobToNone (counted.symm ▸ h)).trans counted
  rw [endJob_eq]
  split
  · rw [enterPath_line, ended]
  · exact ended

theorem LineUnit.Dropped.settleByQueue : (settleByQueue s).line = s.line := by
  refine whenSettling_line ?_
  dsimp only
  split
  · exact (LineUnit.Dropped.endJob (by simpa using h) _).trans (by simp)
  · exact h.endJob _

theorem LineUnit.Dropped.jobRequestNoLine (r : JobRequest) : (jobRequestNoLine r s).line = s.line := by
  cases r with
  | topUp amount minimum => exact raiseNotice_line _ _
  | periodicPost => rfl
  | finalPost => exact h.settleByQueue

end

/-- In CONFLICT no request of the job unit reaches the line. -/
theorem LineUnit.Dropped.handRequests (l : List JobRequest) {s : State} (h : s.line.Dropped) :
    (handRequests l s).line = s.line := by
  induction l generalizing s with
  | nil => rfl
  | cons r rest ih =>
    unfold Machine.handRequests
    dsimp only
    split
    · rfl
    · split
      · exact handOwn_line _ _ _
      · have told := LineUnit.Dropped.jobRequestNoLine (s := s.setJob { s.job with waiting := rest }) h r
        have offline := LineUnit.Dropped.notMember (s := s.setJob { s.job with waiting := rest }) h
        rw [if_neg (by simp [offline])]
        exact (ih (told.symm ▸ h)).trans told

section
variable {s : State} (h : s.line.Dropped)
include h

theorem LineUnit.Dropped.pumpJob : (pumpJob s).line = s.line := h.handRequests _

theorem LineUnit.Dropped.firstHold (asked : Nat) : (firstHold asked .noLine s).line = s.line := by
  unfold Machine.firstHold
  split
  · rfl
  · exact (complete_line _ _ _).trans h.jobToNone

theorem LineUnit.Dropped.finalOutcome : (finalOutcome .noLine s).line = s.line := whenSettling_line h.settleByQueue

theorem LineUnit.Dropped.jobOutcome (body : Payload) : (jobOutcome body .noLine s).line = s.line := by
  unfold Machine.jobOutcome
  dsimp only
  have moved {t : State} (same : t.line = s.line) : (Machine.pumpJob t).line = s.line :=
    (LineUnit.Dropped.pumpJob (same.symm ▸ h)).trans same
  refine moved ?_
  split
  · exact h.firstHold _
  · cases s.jobIsLocal <;> exact raiseNotice_line _ _
  · split
    · exact h.finalOutcome
    · rfl
  · rfl

end

theorem escrowUnresolved_line (r : Reason) (s : State) : (escrowUnresolved r s).line = s.line := by
  unfold escrowUnresolved
  split
  · exact raiseNotice_line _ _
  · rfl

theorem cardExchangeEnds_noLine_line (e : CardExchange) (s : State) : (cardExchangeEnds e .noLine s).line = s.line := by
  cases e with
  | query station serial tag live =>
    cases live with
    | false => rfl
    | true => exact escrowUnresolved_line _ _
  | release station serial tag => exact addOutbound_line _ _

/-- In CONFLICT no request of the card controller reaches the line. -/
theorem LineUnit.Dropped.handCardExchanges (l : List CardExchange) {s : State} (h : s.line.Dropped) :
    (handCardExchanges l s).line = s.line := by
  induction l generalizing s with
  | nil => rfl
  | cons e rest ih =>
    unfold Machine.handCardExchanges
    dsimp only
    split
    · rfl
    · have told := cardExchangeEnds_noLine_line e (s.setCard { s.card with waiting := rest })
      have offline := LineUnit.Dropped.notMember (s := s.setCard { s.card with waiting := rest }) h
      rw [if_neg (by simp [offline])]
      exact (ih (told.symm ▸ h)).trans told

section
variable {s : State} (h : s.line.Dropped)
include h

theorem LineUnit.Dropped.cardOutcome : (cardOutcome .noLine s).line = s.line := by
  unfold Machine.cardOutcome
  split
  · rfl
  · next e he =>
    have told := cardExchangeEnds_noLine_line e (s.setCard { s.card with slot := none })
    exact (LineUnit.Dropped.handCardExchanges _ (told.symm ▸ h)).trans told

theorem LineUnit.Dropped.pumpSettlement : (pumpSettlement s).line = s.line := by
  rw [Machine.pumpSettlement, if_pos h.notMember]
  rfl

theorem LineUnit.Dropped.tryOutcome : (tryOutcome .noLine s).line = s.line := by
  unfold Machine.tryOutcome
  split
  · rfl
  · next t _ =>
    dsimp only
    cases (s.setSettle { s.settle with trying := none }).settle.find t.key
    all_goals exact LineUnit.Dropped.pumpSettlement (s := s.setSettle { s.settle with trying := none }) h

theorem LineUnit.Dropped.exchangeEnds (e : Exchange) : (exchangeEnds .noLine s e).line = s.line := by
  unfold Machine.exchangeEnds
  split
  · exact h.jobOutcome _
  · exact h.cardOutcome
  · exact h.tryOutcome

end

theorem LineUnit.Dropped.foldl_exchangeEnds (l : List Exchange) {s : State} (h : s.line.Dropped) :
    (l.foldl (Machine.exchangeEnds .noLine) s).line = s.line := by
  induction l generalizing s with
  | nil => rfl
  | cons e rest ih =>
    have told := h.exchangeEnds e
    exact (ih (told.symm ▸ h)).trans told

/-! ### Entering CONFLICT (R120) -/

/-- The line in CONFLICT: nothing waits on it, nothing runs, and the roster stands (R120). -/
def LineUnit.conflicted (l : LineUnit) : LineUnit :=
  { l with state := .conflict, share := .nothing, inProgress := none, pending := [], waiting := [], sending := none
           joinEnd := none, rollDelays := [] }

/-- The part with its line in CONFLICT, before the exchanges' sources learn of it. -/
def conflicted (s : State) : State :=
  (s.setLine s.line.conflicted).setSettle { s.settle with round := none }

/-- The requests of peers are dropped (R120). -/
def dropPeers (s : State) : State :=
  s.setAccounts { s.accounts with arrivals := s.accounts.arrivals.filter fun a => !a.origin.isPeer }

theorem enterConflict_eq (f : Frame) (s : State) : enterConflict f s =
    raiseNotice (.lineConflict f.body.kind f.head.dest)
      (dropPeers ((s.line.inProgress.toList ++ s.line.pending).foldl (exchangeEnds .noLine) (conflicted s))) := rfl

theorem enterConflict_line (f : Frame) (s : State) : (enterConflict f s).line = s.line.conflicted := by
  rw [enterConflict_eq, raiseNotice_line]
  exact LineUnit.Dropped.foldl_exchangeEnds _ (s := conflicted s) ⟨rfl, rfl, rfl⟩

theorem enterConflict_arrivals (f : Frame) (s : State) :
    ∀ a ∈ (enterConflict f s).accounts.arrivals, ∀ station exch, a.origin ≠ .peer station exch := by
  rw [enterConflict_eq, raiseNotice_accounts]
  intro a ha station exch peer
  simp [dropPeers, peer, Origin.isPeer] at ha

theorem enterConflict_quiet {s : State} (inProgress : s.line.inProgress = none) (pending : s.line.pending = [])
    (f : Frame) : enterConflict f s =
      raiseNotice (.lineConflict f.body.kind f.head.dest) (dropPeers (conflicted s)) := by
  rw [enterConflict_eq, inProgress, pending]
  rfl

/-- Settles O40: the frame enters CONFLICT, and no source puts an exchange back on the line. -/
theorem ownNumberHeardIsConflict : Obligations.OwnNumberHeardIsConflict := by
  unfold Obligations.OwnNumberHeardIsConflict
  intro s f powered state sending share good own
  have line := enterConflict_line f (idled s)
  refine ⟨enterConflict f (idled s), ?_, by rw [line]; rfl, by rw [line]; rfl, by rw [line]; rfl, by rw [line]; rfl,
    by rw [line]; rfl, by rw [line]; rfl, by rw [line]; rfl, enterConflict_arrivals f _,
    fun inProgress pending room => ?_⟩
  · rw [exec_ofFrame_powered powered, hearFrame_conflict state sending good share own]
  · rw [enterConflict_quiet (by exact inProgress) (by exact pending), raiseNotice_room (by exact room)]
    exact ⟨rfl, by simp [State.unchangedBut, dropPeers, conflicted, idled]⟩

end Sys2Proof.Machine
end

section
/-! ## Taking the line (R108, R109, R112, R115) -/

namespace Sys2Proof.Machine

/-! ### The frame that is sent first (R108) -/

theorem firstToSend_mem {own : Nat} {l : List OutFrame} {f : OutFrame} (h : firstToSend own l = some f) : f ∈ l := by
  induction l generalizing f with
  | nil => simp [firstToSend] at h
  | cons g rest ih =>
    unfold firstToSend at h
    split at h
    · simp_all
    · next x hx =>
      split at h
      · exact List.mem_cons_of_mem _ (Option.some.inj h ▸ ih hx)
      · simp_all

/-- A frame that starts before all that became ready earlier and no later than all that became ready after it is sent
first. -/
theorem firstToSend_eq {own : Nat} {before rest : List OutFrame} {f : OutFrame}
    (earlier : ∀ g ∈ before, f.startTime own < g.startTime own)
    (later : ∀ g ∈ rest, f.startTime own ≤ g.startTime own) :
    firstToSend own (before ++ f :: rest) = some f := by
  induction before with
  | nil =>
    show firstToSend own (f :: rest) = some f
    unfold firstToSend
    split
    · rfl
    · next g hg => exact if_neg (Nat.not_lt.mpr (later g (firstToSend_mem hg)))
  | cons x before ih =>
    show firstToSend own (x :: (before ++ f :: rest)) = some f
    rw [firstToSend, ih fun g hg => earlier g (by simp [hg])]
    exact if_pos (earlier x (by simp))

theorem startTime_eq (own : Nat) (f : OutFrame) : f.startTime own =
    if f.place = .accountAnswer ∨ f.place = .cardAnswer then 160 else if f.k = 0 then 210
    else 210 + 50 * ((own * 7 + f.k * 13) % 32 + 1) := by
  cases hp : f.place <;> simp [OutFrame.startTime, Place.isAnswer, backOff, hp]

theorem startTime_le (own : Nat) (f : OutFrame) : 160 ≤ f.startTime own := by
  rw [startTime_eq]
  split_ifs <;> omega

theorem sendStarts_first {s : State} {idle n : Nat} {f : OutFrame} (hn : s.options.station = some n)
    (state : s.line.state = .joining ∨ s.line.state = .member) (sending : s.line.sending = none)
    (first : firstToSend n s.line.waiting = some f) (start : f.startTime n ≤ idle) :
    sendStarts idle s = s.setLine { s.line with busy := true, share := .part, sending := some f.place } := by
  have own : s.own.getD 0 = n := by simp [State.own, hn]
  have wait := startTime_le n f
  rw [sendStarts, if_neg (by rcases state with h | h <;> simp [State.onLine, h, sending] <;> omega), own, first]
  exact if_pos start

/-! ### Frames sent whole and collisions (R109, R112, R115) -/

/-- The line with the place that is being sent empty. -/
def LineUnit.vacated (l : LineUnit) (p : Place) : LineUnit :=
  { l with sending := none, waiting := l.waiting.filter fun g => g.place != p }

theorem emptyPlace_sending {s : State} {p : Place} (h : s.line.sending = some p) :
    emptyPlace p s = s.setLine (s.line.vacated p) := by
  simp [emptyPlace, h, LineUnit.vacated]

/-- What begins when a frame has been sent whole, by its place (R112, R115). -/
def sentFrom (p : Place) (joining : Bool) (s : State) : State :=
  match p, joining with
  | .request, _ => s.setLine { s.line with
      inProgress := s.line.inProgress.map fun e => { e with awaiting := some s.timeBase } }
  | .roll, true => s.setLine { s.line with joinEnd := some (after s.timeBase 200) }
  | _, _ => s

/-- What follows the eighth collision of a frame, by its place (R109, R115). -/
def givenUp (p : Place) (joining : Bool) (f : Frame) (s : State) : State :=
  match p, joining with
  | .request, _ => attemptFails s
  | .roll, true => readyFrame .roll f s
  | _, _ => s

section
variable {s : State} {f : OutFrame} (sent : s.sendingFrame = some f)
include sent

/-- A collision before the eighth lets the frame wait again (R109). -/
theorem collide_again (k : f.k < 7) : collide s = s.setLine { s.line with
    sending := none
    waiting := s.line.waiting.map fun g => if g.place = f.place then { g with k := g.k + 1 } else g } := by
  rw [collide, sent]
  exact if_pos k

variable (place : s.line.sending = some f.place)
include place

/-- A frame sent whole leaves its place, and its run is this station's own (R104, R108). -/
theorem frameSentWhole_eq : frameSentWhole s =
    sentFrom f.place f.isJoining (s.setLine { s.line.vacated f.place with share := .whole }) := by
  have empty := emptyPlace_sending (s := s.setLine { s.line with share := .whole }) place
  rw [frameSentWhole, sent]
  dsimp only
  rw [empty]
  cases f.place <;> cases f.isJoining <;> rfl

/-- The eighth collision ends the sending of a frame (R109). -/
theorem collide_last (k : 7 ≤ f.k) :
    collide s = givenUp f.place f.isJoining f.frame (s.setLine (s.line.vacated f.place)) := by
  rw [collide, sent]
  dsimp only
  rw [if_neg (by omega), emptyPlace_sending place]
  cases f.place <;> cases f.isJoining <;> rfl

end

/-! ### Requests made ready (R108, R112) -/

/-- The line with the request of this exchange of this station ready, and its exchange in progress. -/
def LineUnit.requesting (l : LineUnit) (own : Nat) (e : Exchange) : LineUnit :=
  { l with
    inProgress := some { e with awaiting := none }
    sending := if l.sending = some .request then none else l.sending
    waiting := (l.waiting.filter fun g => g.place != .request) ++
      [{ place := .request, k := 0
         frame := { head := { dest := e.dest, source := own, exch := e.number }, body := e.body } }] }

theorem readyRequest_eq {s : State} {n : Nat} (hn : s.options.station = some n) (e : Exchange) :
    readyRequest e s = s.setLine (s.line.requesting n e) := by
  simp only [readyRequest, State.requestFrame, State.own, hn]
  rfl

theorem attemptFails_next {s : State} {n : Nat} {e : Exchange} (hn : s.options.station = some n)
    (he : s.line.inProgress = some e) (left : 1 < e.attempts) :
    attemptFails s = s.setLine (s.line.requesting n { e with attempts := e.attempts - 1 }) := by
  rw [attemptFails, he]
  exact (if_pos left).trans (readyRequest_eq hn _)

/-- Settles O41: the first frame by `firstToSend_eq`, what is sent and what collides by its place. -/
theorem framesTakeTheLine : Obligations.FramesTakeTheLine := by
  unfold Obligations.FramesTakeTheLine
  intro s n powered hn start
  refine ⟨fun before f rest idle state sending waiting earlier later begins => ?_, fun f sent place => ?_⟩
  · have times (g : OutFrame) : g.startTime n = start g := startTime_eq n g
    have first : firstToSend n s.line.waiting = some f := by
      rw [waiting]
      exact firstToSend_eq (by simpa [times] using earlier) (by simpa [times] using later)
    show whenPowered s (sendStarts idle) = _
    rw [whenPowered_on _ _ powered, sendStarts_first hn state sending first (by rw [times]; exact begins)]
    rfl
  · intro left
    have whole : exec .frameSent s = .next (frameSentWhole s) := whenPowered_on _ _ powered
    have collided : exec .collision s = .next (collide s) := whenPowered_on _ _ powered
    rw [whole, collided, frameSentWhole_eq sent place]
    obtain ⟨p, frame, count⟩ := f
    refine ⟨fun answer => ?_, fun request => ?_, fun roll joining => ?_, fun k => ?_, fun e request k he more => ?_,
      fun dropped k => ?_, fun roll joining k => ?_⟩
    · rcases answer with answer | answer <;> cases answer <;> rfl
    · cases request
      rfl
    · cases roll
      rw [joining]
      rfl
    · rw [collide_again sent k]
      rfl
    · cases request
      have next := attemptFails_next (s := s.setLine (s.line.vacated .request)) hn he more
      rw [collide_last sent place k, givenUp, next]
      simp [LineUnit.requesting, LineUnit.vacated, State.setLine, left]
    · rw [collide_last sent place k]
      rcases dropped with answer | answer | ⟨roll, other⟩
      · cases answer
        rfl
      · cases answer
        rfl
      · cases roll
        rw [other]
        rfl
    · cases roll
      rw [collide_last sent place k, joining]
      rfl

end Sys2Proof.Machine
end

section
/-! ## Exchanges started and failed (R15, R110, R112) -/

namespace Sys2Proof.Machine

/-- The oldest pending exchange takes the next exchange number (R110). -/
theorem startExchange_eq {s : State} {n : Nat} {e : Exchange} {rest : List Exchange} (hn : s.options.station = some n)
    (free : s.line.inProgress = none) (pending : s.line.pending = e :: rest) : startExchange s = s.setLine
      ({ s.line with pending := rest, counter := (s.line.counter + 1) % 256 }.requesting n
        { e with number := s.line.counter }) := by
  rw [startExchange, free, pending]
  exact readyRequest_eq (by exact hn) _

/-- The line with the exchange in progress ended and its destination ABSENT (R112). -/
def LineUnit.unanswered (l : LineUnit) (station : Nat) : LineUnit :=
  { l with
    inProgress := none
    sending := if l.sending = some .request then none else l.sending
    waiting := l.waiting.filter fun g => g.place != .request
    roster := l.roster.map fun x => if x.station = station then { x with present := false } else x }

/-- The last attempt of an exchange with another station ends it NO_ANSWER at its source (R112). -/
theorem attemptFails_last {s : State} {e : Exchange} (he : s.line.inProgress = some e) (last : e.attempts ≤ 1)
    (other : s.own ≠ some e.dest) :
    attemptFails s = exchangeEnds .noAnswer (s.setLine (s.line.unanswered e.dest)) e := by
  have absent : markPresence e.dest false s = s.setLine { s.line with
      roster := s.line.roster.map fun x => if x.station = e.dest then { x with present := false } else x } := by
    simp [markPresence, other]
  have inProgress : (markPresence e.dest false s).line.inProgress = some e := he
  rw [attemptFails, he]
  dsimp only
  rw [if_neg (by omega), endExchange, inProgress, absent]
  rfl

theorem remoteTopUp_noAnswer (asked : Nat) (s : State) :
    remoteTopUp asked .noAnswer s = raiseNotice (.fundsRefused .homeAbsent) (topUpRefused s) := rfl

/-- Settles O42: the exchange that starts, the next attempt, and the last one at the job unit. -/
theorem exchangesStartAndFail : Obligations.ExchangesStartAndFail := by
  unfold Obligations.ExchangesStartAndFail
  intro s n powered hn left sending ready
  refine ⟨fun e rest free pending => ?_, fun e sent he awaiting late => ?_⟩
  · show whenPowered s startExchange = _
    rw [whenPowered_on _ _ powered, startExchange_eq hn free pending]
    rfl
  · have lapsed : s.answerLate = true := by simp [State.answerLate, he, awaiting, late]
    have failed : exec .exchangeAnswerDeadline s = .next (attemptFails s) := whenDue_on _ _ _ powered lapsed
    rw [failed]
    refine ⟨fun more => ?_, fun r part last source body account away idle other room => ?_⟩
    · rw [attemptFails_next hn he more]
      rfl
    · have remote : s.jobIsLocal = false := by simpa [away] using jobIsLocal_iff account
      have stranger : s.own ≠ some e.dest := by simpa [State.own, hn] using Ne.symm other
      rw [attemptFails_last he last stranger, exchangeEnds, source]
      dsimp only
      rw [body, jobOutcome_remoteTopUp (by exact remote), remoteTopUp_noAnswer, raiseNotice_room (by exact room),
        pumpJob_none (by exact idle)]
      rfl

end Sys2Proof.Machine
end

section
/-! ## Membership and roll-call answers (R115, R116, R157) -/

namespace Sys2Proof.Machine

/-- A round with no entry ends where it begins, the next due 15 s later (R157, R158). -/
theorem beginRound_empty {s : State} (quiet : s.settle.queue = []) : beginRound s = s.setSettle { s.settle with
    heard := [], waits := [], roundDue := some (after s.timeBase 15000), round := none } := by
  rw [beginRound, quiet]
  rfl

theorem reached_self (t : TimePoint) : reached t t = true := by
  simp [reached, elapsed]

/-- With no round in progress and nothing tried, a round that is due begins at once (R157; log 36). -/
theorem pumpSettlement_due {s : State} (member : s.line.state = .member) (trying : s.settle.trying = none)
    (round : s.settle.round = none) (due : dueAt s s.settle.roundDue = true) : pumpSettlement s = beginRound s := by
  simp [pumpSettlement, State.member, member, trying, round, due]

/-- A new member with nothing to settle has its first round behind it (R115, R157). -/
theorem becomeMember_quiet {s : State} (quiet : s.settle.queue = []) (trying : s.settle.trying = none)
    (round : s.settle.round = none) : becomeMember s =
      (s.setLine { s.line with state := .member, joinEnd := none }).setSettle { s.settle with
        heard := [], waits := [], roundDue := some (after s.timeBase 15000), round := none } := by
  rw [becomeMember, pumpSettlement_due rfl (by exact trying) (by exact round) (by exact reached_self _),
    beginRound_empty (by exact quiet)]
  rfl

/-- A delay that has run out makes the answer ROLL ready where no ROLL waits (R116). -/
theorem answerRoll_eq {s : State} {due : TimePoint} {rest : List TimePoint} (delays : s.line.rollDelays = due :: rest)
    (ran : reached s.timeBase due = true) : answerRoll s =
      if s.placeTaken .roll then s.setLine { s.line with rollDelays := rest }
      else readyFrame .roll (s.rollFrame false) (s.setLine { s.line with rollDelays := rest }) := by
  have erased : s.line.rollDelays.eraseP (fun t => reached s.timeBase t) = rest := by simp [delays, ran]
  rw [answerRoll, erased]
  rfl

/-- Settles O43: the end of the joining window by `becomeMember_quiet`, a roll-call delay by `answerRoll_eq`. -/
theorem joiningEndsInMembership : Obligations.JoiningEndsInMembership := by
  unfold Obligations.JoiningEndsInMembership
  intro s n powered hn
  refine ⟨fun due state window ended quiet trying round => ?_, fun due rest delays ran => ?_⟩
  · have left : s.joinOver = true := by simp [State.joinOver, state, window, dueAt, ended]
    have joined : exec .joiningWindowEnd s = .next (becomeMember s) := whenDue_on _ _ _ powered left
    rw [joined, becomeMember_quiet quiet trying round, ← round]
    rfl
  · have due : s.rollDelayOver = true := by simp [State.rollDelayOver, delays, ran]
    have answered : exec .rollAnswerDelayEnd s = .next (answerRoll s) := whenDue_on _ _ _ powered due
    rw [answered, answerRoll_eq delays ran]
    refine ⟨fun free => ?_, fun taken => congrArg _ (if_pos taken)⟩
    rw [free]
    simp [readyFrame, State.rollFrame, State.own, hn, State.setLine]

end Sys2Proof.Machine
end

section
/-! ## Operations that leave the hold pool and its records alone (R127)

Nearly every operation of the part leaves the hold pool as it is and hands the store no hold record. `State.HoldSteady`
lists the updates such an operation is made of, and one lemma for each operation follows its own; a law of the pool and its
records is then carried over all of them by one induction (`State.HoldSteady.keepsPool`). -/

namespace Sys2Proof.Machine

/-- The write of a hold record. -/
def RecordWrite.isHold : RecordWrite → Bool
  | .hold _ _ => true
  | _ => false

/-- `t` comes from `s` by updates that leave the hold pool alone and submit no write of a hold record. -/
inductive State.HoldSteady (s : State) : State → Prop
  | refl : s.HoldSteady s
  | setPort {t : State} {p : Port} (h : s.HoldSteady t) : s.HoldSteady (t.setPort p)
  | setJob {t : State} {j : JobUnit} (h : s.HoldSteady t) : s.HoldSteady (t.setJob j)
  | setTariff {t : State} {x : Option Tariff} (h : s.HoldSteady t) : s.HoldSteady (t.setTariff x)
  | setPath {t : State} {p : PathMonitor} (h : s.HoldSteady t) : s.HoldSteady (t.setPath p)
  | setCard {t : State} {c : CardUnit} (h : s.HoldSteady t) : s.HoldSteady (t.setCard c)
  | setLine {t : State} {l : LineUnit} (h : s.HoldSteady t) : s.HoldSteady (t.setLine l)
  | setSettle {t : State} {u : SettlementUnit} (h : s.HoldSteady t) : s.HoldSteady (t.setSettle u)
  | setMeter {t : State} {m : MeterUnit} (h : s.HoldSteady t) : s.HoldSteady (t.setMeter m)
  | setFree {t : State} {n : Nat} (h : s.HoldSteady t) : s.HoldSteady (t.setFree n)
  | setPending {t : State} {l : List Instr} (h : s.HoldSteady t) : s.HoldSteady (t.setPending l)
  | count {t : State} {p : TimePoint} (h : s.HoldSteady t) : s.HoldSteady { t with timeBase := p }
  | setAccounts {t : State} {u : AccountUnit} (h : s.HoldSteady t) (hu : u.pool = t.accounts.pool := by rfl) :
      s.HoldSteady (t.setAccounts u)
  | submit {t : State} {tag : WriteTag} {w : RecordWrite} (h : s.HoldSteady t) (hw : w.isHold = false := by rfl) :
      s.HoldSteady (Machine.submit tag w t)
  | noteMeters {t : State} (h : s.HoldSteady t) : s.HoldSteady (Machine.noteMeters t)

section
variable {s₀ s : State} (h : s₀.HoldSteady s)
include h

theorem State.HoldSteady.setCtx {c : JobContext} : s₀.HoldSteady (s.setCtx c) := h.setJob

/-! ### The port -/

theorem State.HoldSteady.raiseNotice {b : NoticeBody} : s₀.HoldSteady (raiseNotice b s) := by
  unfold Machine.raiseNotice
  split <;> exact h.setPort

theorem State.HoldSteady.placeResult {r : Result} : s₀.HoldSteady (placeResult r s) :=
  h.setPort

theorem State.HoldSteady.complete {r : Reason} {v : Values} : s₀.HoldSteady (complete r v s) := by
  unfold Machine.complete
  split
  · exact h.placeResult
  · exact h

theorem State.HoldSteady.holdResult {r : Reason} {v : Values} : s₀.HoldSteady (holdResult r v s) := by
  unfold Machine.holdResult
  split
  · exact h.setPort
  · exact h

theorem State.HoldSteady.releaseHeld : s₀.HoldSteady (releaseHeld s) := by
  unfold Machine.releaseHeld
  split
  · exact h.placeResult
  · exact h

theorem State.HoldSteady.discardResult : s₀.HoldSteady (discardResult s) := by
  unfold Machine.discardResult
  split
  · exact h.setPort.setMeter.setAccounts
  · exact h

theorem State.HoldSteady.countRefused :
    s₀.HoldSteady (s.setPort { s.port with refused := min 255 (s.port.refused + 1) }) :=
  h.setPort

theorem State.HoldSteady.takeCommand {o : Opcode} {ps : List Byte} {owner : State → State}
    (ho : ∀ x : State, s₀.HoldSteady x → s₀.HoldSteady (owner x)) :
    s₀.HoldSteady (takeCommand o ps owner s) := by
  unfold Machine.takeCommand
  split
  · exact h.countRefused
  · dsimp only
    split
    · exact h.discardResult.placeResult
    · exact ho _ h.discardResult.setPort

theorem State.HoldSteady.takeBare {o : Opcode} {ps : List Byte} {owner : State → State}
    (ho : ∀ x : State, s₀.HoldSteady x → s₀.HoldSteady (owner x)) : s₀.HoldSteady (takeBare o ps owner s) :=
  h.takeCommand fun x hx => by
    split
    · exact ho x hx
    · exact hx.complete

theorem State.HoldSteady.submitAndAnswer {w : RecordWrite} (hw : w.isHold = false := by rfl) {v : Values} :
    s₀.HoldSteady (submitAndAnswer w v s) := by
  unfold Machine.submitAndAnswer
  split
  · exact (h.submit hw).complete
  · exact (h.submit hw).holdResult

theorem State.HoldSteady.addMeters {n : MetersOf Nat} : s₀.HoldSteady (addMeters n s) := by
  unfold Machine.addMeters
  split
  · exact h
  · exact h.setMeter.noteMeters

/-! ### What the blocks ask of one another -/

theorem State.HoldSteady.askExchange {x : Source} {d : Nat} {b : Payload} {n : Nat} :
    s₀.HoldSteady (askExchange x d b n s) := h.setLine
theorem State.HoldSteady.readyFrame {p : Place} {f : Frame} : s₀.HoldSteady (readyFrame p f s) := h.setLine
theorem State.HoldSteady.emptyPlace {p : Place} : s₀.HoldSteady (emptyPlace p s) := h.setLine
theorem State.HoldSteady.markPresence {n : Nat} {b : Bool} : s₀.HoldSteady (markPresence n b s) := h.setLine
theorem State.HoldSteady.handOwn {o : Origin} {b : Payload} : s₀.HoldSteady (handOwn o b s) := h.setAccounts
theorem State.HoldSteady.startWrite {p : WritePurpose} {i : PurseImage} {q : Purse} :
    s₀.HoldSteady (startWrite p i q s) := h.setCard

theorem State.HoldSteady.dropExchanges {x : Source} : s₀.HoldSteady (dropExchanges x s) := by
  unfold Machine.dropExchanges
  dsimp only
  split
  · exact h.setLine.setLine.emptyPlace
  · exact h.setLine

theorem State.HoldSteady.setOutbound {l : List OutEntry} : s₀.HoldSteady (setOutbound l s) :=
  h.setSettle.submit
theorem State.HoldSteady.addOutbound {e : OutEntry} : s₀.HoldSteady (addOutbound e s) := h.setOutbound
theorem State.HoldSteady.setRefunds {t : WriteTag} {l : List RefundEntry} :
    s₀.HoldSteady (setRefunds t l s) := h.setCard.submit
theorem State.HoldSteady.fillRefund {serial tag charged : Nat} :
    s₀.HoldSteady (fillRefund serial tag charged s) := h.setCard.setRefunds

theorem State.HoldSteady.removeRefund {serial tag : Nat} : s₀.HoldSteady (removeRefund serial tag s) := by
  unfold Machine.removeRefund
  split
  · exact h.setRefunds
  · exact h

theorem State.HoldSteady.enterPath {p : PathState} : s₀.HoldSteady (enterPath p s) := by
  unfold Machine.enterPath
  dsimp only
  split <;> exact h.setPath

end

end Sys2Proof.Machine
end

section
/-! ### The job unit leaves the holds alone -/

namespace Sys2Proof.Machine

section
variable {s₀ s : State} (h : s₀.HoldSteady s)
include h

/-! #### The end of a job and its settlement -/

theorem State.HoldSteady.writeCheckpoint : s₀.HoldSteady (writeCheckpoint s) := by
  unfold Machine.writeCheckpoint
  split
  · exact h.submit
  · exact h

theorem State.HoldSteady.takeSerial {t : WriteTag} : s₀.HoldSteady (takeSerial t s) :=
  h.setJob.submit

theorem State.HoldSteady.jobToNone : s₀.HoldSteady (jobToNone s) :=
  h.setJob.setCard.setSettle.dropExchanges

theorem State.HoldSteady.endJob {route : Route} : s₀.HoldSteady (endJob route s) := by
  have ended := (h.addMeters (n := { MetersOf.zero with jobs := FundsOf.only s.job.ctx.funding 1 })).raiseNotice
    (b := .jobEnd (s.job.ctx.endItems route)) |>.submit (tag := .plain) (w := .checkpoint none) |>.jobToNone
  unfold Machine.endJob
  dsimp only
  split
  · exact ended.enterPath
  · exact ended

theorem State.HoldSteady.whenSettling {f : State → State} (hf : s₀.HoldSteady (f s)) :
    s₀.HoldSteady (whenSettling f s) := by
  unfold Machine.whenSettling
  split
  · exact hf
  · exact h

theorem State.HoldSteady.settleByRefund : s₀.HoldSteady (settleByRefund s) :=
  h.whenSettling (by
    split
    · exact h.fillRefund.endJob
    · exact h.endJob)

theorem State.HoldSteady.settleByQueue : s₀.HoldSteady (settleByQueue s) :=
  h.whenSettling (by
    split
    · exact h.setSettle.addOutbound.endJob
    · exact h.endJob)

theorem State.HoldSteady.settlementWritten : s₀.HoldSteady (settlementWritten s) :=
  h.whenSettling (by
    dsimp only
    split
    · exact h.removeRefund.endJob
    · exact h.endJob)

theorem State.HoldSteady.settlePurse : s₀.HoldSteady (settlePurse s) := by
  unfold Machine.settlePurse
  split
  · exact h.endJob
  · split
    · split
      · exact h.startWrite
      · exact h.settleByRefund
    · exact h.settleByRefund

/-! #### Requests -/

theorem State.HoldSteady.topUpRefused : s₀.HoldSteady (topUpRefused s) := h.setCtx
theorem State.HoldSteady.topUpLapsed : s₀.HoldSteady (topUpLapsed s) := h.setCtx
theorem State.HoldSteady.acknowledge {posted : Nat} : s₀.HoldSteady (acknowledge posted s) := h.setCtx

theorem State.HoldSteady.jobRequestNoLine {r : JobRequest} : s₀.HoldSteady (jobRequestNoLine r s) := by
  cases r with
  | topUp => exact h.topUpRefused.raiseNotice
  | periodicPost => exact h
  | finalPost => exact h.settleByQueue

theorem State.HoldSteady.handRequests {l : List JobRequest} : s₀.HoldSteady (handRequests l s) := by
  induction l generalizing s with
  | nil => exact h
  | cons r rest ih =>
    have taken : s₀.HoldSteady (s.setJob { s.job with waiting := rest }) := h.setJob
    unfold Machine.handRequests
    dsimp only
    split_ifs
    · exact h
    · exact taken.handOwn
    · exact taken.askExchange
    · exact ih taken.jobRequestNoLine

theorem State.HoldSteady.pumpJob : s₀.HoldSteady (pumpJob s) := h.handRequests
theorem State.HoldSteady.askJob {r : JobRequest} : s₀.HoldSteady (askJob r s) := h.setJob.pumpJob

theorem State.HoldSteady.settleAccount : s₀.HoldSteady (settleAccount s) := by
  unfold Machine.settleAccount
  split
  · exact h.askJob
  · exact h.setJob.askJob

theorem State.HoldSteady.enterSettling : s₀.HoldSteady (enterSettling s) := by
  have settling : s₀.HoldSteady (s.setJob { s.job with
      ctx := { s.job.ctx with state := .settling }, postDue := none }) :=
    h.setJob
  unfold Machine.enterSettling
  dsimp only
  split
  · exact settling.settlePurse
  · exact settling.settleAccount

theorem State.HoldSteady.stopFeeding {reason : CloseReason} : s₀.HoldSteady (stopFeeding reason s) := by
  unfold Machine.stopFeeding
  dsimp only
  split
  · split
    · exact h.setCtx.enterSettling
    · exact h.setCtx.setCtx
  · exact h.setCtx.enterSettling
  · exact h

/-! #### Opening -/

theorem State.HoldSteady.enterRunning : s₀.HoldSteady (enterRunning s) :=
  h.setJob.writeCheckpoint.enterPath

theorem State.HoldSteady.openPurse {i : PurseImage} : s₀.HoldSteady (openPurse i s) := by
  unfold Machine.openPurse
  dsimp only
  split_ifs
  · exact h.complete
  · exact h.complete
  · exact h.takeSerial.setCard.setCtx.enterRunning.complete
  · exact h.takeSerial.setCard.setCtx.enterRunning.holdResult

theorem State.HoldSteady.takeFunding {kind : FundingKind} {amount discount : Nat} :
    s₀.HoldSteady (takeFunding kind amount discount s) := by
  unfold Machine.takeFunding
  dsimp only
  split
  · exact h.setCtx.setCtx.writeCheckpoint.complete.enterSettling
  · exact h.setCtx.setJob.enterRunning.complete

theorem State.HoldSteady.refuseOpening {r : Reason} : s₀.HoldSteady (refuseOpening r s) := h.jobToNone.complete

theorem State.HoldSteady.homeUnreachable : s₀.HoldSteady (homeUnreachable s) := by
  unfold Machine.homeUnreachable
  split
  · exact h.takeFunding
  · exact h.refuseOpening

theorem State.HoldSteady.firstHold {asked : Nat} {o : ExchangeOutcome} :
    s₀.HoldSteady (firstHold asked o s) := by
  unfold Machine.firstHold
  split
  · exact h
  · split
    · split_ifs
      · exact h.refuseOpening
      · exact h.takeFunding
      · exact h.refuseOpening
    · exact h.refuseOpening
    · exact h.homeUnreachable
    · exact h.refuseOpening

theorem State.HoldSteady.openAccount {number : Nat} {card : Option Nat} :
    s₀.HoldSteady (openAccount number card s) := by
  unfold Machine.openAccount
  split
  · exact h.complete
  · split
    · dsimp only
      split_ifs
      · exact h.complete
      · exact h.complete
      · exact h.takeSerial.setSettle.setJob.handOwn
      · exact h.takeSerial.setSettle.setJob.askExchange
      · exact h.takeSerial.setSettle.setJob.homeUnreachable
    · exact h.complete

/-! #### The feed gate -/

theorem State.HoldSteady.grantFeed {f : PendingFeed} : s₀.HoldSteady (grantFeed f s) := by
  unfold Machine.grantFeed
  dsimp only
  split
  · exact h.setPath.setJob.complete
  · exact h.setJob.complete

theorem State.HoldSteady.refuseFeed {r : Reason} : s₀.HoldSteady (refuseFeed r s) :=
  h.setJob.complete

theorem State.HoldSteady.retakeFeed : s₀.HoldSteady (retakeFeed s) := by
  unfold Machine.retakeFeed
  split
  · exact h
  · split
    · split
      · exact h.grantFeed
      · exact h.refuseFeed
    · exact h.refuseFeed
    · exact h.refuseFeed

theorem State.HoldSteady.seekPurse {f : PendingFeed} : s₀.HoldSteady (seekPurse f s) := by
  unfold Machine.seekPurse
  dsimp only
  split
  · split_ifs
    · exact h.complete
    · exact h.complete
    · exact h.setJob.startWrite
  · exact h.complete

theorem State.HoldSteady.seekAccount {f : PendingFeed} : s₀.HoldSteady (seekAccount f s) := by
  unfold Machine.seekAccount
  dsimp only
  split
  · exact h.complete
  · split_ifs
    · exact h.setJob.askJob
    · exact h.complete
    · exact h.complete
    · exact h.topUpRefused.complete
    · exact h.setCtx.askJob.complete

theorem State.HoldSteady.feedGate {tag : Tag} {d : Sheet} : s₀.HoldSteady (feedGate tag d s) := by
  unfold Machine.feedGate
  dsimp only
  split_ifs
  · exact h.complete
  · exact h.complete
  · split
    · exact h.complete
    · split_ifs
      · exact h.complete
      · exact h.grantFeed
      · split
        · exact h.seekPurse
        · exact h.seekAccount
        · exact h.complete

/-! #### Moves, top-ups and posts -/

theorem State.HoldSteady.moveCompleted {m tag : Nat} : s₀.HoldSteady (moveCompleted m tag s) :=
  h.setCtx.writeCheckpoint.retakeFeed

theorem State.HoldSteady.moveUncertain : s₀.HoldSteady (moveUncertain s) := h.refuseFeed.stopFeeding

theorem State.HoldSteady.topUpGranted {g : Nat} : s₀.HoldSteady (topUpGranted g s) := h.setCtx.writeCheckpoint

theorem State.HoldSteady.localTopUp {a : HoldAnswerFields} : s₀.HoldSteady (localTopUp a s) := by
  unfold Machine.localTopUp
  split_ifs
  · exact h.topUpGranted.retakeFeed
  · exact h.topUpLapsed.refuseFeed
  · exact h.topUpRefused.refuseFeed

theorem State.HoldSteady.remoteTopUp {asked : Nat} {o : ExchangeOutcome} :
    s₀.HoldSteady (remoteTopUp asked o s) := by
  unfold Machine.remoteTopUp
  split
  · split_ifs
    · exact h.topUpRefused.raiseNotice
    · exact h.topUpGranted.raiseNotice
    · exact h.topUpLapsed.raiseNotice
    · exact h.topUpRefused.raiseNotice
  all_goals exact h.topUpRefused.raiseNotice

theorem State.HoldSteady.periodicOutcome {o : ExchangeOutcome} : s₀.HoldSteady (periodicOutcome o s) := by
  unfold Machine.periodicOutcome
  split
  · split_ifs
    · exact h.acknowledge.writeCheckpoint
    · exact h.acknowledge.topUpLapsed.raiseNotice.writeCheckpoint
    · exact h
    · exact h.topUpLapsed.raiseNotice
  · exact h.topUpLapsed.raiseNotice
  · exact h
  · exact h

theorem State.HoldSteady.finalFailed {status : Nat} : s₀.HoldSteady (finalFailed status s) := by
  unfold Machine.finalFailed
  split
  · exact h.raiseNotice.endJob
  · exact h.endJob

theorem State.HoldSteady.finalAcknowledged {posted : Nat} : s₀.HoldSteady (finalAcknowledged posted s) := by
  unfold Machine.finalAcknowledged
  split
  · exact h
  · exact h.acknowledge.writeCheckpoint

theorem State.HoldSteady.finalOutcome {o : ExchangeOutcome} : s₀.HoldSteady (finalOutcome o s) :=
  h.whenSettling (by
    split
    · split
      · exact h.finalAcknowledged.endJob
      · exact h.finalFailed
    · exact h.finalFailed
    · exact h.settleByQueue
    · exact h.settleByQueue)

theorem State.HoldSteady.jobOutcome {body : Payload} {o : ExchangeOutcome} :
    s₀.HoldSteady (jobOutcome body o s) := by
  refine State.HoldSteady.pumpJob ?_
  split
  · exact h.firstHold
  · split
    · exact h.localTopUp
    · exact h.remoteTopUp
  · split
    · exact h.finalOutcome
    · exact h.periodicOutcome
  · exact h

/-! #### Deliveries, losses and cards -/

theorem State.HoldSteady.deliver {r : SheetRecord} : s₀.HoldSteady (deliver r s) := by
  unfold Machine.deliver
  dsimp only
  split
  · exact h.setCtx.writeCheckpoint.addMeters.enterSettling
  · exact h.setCtx.writeCheckpoint.addMeters

theorem State.HoldSteady.loseSheet {r : SheetRecord} : s₀.HoldSteady (loseSheet s r) :=
  h.setJob.addMeters

theorem State.HoldSteady.loseSheets {l : List SheetRecord} : s₀.HoldSteady (l.foldl Machine.loseSheet s) := by
  induction l generalizing s with
  | nil => exact h
  | cons r rest ih => exact ih h.loseSheet

theorem State.HoldSteady.faultJob : s₀.HoldSteady (faultJob s) := by
  unfold Machine.faultJob
  split
  · exact h.setCtx
  · exact h.setCtx
  · exact h

theorem State.HoldSteady.openingCardRemoved {serial : Nat} : s₀.HoldSteady (openingCardRemoved serial s) := by
  unfold Machine.openingCardRemoved
  split
  · split
    · exact h.setJob
    · exact h.stopFeeding
    · exact h.stopFeeding
    · exact h
  · exact h

theorem State.HoldSteady.interruptedNoCard : s₀.HoldSteady (interruptedNoCard s) := by
  unfold Machine.interruptedNoCard
  split
  · exact h.settleByRefund
  · exact h

theorem State.HoldSteady.interruptedCard : s₀.HoldSteady (interruptedCard s) := by
  unfold Machine.interruptedCard
  split
  · split
    · split
      · exact h.setJob.startWrite
      · exact h.settleByRefund
    · exact h.settleByRefund
  · exact h

end

end Sys2Proof.Machine
end

section
/-! ### The settlement unit, the card controller and the line leave the holds alone -/

namespace Sys2Proof.Machine

section
variable {s₀ s : State} (h : s₀.HoldSteady s)
include h

/-! #### The settlement unit -/

theorem State.HoldSteady.answerRelease {q : EscrowFields} : s₀.HoldSteady (answerRelease q s).1 :=
  h.removeRefund

theorem State.HoldSteady.answerQuery {q : EscrowFields} : s₀.HoldSteady (answerQuery q s).1 := by
  unfold Machine.answerQuery
  split
  · exact h
  · split
    · exact h
    · dsimp only
      split
      · exact h
      · exact h.setRefunds

theorem State.HoldSteady.entryAnswered {e : OutEntry} {p : Payload} : s₀.HoldSteady (entryAnswered e p s) :=
  h.setOutbound.raiseNotice

theorem State.HoldSteady.tryEntry {e : OutEntry} {b : Bool} : s₀.HoldSteady (tryEntry e b s) := by
  unfold Machine.tryEntry
  dsimp only
  split
  · split
    · exact h.setSettle.handOwn
    · exact h.answerRelease.entryAnswered
  · exact h.setSettle.askExchange

theorem State.HoldSteady.roundStep {l : List EntryKey} : s₀.HoldSteady (roundStep l s) := by
  induction l generalizing s with
  | nil => exact h.setSettle
  | cons k rest ih =>
    unfold Machine.roundStep
    split
    · exact ih h
    · dsimp only
      split
      · exact h.setSettle.tryEntry
      · exact ih h.setSettle.tryEntry

theorem State.HoldSteady.heardStep {fuel : Nat} : s₀.HoldSteady (heardStep fuel s) := by
  induction fuel generalizing s with
  | zero => exact h
  | succ fuel ih =>
    unfold Machine.heardStep
    split
    · exact h.setSettle
    · dsimp only
      split
      · exact h.setSettle.tryEntry
      · exact ih h.setSettle.tryEntry

theorem State.HoldSteady.beginRound : s₀.HoldSteady (beginRound s) := h.setSettle.roundStep

theorem State.HoldSteady.pumpSettlement : s₀.HoldSteady (pumpSettlement s) := by
  have round : s₀.HoldSteady (match s.settle.round with
      | some rest => Machine.roundStep rest s
      | none => s) := by
    split
    · exact h.roundStep
    · exact h
  unfold Machine.pumpSettlement
  dsimp only
  split_ifs
  · exact h.setSettle
  · exact h
  · exact round
  · exact round.beginRound
  · exact round.heardStep

theorem State.HoldSteady.tryOutcome {o : ExchangeOutcome} : s₀.HoldSteady (tryOutcome o s) := by
  unfold Machine.tryOutcome
  split
  · exact h
  · refine State.HoldSteady.pumpSettlement ?_
    dsimp only
    split
    · exact h.setSettle.entryAnswered
    · split
      · exact h.setSettle.setSettle
      · exact h.setSettle
    · exact h.setSettle

theorem State.HoldSteady.settlementHears {station : Nat} : s₀.HoldSteady (settlementHears station s) := by
  unfold Machine.settlementHears
  split
  · exact h
  · split
    · exact h
    · split
      · exact h.tryEntry
      · exact h.setSettle

/-! #### The card controller's exchanges and escrows -/

theorem State.HoldSteady.freeCardPlace : s₀.HoldSteady (freeCardPlace s) := h.setSettle
theorem State.HoldSteady.endResolving : s₀.HoldSteady (endResolving s) := h.setCard.freeCardPlace

theorem State.HoldSteady.escrowUnresolved {r : Reason} : s₀.HoldSteady (escrowUnresolved r s) := by
  unfold Machine.escrowUnresolved
  split
  · exact h.raiseNotice
  · exact h

theorem State.HoldSteady.queueRelease {station serial tag : Nat} :
    s₀.HoldSteady (queueRelease station serial tag s) := h.freeCardPlace.addOutbound

theorem State.HoldSteady.removeStale {i : PurseImage} : s₀.HoldSteady (removeStale i s) := by
  unfold Machine.removeStale
  split
  · exact h.setRefunds
  · exact h

theorem State.HoldSteady.cardExchangeEnds {e : CardExchange} {o : ExchangeOutcome} :
    s₀.HoldSteady (cardExchangeEnds e o s) := by
  match e with
  | .release _ _ _ =>
    cases o with
    | answer => exact h.freeCardPlace
    | noAnswer => exact h.queueRelease
    | noLine => exact h.queueRelease
  | .query _ _ _ false => exact h.freeCardPlace
  | .query _ _ _ true =>
    simp only [Machine.cardExchangeEnds]
    split
    · split_ifs
      · split
        · split_ifs
          · exact h.startWrite
          · exact h.escrowUnresolved.endResolving
          · exact h.endResolving
        · exact h.endResolving
      · exact h.escrowUnresolved.endResolving
      · exact h.escrowUnresolved.endResolving
    all_goals exact h.escrowUnresolved.endResolving

theorem State.HoldSteady.handCardExchanges {l : List CardExchange} :
    s₀.HoldSteady (handCardExchanges l s) := by
  induction l generalizing s with
  | nil => exact h
  | cons e rest ih =>
    have taken : s₀.HoldSteady (s.setCard { s.card with waiting := rest }) := h.setCard
    unfold Machine.handCardExchanges
    dsimp only
    split_ifs
    · exact h
    · exact taken.setCard.askExchange
    · exact ih taken.cardExchangeEnds

theorem State.HoldSteady.pumpCard : s₀.HoldSteady (pumpCard s) := h.handCardExchanges
theorem State.HoldSteady.askCard {e : CardExchange} : s₀.HoldSteady (askCard e s) :=
  h.setCard.pumpCard

theorem State.HoldSteady.cardOutcome {o : ExchangeOutcome} : s₀.HoldSteady (cardOutcome o s) := by
  unfold Machine.cardOutcome
  split
  · exact h
  · exact h.setCard.cardExchangeEnds.pumpCard

theorem State.HoldSteady.settleFromList {i : PurseImage} : s₀.HoldSteady (settleFromList i s) := by
  unfold Machine.settleFromList
  split
  · exact h.escrowUnresolved
  · split
    · exact h.escrowUnresolved
    · split
      · exact h.startWrite
      · exact h

theorem State.HoldSteady.resolveEscrow {k : Nat} {i : PurseImage} : s₀.HoldSteady (resolveEscrow k i s) := by
  unfold Machine.resolveEscrow
  dsimp only
  split_ifs
  · exact h.escrowUnresolved
  · exact h.escrowUnresolved
  · exact h.escrowUnresolved
  · exact h.setSettle.setCard.askCard

theorem State.HoldSteady.lookAtEscrow {i : PurseImage} : s₀.HoldSteady (lookAtEscrow i s) := by
  unfold Machine.lookAtEscrow
  split_ifs
  · exact h
  · exact h.settleFromList
  · split
    · exact h.resolveEscrow
    · exact h

/-! #### Readings, writes and removals -/

theorem State.HoldSteady.sendCard {r : CardRequest} : s₀.HoldSteady (sendCard r s) := h.setCard
theorem State.HoldSteady.beginReading : s₀.HoldSteady (beginReading s) := h.setCard.sendCard
theorem State.HoldSteady.rejectCard {r : Reason} : s₀.HoldSteady (rejectCard r s) :=
  h.setCard.raiseNotice.interruptedNoCard
theorem State.HoldSteady.readyAccountCard {id : CardIdentity} : s₀.HoldSteady (readyAccountCard id s) :=
  h.setCard.raiseNotice.interruptedNoCard

theorem State.HoldSteady.readyPurseCard {i : PurseImage} : s₀.HoldSteady (readyPurseCard i s) := by
  unfold Machine.readyPurseCard
  dsimp only
  split
  · exact h.setCard.raiseNotice.removeStale.interruptedCard
  · exact h.setCard.raiseNotice.removeStale.interruptedCard.lookAtEscrow

theorem State.HoldSteady.judgeIdentity {bytes : List Byte} : s₀.HoldSteady (judgeIdentity bytes s) := by
  unfold Machine.judgeIdentity
  split
  · exact h.rejectCard
  · split
    · exact h.setCard.rejectCard
    · dsimp only
      split_ifs
      · exact h.setCard.rejectCard
      · exact h.setCard.rejectCard
      · split
        · exact h.setCard.readyAccountCard
        · exact h.setCard.setCard.sendCard

theorem State.HoldSteady.judgeSlots {a b : List Byte} : s₀.HoldSteady (judgeSlots a b s) := by
  unfold Machine.judgeSlots
  split
  · split
    · exact h.rejectCard
    · exact h.readyPurseCard
  · exact h.rejectCard

theorem State.HoldSteady.readAnswered {bytes : List Byte} : s₀.HoldSteady (readAnswered bytes s) := by
  unfold Machine.readAnswered
  split
  · exact h.rejectCard
  · split
    · exact h.judgeIdentity
    · exact h.setCard.sendCard
    · exact h.judgeSlots
    · exact h

theorem State.HoldSteady.takeWrite {w : CardWrite} : s₀.HoldSteady (takeWrite w s) := h.setCard

theorem State.HoldSteady.writeCompleted {w : CardWrite} : s₀.HoldSteady (writeCompleted w s) := by
  unfold Machine.writeCompleted
  split
  · exact h.moveCompleted
  · exact h.settlementWritten
  · exact h.removeRefund.raiseNotice
  · exact h.setCard.raiseNotice.askCard
  · dsimp only
    split
    · exact h.complete.removeStale
    · exact h.complete

theorem State.HoldSteady.writeUncertain {w : CardWrite} : s₀.HoldSteady (writeUncertain w s) := by
  unfold Machine.writeUncertain
  split
  · exact h.moveUncertain
  · exact h.settleByRefund
  · exact h
  · exact h.freeCardPlace
  · exact h.complete

theorem State.HoldSteady.cardSilent : s₀.HoldSteady (cardSilent s) := by
  unfold Machine.cardSilent
  split
  · exact h.beginReading.writeUncertain
  · exact h.rejectCard

theorem State.HoldSteady.removeCard : s₀.HoldSteady (removeCard s) := by
  have told {x : State} (hx : s₀.HoldSteady x) : s₀.HoldSteady (match s.card.state with
      | .reading _ => Machine.interruptedNoCard x
      | _ => match s.card.writing with
        | some w => Machine.writeUncertain w x
        | none => x) := by
    split
    · exact hx.interruptedNoCard
    · split
      · exact hx.writeUncertain
      · exact hx
  unfold Machine.removeCard
  dsimp only
  split
  · exact (told h.setCard.raiseNotice).openingCardRemoved
  · exact told h.setCard.raiseNotice

/-! #### The line -/

theorem State.HoldSteady.exchangeEnds {o : ExchangeOutcome} {e : Exchange} :
    s₀.HoldSteady (exchangeEnds o s e) := by
  unfold Machine.exchangeEnds
  split
  · exact h.jobOutcome
  · exact h.cardOutcome
  · exact h.tryOutcome

theorem State.HoldSteady.exchangesEnd {o : ExchangeOutcome} {l : List Exchange} :
    s₀.HoldSteady (l.foldl (Machine.exchangeEnds o) s) := by
  induction l generalizing s with
  | nil => exact h
  | cons e rest ih => exact ih h.exchangeEnds

theorem State.HoldSteady.endExchange {o : ExchangeOutcome} : s₀.HoldSteady (endExchange o s) := by
  unfold Machine.endExchange
  split
  · exact h
  · exact h.setLine.emptyPlace.exchangeEnds

theorem State.HoldSteady.readyRequest {e : Exchange} : s₀.HoldSteady (readyRequest e s) :=
  h.setLine.emptyPlace.readyFrame

theorem State.HoldSteady.attemptFails : s₀.HoldSteady (attemptFails s) := by
  unfold Machine.attemptFails
  split
  · exact h
  · split
    · exact h.readyRequest
    · exact h.markPresence.endExchange

theorem State.HoldSteady.startExchange : s₀.HoldSteady (startExchange s) := by
  unfold Machine.startExchange
  split
  · exact h.setLine.readyRequest
  · exact h

theorem State.HoldSteady.takeAnswer {f : Frame} : s₀.HoldSteady (takeAnswer f s) := by
  unfold Machine.takeAnswer
  split
  · split
    · exact h.endExchange
    · exact h
  · exact h

theorem State.HoldSteady.queueRequest {f : Frame} : s₀.HoldSteady (queueRequest f s) := by
  unfold Machine.queueRequest
  split
  · exact h.setAccounts
  · exact h

theorem State.HoldSteady.answerAsCard {answer : State → State × Payload} (ha : s₀.HoldSteady (answer s).1)
    {f : Frame} : s₀.HoldSteady (answerAsCard answer f s) := by
  unfold Machine.answerAsCard
  dsimp only
  split
  · exact h
  · exact ha.readyFrame

theorem State.HoldSteady.updateRoster {station : Nat} {home : Option HomeRange} :
    s₀.HoldSteady (updateRoster station home s) := by
  unfold Machine.updateRoster
  dsimp only
  split
  · exact h.setLine
  · exact h.setLine.raiseNotice

theorem State.HoldSteady.callAnswerRoll : s₀.HoldSteady (callAnswerRoll s) := by
  unfold Machine.callAnswerRoll
  split
  · exact h
  · exact h.setLine

theorem State.HoldSteady.takeRoll {known : Bool} {f : Frame} {p : RollFields} :
    s₀.HoldSteady (takeRoll known f p s) := by
  unfold Machine.takeRoll
  dsimp only
  split
  · exact h.updateRoster.callAnswerRoll
  · exact h.updateRoster

theorem State.HoldSteady.enterConflict {f : Frame} : s₀.HoldSteady (enterConflict f s) :=
  h.setLine.setSettle.exchangesEnd.setAccounts.raiseNotice

theorem State.HoldSteady.lineGoesIdle : s₀.HoldSteady (lineGoesIdle s) := by
  unfold Machine.lineGoesIdle
  split
  · exact h
  · exact h.setLine

theorem State.HoldSteady.noteHeard {station : Nat} : s₀.HoldSteady (noteHeard station s) :=
  h.markPresence.settlementHears

/-- A frame heard leaves the holds alone, given that what its kind does does. -/
theorem State.HoldSteady.hearFrame {act : State → State}
    (hact : ∀ x : State, s₀.HoldSteady x → s₀.HoldSteady (act x)) {f : Frame} :
    s₀.HoldSteady (hearFrame f act s) := by
  unfold Machine.hearFrame
  dsimp only
  split_ifs
  · exact h
  · exact h.lineGoesIdle
  · exact h.lineGoesIdle.enterConflict
  · exact hact _ h.lineGoesIdle.noteHeard
  · exact h.lineGoesIdle.noteHeard

theorem State.HoldSteady.hearByKind {f : Frame} : s₀.HoldSteady (hearByKind f s) := by
  unfold Machine.hearByKind
  split <;> refine h.hearFrame fun x hx => ?_
  case h_1 => exact hx.takeRoll
  case h_2 | h_3 | h_4 => exact hx.queueRequest
  case h_5 | h_6 | h_8 | h_10 => exact hx.takeAnswer
  case h_7 => exact hx.answerAsCard hx.answerQuery
  case h_9 => exact hx.answerAsCard hx.answerRelease

theorem State.HoldSteady.sendStarts {idle : Nat} : s₀.HoldSteady (sendStarts idle s) := by
  unfold Machine.sendStarts
  dsimp only
  split
  · exact h
  · split
    · split <;> exact h.setLine
    · exact h.setLine

theorem State.HoldSteady.frameSentWhole : s₀.HoldSteady (frameSentWhole s) := by
  unfold Machine.frameSentWhole
  split
  · exact h
  · dsimp only
    split
    · exact h.setLine.emptyPlace.setLine
    · split
      · exact h.setLine.emptyPlace.setLine
      · exact h.setLine.emptyPlace
    · exact h.setLine.emptyPlace

theorem State.HoldSteady.collide : s₀.HoldSteady (collide s) := by
  unfold Machine.collide
  split
  · exact h
  · split
    · exact h.setLine
    · dsimp only
      split
      · exact h.emptyPlace.attemptFails
      · split
        · exact h.emptyPlace.readyFrame
        · exact h.emptyPlace
      · exact h.emptyPlace

theorem State.HoldSteady.becomeMember : s₀.HoldSteady (becomeMember s) := h.setLine.setSettle.pumpSettlement

theorem State.HoldSteady.answerRoll : s₀.HoldSteady (answerRoll s) := by
  unfold Machine.answerRoll
  dsimp only
  split
  · exact h.setLine
  · exact h.setLine.readyFrame

theorem State.HoldSteady.lineGoesBusy : s₀.HoldSteady (lineGoesBusy s) := by
  unfold Machine.lineGoesBusy
  split
  · exact h
  · exact h.setLine

end

end Sys2Proof.Machine
end

section
/-! ### The path monitor and the answers of the account unit leave the holds alone -/

namespace Sys2Proof.Machine

section
variable {s₀ s : State} (h : s₀.HoldSteady s)
include h

/-! #### Edges, jams and purges -/

theorem State.HoldSteady.clearOnEntry : s₀.HoldSteady (clearOnEntry s) := by
  unfold Machine.clearOnEntry
  split
  · exact h.raiseNotice
  · exact h

theorem State.HoldSteady.clearAfterEdge {b : Bool} {t : TimePoint} : s₀.HoldSteady (clearAfterEdge b t s) := by
  unfold Machine.clearAfterEdge
  split
  · exact h.raiseNotice
  · exact h

theorem State.HoldSteady.declareJam {kind : JamKind} {place : JamPlace} {named : Option SheetRecord} :
    s₀.HoldSteady (declareJam kind place named s) := by
  have emptied : s₀.HoldSteady ((Machine.enterPath .fault s).setPath
      { (Machine.enterPath .fault s).path with queue := [] }) :=
    h.enterPath.setPath
  exact emptied.loseSheets.setPath.addMeters.raiseNotice.faultJob.clearOnEntry

theorem State.HoldSteady.matchLeading {x : PathSensor} {t : TimePoint} :
    s₀.HoldSteady (matchLeading x t s) := by
  unfold Machine.matchLeading
  dsimp only
  split
  · exact h.setPath
  · split
    · exact h.declareJam
    · split <;> exact h.declareJam

theorem State.HoldSteady.moveOn {x : PathSensor} {r : SheetRecord} : s₀.HoldSteady (moveOn x r s) := by
  unfold Machine.moveOn
  split
  · exact h.setPath
  · exact h.setPath.deliver

theorem State.HoldSteady.matchTrailing {x : PathSensor} {t : TimePoint} :
    s₀.HoldSteady (matchTrailing x t s) := by
  unfold Machine.matchTrailing
  split
  · exact h.declareJam
  · split_ifs
    · exact h.declareJam
    · exact h.declareJam
    · exact h.moveOn

theorem State.HoldSteady.takeSensorEdge {x : PathSensor} {t : TimePoint}
    {matched : PathSensor → TimePoint → State → State}
    (hm : ∀ y : State, s₀.HoldSteady y → s₀.HoldSteady (matched x t y)) :
    s₀.HoldSteady (takeSensorEdge x t matched s) := by
  have flipped := h.setPath (p := { s.path with filters := s.path.filters.set x (s.path.filters.get x).flip })
  unfold Machine.takeSensorEdge
  dsimp only
  split
  · exact hm _ flipped
  · exact flipped.clearAfterEdge

theorem State.HoldSteady.takeDoorEdge {opening : Bool} {t : TimePoint} :
    s₀.HoldSteady (takeDoorEdge opening t s) := by
  have flipped := h.setPath
    (p := { s.path with filters := { s.path.filters with door := s.path.filters.door.flip } })
  unfold Machine.takeDoorEdge
  dsimp only
  split
  · split
    · exact flipped.declareJam
    · exact flipped
  · exact flipped.clearAfterEdge

theorem State.HoldSteady.deadlineJam {r : SheetRecord} : s₀.HoldSteady (deadlineJam r s) := by
  unfold Machine.deadlineJam
  split
  · exact h.declareJam
  · exact h

theorem State.HoldSteady.judgePurge : s₀.HoldSteady (judgePurge s) := by
  have settled := h.setPath (p := { s.path with filters := s.path.filters.settled, settling := none })
  unfold Machine.judgePurge
  dsimp only
  split
  · exact settled.enterPath.clearOnEntry.complete
  · split
    · exact settled.setPath.enterPath.complete
    · exact settled.setPath.enterPath.raiseNotice.complete

theorem State.HoldSteady.samplePath {l : Levels} {d : DoorReading} : s₀.HoldSteady (samplePath l d s) :=
  h.setPath

theorem State.HoldSteady.samplePresence {p : Presence} : s₀.HoldSteady (samplePresence p s) :=
  h.setCard

/-! #### The account unit -/

theorem State.HoldSteady.releaseAnswer {x : InHand} : s₀.HoldSteady (releaseAnswer x s) := by
  unfold Machine.releaseAnswer
  split
  · split
    · exact h.readyFrame
    · exact h
  · exact h.jobOutcome
  · exact h.tryOutcome

theorem State.HoldSteady.requestWritten : s₀.HoldSteady (requestWritten s) := by
  unfold Machine.requestWritten
  split
  · exact h
  · split
    · exact h.setAccounts.releaseAnswer
    · exact h.setAccounts

end

end Sys2Proof.Machine
end

section
/-! ### Every command of the catalogue but RESTART leaves the holds alone -/

namespace Sys2Proof.Machine

section
variable {s₀ s : State} (h : s₀.HoldSteady s) {ps : List Byte}
include h

/-! #### The engine's commands -/

theorem State.HoldSteady.setOptions : s₀.HoldSteady (setOptions ps s) := by
  unfold Machine.setOptions
  split
  · exact h.complete
  · split
    · exact h.submitAndAnswer
    · exact h.complete

theorem State.HoldSteady.loadTariff : s₀.HoldSteady (loadTariff ps s) := by
  unfold Machine.loadTariff
  split
  · exact h.complete
  · split
    · exact h.complete
    · split
      · exact h.setTariff.submitAndAnswer
      · exact h.complete

theorem State.HoldSteady.loadProfile : s₀.HoldSteady (loadProfile ps s) := by
  unfold Machine.loadProfile
  split_ifs
  · exact h.complete
  · exact h.complete
  · split
    · exact h.complete
    · split
      · exact h.setPath.submitAndAnswer
      · exact h.complete

theorem State.HoldSteady.openOnCard : s₀.HoldSteady (openOnCard s) := by
  unfold Machine.openOnCard
  split
  · exact h.complete
  · exact h.complete
  · exact h.complete
  · split
    · split
      · exact h.openPurse
      · exact h.openAccount
    · split
      · exact h.openAccount
      · exact h.complete
    · exact h.complete

theorem State.HoldSteady.openJob : s₀.HoldSteady (openJob ps s) := by
  unfold Machine.openJob
  split
  · exact h.complete
  · split
    · exact h.complete
    · exact h.openOnCard
    · split
      · exact h.complete
      · exact h.openAccount

theorem State.HoldSteady.takeFeed : s₀.HoldSteady (Machine.feed ps s) := by
  unfold Machine.feed
  split
  · exact h.complete
  · exact h.complete
  · split
    · exact h.feedGate
    · exact h.complete
  · exact h.complete

theorem State.HoldSteady.closeJob : s₀.HoldSteady (closeJob s) := by
  unfold Machine.closeJob
  split
  · exact h.complete
  · exact h.complete
  · exact h.stopFeeding.complete

theorem State.HoldSteady.resumeJob : s₀.HoldSteady (resumeJob s) := by
  unfold Machine.resumeJob
  split
  · exact h.setCtx.enterPath
  · exact h.enterPath.enterSettling
  · exact h.enterPath

theorem State.HoldSteady.resume : s₀.HoldSteady (resume s) := by
  unfold Machine.resume
  dsimp only
  split_ifs
  · exact h.complete
  · exact h.complete
  · exact h.setPath.resumeJob.complete

theorem State.HoldSteady.purgeStart : s₀.HoldSteady (purgeStart s) := by
  unfold Machine.purgeStart
  split_ifs
  · exact h.complete
  · exact h.complete
  · exact h.enterPath.complete

theorem State.HoldSteady.purgeEnd : s₀.HoldSteady (purgeEnd s) := by
  unfold Machine.purgeEnd
  split
  · exact h.setPath
  · exact h.complete

theorem State.HoldSteady.serviceClear : s₀.HoldSteady (serviceClear s) := by
  unfold Machine.serviceClear
  split_ifs
  · exact h.complete
  · exact h.complete
  · exact h.setPath.enterPath.clearOnEntry.complete

theorem State.HoldSteady.readMeters : s₀.HoldSteady (readMeters ps s) := by
  unfold Machine.readMeters
  split
  · exact h.complete
  · dsimp only
    split
    · exact h.setMeter.complete
    · exact h.complete

theorem State.HoldSteady.writeTable {a : Account} {v : Values} : s₀.HoldSteady (writeTable a v s) :=
  h.setAccounts.submitAndAnswer

theorem State.HoldSteady.accountAdd : s₀.HoldSteady (accountAdd ps s) := by
  unfold Machine.accountAdd
  split
  · exact h.complete
  · split_ifs
    · exact h.complete
    · exact h.complete
    · exact h.complete
    · exact h.complete
    · exact h.writeTable

theorem State.HoldSteady.accountCredit : s₀.HoldSteady (accountCredit ps s) := by
  unfold Machine.accountCredit
  split
  · exact h.complete
  · split
    · exact h.complete
    · split
      · exact h.complete
      · exact h.writeTable

theorem State.HoldSteady.accountSet : s₀.HoldSteady (accountSet ps s) := by
  unfold Machine.accountSet
  split
  · exact h.complete
  · split
    · exact h.complete
    · split
      · exact h.complete
      · split
        · exact h.complete
        · exact h.writeTable

theorem State.HoldSteady.accountRemove : s₀.HoldSteady (accountRemove ps s) := by
  unfold Machine.accountRemove
  split
  · exact h.complete
  · split
    · exact h.complete
    · split_ifs
      · exact h.complete
      · exact h.complete
      · exact h.setAccounts.submitAndAnswer

theorem State.HoldSteady.readAccount : s₀.HoldSteady (readAccount ps s) := by
  unfold Machine.readAccount
  split
  · exact h.complete
  · split <;> exact h.complete

theorem State.HoldSteady.listAccounts : s₀.HoldSteady (listAccounts ps s) := by
  unfold Machine.listAccounts
  split <;> exact h.complete

theorem State.HoldSteady.readStatement : s₀.HoldSteady (readStatement ps s) := by
  unfold Machine.readStatement
  split
  · exact h.complete
  · split
    · exact h.complete
    · split
      · exact h.complete
      · dsimp only
        split
        · exact h.setAccounts.complete
        · exact h.complete

theorem State.HoldSteady.discardRefund : s₀.HoldSteady (discardRefund ps s) := by
  unfold Machine.discardRefund
  split
  · exact h.complete
  · split
    · exact h.setCard.submitAndAnswer
    · exact h.complete

theorem State.HoldSteady.releaseOnImage {i : PurseImage} : s₀.HoldSteady (releaseOnImage i ps s) := by
  unfold Machine.releaseOnImage
  split_ifs
  · exact h.complete
  · exact h.complete
  · exact h.complete
  · split
    · exact h.complete
    · split
      · exact h.complete
      · split
        · exact h.startWrite
        · exact h.complete

theorem State.HoldSteady.releaseEscrow : s₀.HoldSteady (releaseEscrow ps s) := by
  unfold Machine.releaseEscrow
  split
  · exact h.complete
  · exact h.complete
  · exact h.complete
  · split
    · exact h.complete
    · exact h.releaseOnImage

/-- Every command of the catalogue but RESTART leaves the holds alone. -/
theorem State.HoldSteady.runCommand {o : Opcode} (ho : o ≠ .restart) {ps : List Byte} :
    s₀.HoldSteady (runCommand o ps s) := by
  cases o with
  | status => exact h.takeBare fun _ hx => hx.complete
  | readNotice => exact h.takeBare fun _ hx => hx.complete
  | setOptions => exact h.takeCommand fun _ hx => hx.setOptions
  | loadTariff => exact h.takeCommand fun _ hx => hx.loadTariff
  | loadProfile => exact h.takeCommand fun _ hx => hx.loadProfile
  | openJob => exact h.takeCommand fun _ hx => hx.openJob
  | feed => exact h.takeCommand fun _ hx => hx.takeFeed
  | closeJob => exact h.takeBare fun _ hx => hx.closeJob
  | readLost => exact h.takeBare fun _ hx => hx.complete
  | resume => exact h.takeBare fun _ hx => hx.resume
  | purgeStart => exact h.takeBare fun _ hx => hx.purgeStart
  | purgeEnd => exact h.takeBare fun _ hx => hx.purgeEnd
  | serviceClear => exact h.takeBare fun _ hx => hx.serviceClear
  | readMeters => exact h.takeCommand fun _ hx => hx.readMeters
  | readRoster => exact h.takeBare fun _ hx => hx.complete
  | accountAdd => exact h.takeCommand fun _ hx => hx.accountAdd
  | accountCredit => exact h.takeCommand fun _ hx => hx.accountCredit
  | accountSet => exact h.takeCommand fun _ hx => hx.accountSet
  | accountRemove => exact h.takeCommand fun _ hx => hx.accountRemove
  | readAccount => exact h.takeCommand fun _ hx => hx.readAccount
  | listAccounts => exact h.takeCommand fun _ hx => hx.listAccounts
  | readStatement => exact h.takeCommand fun _ hx => hx.readStatement
  | readRefunds => exact h.takeBare fun _ hx => hx.complete
  | discardRefund => exact h.takeCommand fun _ hx => hx.discardRefund
  | releaseEscrow => exact h.takeCommand fun _ hx => hx.releaseEscrow
  | restart => exact (ho rfl).elim

theorem State.HoldSteady.answerAtOnce {r : Reason} : s₀.HoldSteady (answerAtOnce r s) := by
  unfold Machine.answerAtOnce
  split
  · exact h.countRefused
  · exact h.discardResult.placeResult


/-! #### Read transactions -/

theorem State.HoldSteady.commitMeters : s₀.HoldSteady (commitMeters s) := by
  unfold Machine.commitMeters
  split
  · exact h
  · exact h.setMeter.noteMeters

theorem State.HoldSteady.commitStatement : s₀.HoldSteady (commitStatement s) := by
  unfold Machine.commitStatement
  split
  · exact h
  · dsimp only
    split
    · exact (h.setAccounts.setAccounts (by rfl)).submit
    · exact h.setAccounts

theorem State.HoldSteady.commitResult {r : Result} : s₀.HoldSteady (commitResult r s) := by
  unfold Machine.commitResult
  dsimp only
  split
  · exact h.setPort.commitMeters
  · exact h.setPort.commitStatement
  · exact h.setPort.setPort
  · exact h.setPort

theorem State.HoldSteady.readReply {clocked : Nat} : s₀.HoldSteady (readReply clocked s) := by
  unfold Machine.readReply
  dsimp only
  split
  · split
    · exact h.setPort.commitResult
    · exact h.setPort
  · exact h.setPort

/-! #### Events and time -/

theorem State.HoldSteady.insertCard : s₀.HoldSteady (insertCard s) := by
  unfold Machine.insertCard
  dsimp only
  split
  · exact h.setCard.beginReading
  · exact h.setCard

theorem State.HoldSteady.takeRemoval : s₀.HoldSteady (takeRemoval s) := by
  unfold Machine.takeRemoval
  dsimp only
  split
  · exact h.setCard
  · exact h.setCard.removeCard

theorem State.HoldSteady.writeAcknowledged : s₀.HoldSteady (writeAcknowledged s) := by
  unfold Machine.writeAcknowledged
  split
  · exact h.takeWrite.writeCompleted
  · exact h

theorem State.HoldSteady.postPeriodically : s₀.HoldSteady (postPeriodically s) := by
  unfold Machine.postPeriodically
  dsimp only
  split
  · exact h.setJob
  · exact h.setJob.askJob

theorem State.HoldSteady.idle : s₀.HoldSteady (idle s) := by
  unfold Machine.idle
  split
  · split
    · exact h.count.setCtx
    · exact h.setPending
  · exact h

end

end Sys2Proof.Machine
end

section
/-! ## The law of holds (R127): pools and stored records -/

namespace Sys2Proof.Machine

/-! ### Lawful lists of holds -/

/-- What the law of a list of holds reads of a record. -/
def Hold.key (h : Hold) : HoldId × Nat × HoldState := (h.hold, h.place, h.state)

@[simp] theorem Hold.stored_key (h : Hold) : h.stored.key = h.key := rfl
@[simp] theorem Hold.stored_place (h : Hold) : h.stored.place = h.place := rfl
@[simp] theorem Hold.stored_expiry (h : Hold) : h.stored.expiry = none := rfl

theorem Hold.stored_of_expiry {h : Hold} (e : h.expiry = none) : h.stored = h := by
  cases h; cases e; rfl

theorem activeCount_eq_countP (l : List Hold) :
    activeCount l = (l.map Hold.key).countP fun k => k.2.2 == .active := by
  rw [activeCount, ← List.countP_eq_length_filter, List.countP_map]
  rfl

/-- The law reads the keys of the records alone, in any order. -/
theorem HoldsLawful.of_perm {l m : List Hold} (h : HoldsLawful l) (p : (l.map Hold.key).Perm (m.map Hold.key)) :
    HoldsLawful m where
  once := by
    have ids := p.map Prod.fst
    simp only [List.map_map] at ids
    exact ids.nodup_iff.mp h.once
  places := by
    have places := p.map fun k => k.2.1
    simp only [List.map_map] at places
    exact places.nodup_iff.mp h.places
  within := fun x hx => by
    obtain ⟨y, hy, e⟩ := List.mem_map.mp (p.mem_iff.mpr (List.mem_map_of_mem hx))
    have : y.place = x.place := congrArg (fun k => k.2.1) e
    exact this ▸ h.within y hy
  active := by
    rw [activeCount_eq_countP, ← p.countP_eq, ← activeCount_eq_countP]
    exact h.active

theorem HoldsLawful.sublist {l m : List Hold} (h : HoldsLawful l) (p : m.Sublist l) : HoldsLawful m where
  once := h.once.sublist (p.map _)
  places := h.places.sublist (p.map _)
  within := fun x hx => h.within x (p.subset hx)
  active := (p.filter _).length_le.trans h.active

theorem HoldsLawful.nil : HoldsLawful [] := ⟨.nil, .nil, nofun, Nat.zero_le _⟩

/-- Places of their own among 48 leave room for no more records (R127). -/
theorem HoldsLawful.length_le {l : List Hold} (h : HoldsLawful l) : l.length ≤ 48 := by
  have inRange : l.map Hold.place ⊆ List.range 48 := fun p hp => by
    obtain ⟨x, hx, rfl⟩ := List.mem_map.mp hp
    exact List.mem_range.mpr (h.within x hx)
  simpa using (h.places.subperm inRange).length_le

/-- A record under a hold id and a place of its own joins the pool, where an ACTIVE one finds fewer than 47. -/
theorem HoldsLawful.append {l : List Hold} (h : HoldsLawful l) {x : Hold} (id : ∀ y ∈ l, y.hold ≠ x.hold)
    (place : ∀ y ∈ l, y.place ≠ x.place) (within : x.place < 48) (room : x.state = .active → activeCount l < 47) :
    HoldsLawful (l ++ [x]) where
  once := by
    rw [List.map_append]
    exact h.once.append (List.nodup_singleton _) (by simpa using id)
  places := by
    rw [List.map_append]
    exact h.places.append (List.nodup_singleton _) (by simpa using place)
  within := by
    simp only [List.mem_append, List.mem_singleton]
    rintro y (hy | rfl)
    · exact h.within y hy
    · exact within
  active := by
    have := h.active
    unfold activeCount at room ⊢
    rw [List.filter_append, List.length_append]
    by_cases e : x.state = .active
    · have := room e; simp [e]; omega
    · simpa [e, activeCount] using this

/-- Two records of a lawful list under one hold id are the same. -/
theorem HoldsLawful.eq_of_hold {l : List Hold} (h : HoldsLawful l) {x y : Hold} (hx : x ∈ l) (hy : y ∈ l)
    (e : x.hold = y.hold) : x = y := List.inj_on_of_nodup_map h.once hx hy e

theorem HoldsLawful.eq_of_place {l : List Hold} (h : HoldsLawful l) {x y : Hold} (hx : x ∈ l) (hy : y ∈ l)
    (e : x.place = y.place) : x = y := List.inj_on_of_nodup_map h.places hx hy e

/-- In a lawful list the other hold ids are those at the other places. -/
theorem HoldsLawful.hold_ne_iff {l : List Hold} (h : HoldsLawful l) {x y : Hold} (hx : x ∈ l) (hy : y ∈ l) :
    x.hold ≠ y.hold ↔ x.place ≠ y.place :=
  not_congr ⟨fun e => h.eq_of_hold hx hy e ▸ rfl, fun e => h.eq_of_place hx hy e ▸ rfl⟩

/-! ### Records at their places -/

theorem mem_putSorted_iff {α : Type} (key : α → Nat) (a b : α) {l : List α} (hl : (l.map key).Pairwise (· < ·)) :
    b ∈ putSorted key a l ↔ b = a ∨ (b ∈ l ∧ key b ≠ key a) := by
  induction l with
  | nil => simp [putSorted]
  | cons x rest ih =>
    rw [List.map_cons, List.pairwise_cons] at hl
    obtain ⟨first, hrest⟩ := hl
    have above (y : α) (hy : y ∈ rest) : key x < key y := first _ (List.mem_map_of_mem hy)
    have others (hne : ∀ y ∈ x :: rest, key y ≠ key a) :
        b = a ∨ b ∈ x :: rest ↔ b = a ∨ (b ∈ x :: rest ∧ key b ≠ key a) :=
      or_congr_right ⟨fun hb => ⟨hb, hne b hb⟩, fun hb => hb.1⟩
    unfold putSorted
    split_ifs with lt eq
    · rw [List.mem_cons]
      refine others fun y hy => ?_
      rcases List.mem_cons.mp hy with rfl | hy
      · omega
      · have := above y hy; omega
    · rw [List.mem_cons]
      refine or_congr_right ⟨fun hb => ⟨List.mem_cons_of_mem _ hb, ?_⟩, fun ⟨hb, ne⟩ => ?_⟩
      · have := above b hb; omega
      · exact (List.mem_cons.mp hb).resolve_left fun e => ne (e ▸ eq.symm)
    · rw [List.mem_cons, ih hrest, List.mem_cons]
      constructor
      · rintro (rfl | rfl | ⟨hb, ne⟩)
        · exact .inr ⟨.inl rfl, fun e => eq e.symm⟩
        · exact .inl rfl
        · exact .inr ⟨.inr hb, ne⟩
      · rintro (rfl | ⟨rfl | hb, ne⟩)
        · exact .inr (.inl rfl)
        · exact .inl rfl
        · exact .inr (.inr ⟨hb, ne⟩)

theorem putSorted_sorted {α : Type} (key : α → Nat) (a : α) {l : List α} (hl : (l.map key).Pairwise (· < ·)) :
    ((putSorted key a l).map key).Pairwise (· < ·) := by
  induction l with
  | nil => simp [putSorted]
  | cons x rest ih =>
    have hl' := hl
    rw [List.map_cons, List.pairwise_cons] at hl
    obtain ⟨first, hrest⟩ := hl
    unfold putSorted
    split_ifs with lt eq
    · rw [List.map_cons, List.pairwise_cons]
      refine ⟨fun k hk => ?_, hl'⟩
      rcases List.mem_cons.mp hk with rfl | hk
      · exact lt
      · exact lt.trans (first k hk)
    · rw [List.map_cons, eq]
      exact hl'
    · rw [List.map_cons, List.pairwise_cons]
      refine ⟨fun k hk => ?_, ih hrest⟩
      obtain ⟨y, hy, rfl⟩ := List.mem_map.mp hk
      rcases mem_putSorted key a y rest hy with rfl | hy
      · omega
      · exact first _ (List.mem_map_of_mem hy)

theorem dropKey_sorted {α : Type} (key : α → Nat) (k : Nat) {l : List α} (hl : (l.map key).Pairwise (· < ·)) :
    ((dropKey key k l).map key).Pairwise (· < ·) :=
  hl.sublist (List.filter_sublist.map _)

/-- The records of a pool as the store keeps them: in the order of their places, without their expiries (R125). -/
structure RecordsOf (pool l : List Hold) : Prop where
  sorted : (l.map Hold.place).Pairwise (· < ·)
  mem : ∀ h, h ∈ l ↔ ∃ x ∈ pool, h = x.stored

theorem RecordsOf.expiry {pool l : List Hold} (r : RecordsOf pool l) : ∀ h ∈ l, h.expiry = none := fun h hh => by
  obtain ⟨x, _, rfl⟩ := (r.mem h).mp hh
  rfl

/-- The records of a lawful pool are lawful. -/
theorem RecordsOf.lawful {pool l : List Hold} (r : RecordsOf pool l) (h : HoldsLawful pool) : HoldsLawful l := by
  refine h.of_perm ?_
  have stored : (pool.map Hold.stored).Perm l := by
    refine (List.perm_ext_iff_of_nodup (List.Nodup.of_map Hold.place ?_) (List.Nodup.of_map Hold.place ?_)).mpr fun x => ?_
    · rw [List.map_map]; exact h.places
    · exact r.sorted.imp ne_of_lt
    · rw [r.mem, List.mem_map]
      exact exists_congr fun y => and_congr_right fun _ => eq_comm
  have keys := stored.map Hold.key
  rwa [List.map_map] at keys

/-- The pool `m` is the pool `l` with this record, or none, at the place `p`. -/
def ReplacedAt (p : Nat) (r : Option Hold) (l m : List Hold) : Prop :=
  (∀ h ∈ r, h.place = p) ∧ ∀ x, x ∈ m ↔ x ∈ r ∨ (x ∈ l ∧ x.place ≠ p)

/-- The write of a record, or of a free place, takes the records of the pool to those of the pool with that change. -/
theorem RecordsOf.put {pool pool' l : List Hold} (k : RecordsOf pool l) {p : Nat} {r : Option Hold}
    (c : ReplacedAt p r pool pool') : RecordsOf pool' (putHold p (r.map Hold.stored) l) := by
  obtain ⟨place, mem⟩ := c
  have others (h : Hold) : (h ∈ l ∧ h.place ≠ p) ↔ ∃ x ∈ pool, x.place ≠ p ∧ h = x.stored := by
    rw [k.mem]
    constructor
    · rintro ⟨⟨x, hx, rfl⟩, hp⟩
      exact ⟨x, hx, hp, rfl⟩
    · rintro ⟨x, hx, hp, rfl⟩
      exact ⟨⟨x, hx, rfl⟩, hp⟩
  cases r with
  | none =>
    refine ⟨dropKey_sorted _ _ k.sorted, fun h => ?_⟩
    have dropped : h ∈ putHold p none l ↔ h ∈ l ∧ h.place ≠ p := by simp [putHold, dropKey]
    rw [Option.map_none, dropped, others]
    simp [mem, and_assoc]
  | some h₁ =>
    have at_p : h₁.place = p := place h₁ rfl
    refine ⟨putSorted_sorted _ _ k.sorted, fun h => ?_⟩
    rw [Option.map_some]
    rw [show putHold p (some h₁.stored) l = putSorted Hold.place h₁.stored l from rfl,
      mem_putSorted_iff _ _ _ k.sorted, Hold.stored_place, at_p, others]
    simp only [mem, Option.mem_some_iff, or_and_right, exists_or, exists_eq_left', and_assoc]

end Sys2Proof.Machine
end

section
/-! ### The store keeps the pool (R127, R181, R182) -/

namespace Sys2Proof.Machine

/-- Hold records as a start may find them: lawful, in the order of their places, without expiries. -/
def StoredHolds (l : List Hold) : Prop :=
  HoldsLawful l ∧ (l.map Hold.place).Pairwise (· < ·) ∧ ∀ h ∈ l, h.expiry = none

theorem RecordsOf.storedHolds {pool l : List Hold} (r : RecordsOf pool l) (h : HoldsLawful pool) : StoredHolds l :=
  ⟨r.lawful h, r.sorted, r.expiry⟩

/-- The store keeps this pool: whichever writes in hand complete, it holds lawful records, and with all of them completed
those of the pool. -/
structure Store.KeepsPool (x : Store) (pool : List Hold) : Prop where
  orderly : x.orderly
  lawful : HoldsLawful pool
  found : ∀ n, StoredHolds (x.after n).holds
  kept : RecordsOf pool x.settled.holds

theorem Store.KeepsPool.holdsKept {s : State} (k : s.store.KeepsPool s.accounts.pool) : s.holdsKept :=
  ⟨k.orderly, k.lawful, k.found, fun _ => k.kept.mem⟩

theorem State.holdsKept.keepsPool {s : State} (h : s.holdsKept) (on : s.powered = true) :
    s.store.KeepsPool s.accounts.pool where
  orderly := h.store
  lawful := h.pool
  found := h.found
  kept := by
    refine ⟨?_, h.kept on⟩
    obtain ⟨-, sorted, -⟩ := h.found s.store.writes.length
    exact sorted

/-! #### Writes -/

/-- A completed write takes the hold records to these (R181). -/
def RecordWrite.onHolds (w : RecordWrite) (l : List Hold) : List Hold :=
  match w with
  | .hold p r => putHold p r l
  | _ => l

theorem RecordWrite.apply_holds (w : RecordWrite) (r : StoreRecords) : (w.apply r).holds = w.onHolds r.holds := by
  cases w <;> rfl

theorem RecordWrite.onHolds_of_not_hold {w : RecordWrite} (h : w.isHold = false) (l : List Hold) : w.onHolds l = l := by
  cases w with
  | hold p r => cases h
  | _ => rfl

/-- Whatever counters a meter write carries, it leaves the holds alone. -/
@[simp] theorem RecordWrite.begun_onHolds (m : MeterRecord) (w : RecordWrite) : (w.begun m).onHolds = w.onHolds := by
  cases w <;> rfl

/-- What the writes in hand do to the hold records, in their order. -/
def Store.holdWrites (x : Store) : List (List Hold → List Hold) := x.writes.map RecordWrite.onHolds

theorem foldl_apply_holds (l : List RecordWrite) (r : StoreRecords) :
    (l.foldl (fun r w => w.apply r) r).holds = (l.map RecordWrite.onHolds).foldl (fun h f => f h) r.holds := by
  induction l generalizing r with
  | nil => rfl
  | cons w rest ih => rw [List.foldl_cons, ih, RecordWrite.apply_holds]; rfl

/-- The hold records that a start would find (R182). -/
theorem Store.after_holds (x : Store) (n : Nat) :
    (x.after n).holds = (x.holdWrites.take n).foldl (fun h f => f h) x.records.holds := by
  rw [Store.after, foldl_apply_holds, List.map_take, Store.holdWrites]

theorem Store.settled_holds (x : Store) :
    x.settled.holds = x.holdWrites.foldl (fun h f => f h) x.records.holds := by
  rw [Store.settled_eq, foldl_apply_holds, Store.holdWrites]

/-- A store with the same hold records and the same writes of them keeps the same pool. -/
theorem Store.KeepsPool.congr {x y : Store} {pool : List Hold} (k : x.KeepsPool pool) (ho : y.orderly)
    (hr : y.records.holds = x.records.holds) (hw : y.holdWrites = x.holdWrites) : y.KeepsPool pool where
  orderly := ho
  lawful := k.lawful
  found := fun n => by rw [y.after_holds, hr, hw, ← x.after_holds]; exact k.found n
  kept := by rw [y.settled_holds, hr, hw, ← x.settled_holds]; exact k.kept

theorem beginWrite_holdWrites (s : State) : (beginWrite s).store.holdWrites = s.store.holdWrites := by
  unfold beginWrite
  split
  · rename_i w rest hc hq
    simp [Store.holdWrites, Store.writes, hc, hq]
  · rfl

/-- A submission to a store in order puts what its write does to the holds at the end (R181). -/
theorem submit_holdWrites (t : WriteTag) (w : RecordWrite) (s : State) (ho : s.store.orderly) :
    (submit t w s).store.holdWrites = s.store.holdWrites ++ [w.onHolds] := by
  by_cases hr : s.store.taken < 8
  · have none_waits : s.store.waiting = [] := by
      by_contra hne
      have := ho.2.2 hne
      omega
    rw [submit_room _ _ _ hr, beginWrite_holdWrites]
    simp [Store.holdWrites, Store.writes, none_waits]
  · rw [submit_full _ _ _ hr]
    simp [Store.holdWrites, Store.writes]

section
variable {s : State} {pool : List Hold} (k : s.store.KeepsPool pool)
include k

/-- The records that a start would find are those it would have found, or those of the settled pool with the submitted
write on top. -/
theorem Store.KeepsPool.submitted {t : WriteTag} {w : RecordWrite} {pool' : List Hold} (lawful : HoldsLawful pool')
    (records : RecordsOf pool' (w.onHolds s.store.settled.holds)) : (Machine.submit t w s).store.KeepsPool pool' := by
  have writes := submit_holdWrites t w s k.orderly
  have settled : (Machine.submit t w s).store.settled.holds = w.onHolds s.store.settled.holds := by
    rw [Store.settled_holds, writes, submit_records, List.foldl_append, ← Store.settled_holds]
    rfl
  refine ⟨submit_orderly _ _ _ k.orderly, lawful, fun n => ?_, settled ▸ records⟩
  by_cases hn : n ≤ s.store.holdWrites.length
  · rw [Store.after_holds, writes, submit_records, List.take_append_of_le_length hn, ← Store.after_holds]
    exact k.found n
  · rw [Store.after_holds, List.take_of_length_le (by rw [writes]; simp; omega), ← Store.settled_holds, settled]
    exact records.storedHolds lawful

/-- A write of anything but a hold record leaves the records of the pool as they are. -/
theorem Store.KeepsPool.submit {t : WriteTag} {w : RecordWrite} (hw : w.isHold = false) :
    (Machine.submit t w s).store.KeepsPool pool :=
  k.submitted k.lawful (by rw [RecordWrite.onHolds_of_not_hold hw]; exact k.kept)

/-- The write of a changed record, or of a free place, takes the store from keeping a pool to keeping the changed one. -/
theorem Store.KeepsPool.submitHold {t : WriteTag} {p : Nat} {r : Option Hold} {pool' : List Hold}
    (lawful : HoldsLawful pool') (c : ReplacedAt p r pool pool') :
    (Machine.submit t (.hold p (r.map Hold.stored)) s).store.KeepsPool pool' :=
  k.submitted lawful (k.kept.put c)

theorem Store.KeepsPool.noteMeters : (noteMeters s).store.KeepsPool pool := by
  rcases noteMeters_cases s with e | e | e <;> rw [e]
  · exact k
  · exact k.congr k.orderly rfl rfl
  · exact k.submit rfl

/-- Records that differ only in their expiries are kept alike (R125). -/
theorem Store.KeepsPool.unwritten {pool' : List Hold} (same : pool'.map Hold.stored = pool.map Hold.stored) :
    s.store.KeepsPool pool' where
  orderly := k.orderly
  lawful := k.lawful.of_perm (by
    have keys := congrArg (List.map Hold.key) same
    simp only [List.map_map] at keys
    exact .of_eq keys.symm)
  found := k.found
  kept := by
    refine ⟨k.kept.sorted, fun h => (k.kept.mem h).trans ?_⟩
    have mem : h ∈ pool'.map Hold.stored ↔ h ∈ pool.map Hold.stored := by rw [same]
    simpa only [List.mem_map, eq_comm] using mem.symm

end

/-- What leaves the holds alone leaves the store keeping the pool. -/
theorem State.HoldSteady.keepsPool {s t : State} (h : s.HoldSteady t) (k : s.store.KeepsPool s.accounts.pool) :
    t.store.KeepsPool t.accounts.pool := by
  induction h with
  | refl => exact k
  | setAccounts h hu ih => rw [← hu] at ih; exact ih
  | submit h hw ih => rw [submit_accounts]; exact ih.submit hw
  | noteMeters h ih => rw [noteMeters_accounts]; exact ih.noteMeters
  | _ => assumption

end Sys2Proof.Machine
end

section
/-! ### The store's progress and the start keep the pool (R129, R181, R182) -/

namespace Sys2Proof.Machine

/-! #### A write completes -/

theorem passOn_holdWrites (s : State) : (passOn s).store.holdWrites = s.store.holdWrites := by
  unfold passOn
  split
  · exact beginWrite_holdWrites s
  · rename_i w rest hw
    have moved : (beginWrite (s.setStore { s.store with queue := s.store.queue ++ [w], waiting := rest })).store.holdWrites =
        s.store.holdWrites := by
      rw [beginWrite_holdWrites]
      simp [Store.holdWrites, Store.writes, hw]
    dsimp only
    split
    · rw [releaseHeld_store, moved]
    · exact moved

@[simp] theorem passOn_records (s : State) : (passOn s).store.records = s.store.records := by
  unfold passOn
  split
  · simp
  · dsimp only
    split <;> simp

/-- A store with no write in progress and places free of writes that wait begins the oldest (R181). -/
theorem beginWrite_orderly {s : State} (idle : s.store.current = none) (places : s.store.queue.length ≤ 8)
    (full : s.store.waiting ≠ [] → s.store.queue.length = 8) : (beginWrite s).store.orderly := by
  unfold beginWrite
  split
  · rename_i w rest hc hq
    rw [hq, List.length_cons] at places full
    exact ⟨nofun, places, full⟩
  · rename_i none_queued
    have empty : s.store.queue = [] := by
      cases hq : s.store.queue with
      | nil => rfl
      | cons w rest => exact (none_queued w rest idle hq).elim
    refine ⟨fun _ => empty, ?_, fun hne => ?_⟩
    · simp [Store.taken, idle, empty]
    · simpa [empty] using full hne

/-- The place that a completed write leaves goes to the submitter that waited longest. -/
theorem passOn_orderly {s : State} (idle : s.store.current = none) (places : s.store.queue.length ≤ 7)
    (full : s.store.waiting ≠ [] → s.store.queue.length = 7) : (passOn s).store.orderly := by
  unfold passOn
  split
  · rename_i hw
    exact beginWrite_orderly idle (by omega) fun hne => (hne hw).elim
  · rename_i w rest hw
    have all : s.store.queue.length = 7 := full (by simp [hw])
    have moved : (beginWrite (s.setStore { s.store with
        queue := s.store.queue ++ [w], waiting := rest })).store.orderly :=
      beginWrite_orderly idle (by simp [all]) fun _ => by simp [all]
    dsimp only
    split
    · simpa using moved
    · exact moved

section
variable {s : State}

/-- What a start finds after the completed write is what it would have found with one write more (R181, R182). -/
theorem passOn_keepsPool {w : QueuedWrite} {t : TimePoint} {pool : List Hold} (k : s.store.KeepsPool pool)
    (hc : s.store.current = some (w, t)) :
    (passOn (s.setStore { s.store with
      records := w.what.apply s.store.records, current := none })).store.KeepsPool pool := by
  obtain ⟨-, taken, full⟩ := k.orderly
  simp only [Store.taken, hc, Option.isSome_some, if_true] at taken full
  have writes : s.store.holdWrites = w.what.onHolds ::
      (s.setStore { s.store with records := w.what.apply s.store.records, current := none }).store.holdWrites := by
    simp [Store.holdWrites, Store.writes, hc]
  refine ⟨passOn_orderly rfl ?_ fun hne => ?_, k.lawful, fun n => ?_, ?_⟩
  · show s.store.queue.length ≤ 7
    omega
  · have := full hne
    show s.store.queue.length = 7
    omega
  · have found := k.found (n + 1)
    rw [Store.after_holds, writes, List.take_succ_cons, List.foldl_cons, ← RecordWrite.apply_holds] at found
    rw [Store.after_holds, passOn_holdWrites, passOn_records]
    exact found
  · have kept := k.kept
    rw [Store.settled_holds, writes, List.foldl_cons, ← RecordWrite.apply_holds] at kept
    rw [Store.settled_holds, passOn_holdWrites, passOn_records]
    exact kept

@[simp] theorem passOn_accounts : (passOn s).accounts = s.accounts := by
  unfold passOn
  split
  · simp
  · dsimp only
    split <;> simp

theorem remeter_keepsPool {pool : List Hold} (k : s.store.KeepsPool pool) : (remeter s).store.KeepsPool pool := by
  unfold remeter
  split
  · exact Store.KeepsPool.noteMeters (k.congr k.orderly rfl rfl)
  · exact k

@[simp] theorem remeter_accounts : (remeter s).accounts = s.accounts := by
  unfold remeter; split <;> simp

theorem storeCompletes_keepsPool (k : s.store.KeepsPool s.accounts.pool) :
    (storeCompletes s).store.KeepsPool (storeCompletes s).accounts.pool := by
  unfold storeCompletes
  split
  · rename_i w hc
    have passed := passOn_keepsPool k hc
    have metered (b : Bool) {x : State} (hx : x.store.KeepsPool x.accounts.pool) :
        (if b then remeter x else x).store.KeepsPool (if b then remeter x else x).accounts.pool := by
      split
      · rw [remeter_accounts]; exact remeter_keepsPool hx
      · exact hx
    have completed := metered w.1.what.isMeters (by rw [passOn_accounts]; exact passed)
    unfold completeWrite
    dsimp only
    split
    · exact (State.HoldSteady.refl.requestWritten).keepsPool completed
    · exact completed
  · exact k

end

/-! #### A start -/

theorem orderHold_perm (h : Hold) (l : List Hold) : (orderHold h l).Perm (h :: l) := by
  induction l with
  | nil => rfl
  | cons x rest ih =>
    unfold orderHold
    split
    · rfl
    · exact (ih.cons x).trans (.swap h x rest)

theorem foldl_orderHold_perm (l m : List Hold) : (l.foldl (fun m h => orderHold h m) m).Perm (l ++ m) := by
  induction l generalizing m with
  | nil => rfl
  | cons h rest ih =>
    exact ((ih _).trans ((orderHold_perm h m).append_left rest)).trans List.perm_middle

/-- The pool of a start holds the stored records, with expiries (R129). -/
theorem StoreRecords.startPool_keeps {r : StoreRecords} (h : StoredHolds r.holds) :
    HoldsLawful r.startPool ∧ RecordsOf r.startPool r.holds := by
  obtain ⟨lawful, sorted, expiry⟩ := h
  have perm : (r.holds.foldl (fun l h => orderHold h l) []).Perm r.holds := by
    simpa using foldl_orderHold_perm r.holds []
  refine ⟨lawful.of_perm ?_, sorted, fun x => ?_⟩
  · have keys := (perm.map Hold.key).symm
    rw [StoreRecords.startPool, List.map_map]
    exact keys
  · simp only [StoreRecords.startPool, List.mem_map, perm.mem_iff, exists_exists_and_eq_and]
    have stored (y : Hold) (hy : y ∈ r.holds) (e : Option TimePoint) : ({ y with expiry := e } : Hold).stored = y :=
      Hold.stored_of_expiry (expiry y hy)
    constructor
    · exact fun hx => ⟨x, hx, (stored x hx _).symm⟩
    · rintro ⟨y, hy, rfl⟩
      rw [stored y hy]
      exact hy

/-- A start on lawful records keeps the pool it takes from them (R129, R185). -/
theorem start_keepsPool (cause : StartCause) {s : State} (h : StoredHolds s.store.records.holds) :
    (start cause s).store.KeepsPool (start cause s).accounts.pool := by
  have blocks : (startBlocks cause s).store.KeepsPool (startBlocks cause s).accounts.pool := by
    obtain ⟨lawful, records⟩ := StoreRecords.startPool_keeps h
    refine ⟨Store.quiet_orderly _, lawful, fun n => ?_, ?_⟩
    · rw [show (startBlocks cause s).store = Store.quiet s.store.records from rfl, Store.after_quiet]
      exact h
    · rw [show (startBlocks cause s).store = Store.quiet s.store.records from rfl, Store.settled, Store.after_quiet]
      exact records
  refine State.HoldSteady.keepsPool ?_ blocks
  have line : (startBlocks cause s).HoldSteady (startLine (startBlocks cause s)) := by
    unfold startLine
    split
    · exact .refl
    · exact State.HoldSteady.refl.setLine.readyFrame
  unfold start takeCheckpoint
  split
  · exact line
  · rename_i c _
    have reserved : (startBlocks cause s).HoldSteady
        (reservePlace c.funding ((startLine (startBlocks cause s)).setCtx c.interrupted)) := by
      unfold reservePlace
      split
      · exact line.setCtx.setCard
      · exact line.setCtx.setSettle
    unfold settleInterrupted
    split_ifs
    · exact reserved.setJob
    · exact reserved.endJob
    · exact reserved.askJob
    · exact reserved.settleByQueue

/-- A RESTART completes the writes that stand in the queue: a start finds them as it would after so many writes (R182). -/
theorem finishWrites_holds (s : State) : ∃ n, (finishWrites s).store.records.holds = (s.store.after n).holds := by
  refine ⟨((s.store.current.map fun w => w.1.what).toList ++ s.store.queue.map QueuedWrite.what).length, ?_⟩
  have split_writes : s.store.holdWrites =
      ((s.store.current.map fun w => w.1.what).toList ++ s.store.queue.map QueuedWrite.what).map RecordWrite.onHolds ++
        (s.store.waiting.map QueuedWrite.what).map RecordWrite.onHolds := by
    simp [Store.holdWrites, Store.writes]
  rw [Store.after_holds, split_writes, List.take_left' (by simp)]
  show (List.foldl _ _ _ : StoreRecords).holds = _
  rw [foldl_apply_holds]
  simp [Function.comp_def]

end Sys2Proof.Machine
end

section
/-! ### Every decision of the account unit keeps the pool (R127, R128, R133 to R141) -/

namespace Sys2Proof.Machine

/-! #### Changes of the pool -/

/-- A change of the pool with the writes that bring it to the store: none where the records differ in nothing that the
store keeps; the record of one place; and writes of accounts after it. -/
inductive PoolChange (pool : List Hold) : List Hold → List RecordWrite → Prop
  | unwritten {pool' : List Hold} (same : pool'.map Hold.stored = pool.map Hold.stored) : PoolChange pool pool' []
  | written {pool' : List Hold} {p : Nat} {r : Option Hold} (lawful : HoldsLawful pool')
      (replaced : ReplacedAt p r pool pool') : PoolChange pool pool' [.hold p (r.map Hold.stored)]
  | account {pool' : List Hold} {l : List RecordWrite} (a : Account) (h : PoolChange pool pool' l) :
      PoolChange pool pool' (l ++ [writeAccount a])

theorem PoolChange.refl (pool : List Hold) : PoolChange pool pool [] := .unwritten rfl

/-- Once its writes are submitted, the store keeps the changed pool. -/
theorem PoolChange.keepsPool {pool pool' : List Hold} {l : List RecordWrite} (c : PoolChange pool pool' l) {t : WriteTag}
    {s : State} (k : s.store.KeepsPool pool) : (l.foldl (fun x w => submit t w x) s).store.KeepsPool pool' := by
  induction c with
  | unwritten same => exact k.unwritten same
  | written lawful replaced => exact k.submitHold lawful replaced
  | account a h ih =>
    rw [List.foldl_append]
    exact ih.submit rfl

theorem AccountUnit.mem_of_findHold {u : AccountUnit} {id : HoldId} {h : Hold} (e : u.findHold id = some h) :
    h ∈ u.pool ∧ h.hold = id :=
  ⟨List.mem_of_find?_eq_some e, by simpa using List.find?_some e⟩

theorem AccountUnit.ne_of_findHold {u : AccountUnit} {id : HoldId} (e : u.findHold id = none) :
    ∀ x ∈ u.pool, x.hold ≠ id := fun x hx => by
  simpa using List.find?_eq_none.mp e x hx

section
variable {pool : List Hold} (lawful : HoldsLawful pool)
include lawful

/-- Taking out the record of a hold id frees its place. -/
theorem HoldsLawful.replacedAt_none {h : Hold} (mem : h ∈ pool) :
    ReplacedAt h.place none pool (pool.filter fun x => x.hold != h.hold) := by
  refine ⟨nofun, fun x => ?_⟩
  simp only [List.mem_filter, bne_iff_ne, Option.mem_def, reduceCtorEq, false_or]
  exact and_congr_right fun hx => lawful.hold_ne_iff hx mem

/-- A new record at the place of one that leaves the pool. -/
theorem HoldsLawful.exchanged {old new : Hold} (mem : old ∈ pool) (place : new.place = old.place)
    (id : ∀ x ∈ pool, x.hold ≠ old.hold → x.hold ≠ new.hold) (room : new.state = .active → activeCount pool < 47) :
    PoolChange pool ((pool.filter fun x => x.hold != old.hold) ++ [new]) [writeHold new] := by
  obtain ⟨-, rest⟩ := lawful.replacedAt_none mem
  simp only [Option.mem_def, reduceCtorEq, false_or] at rest
  have sub : (pool.filter fun x => x.hold != old.hold).Sublist pool := List.filter_sublist
  refine .written (r := some new) ((lawful.sublist sub).append (fun x hx => ?_) (fun x hx => ?_) ?_ fun e => ?_)
    ⟨by simp, fun x => ?_⟩
  · obtain ⟨hx, ne⟩ := List.mem_filter.mp hx
    exact id x hx (by simpa using ne)
  · rw [place]
    exact ((rest x).mp hx).2
  · rw [place]
    exact lawful.within old mem
  · exact ((sub.filter _).length_le).trans_lt (room e)
  · rw [List.mem_append, rest, List.mem_singleton, place, or_comm]
    simp [eq_comm]

/-- A record under a new hold id at a free place. -/
theorem HoldsLawful.added {new : Hold} (id : ∀ x ∈ pool, x.hold ≠ new.hold) (place : ∀ x ∈ pool, x.place ≠ new.place)
    (within : new.place < 48) (room : new.state = .active → activeCount pool < 47) :
    PoolChange pool (pool ++ [new]) [writeHold new] := by
  refine .written (r := some new) (lawful.append id place within room) ⟨by simp, fun x => ?_⟩
  rw [List.mem_append, List.mem_singleton, or_comm]
  simp only [Option.mem_def, Option.some.injEq, eq_comm]
  exact or_congr_right (iff_self_and.mpr fun hx => place x hx)

/-- A record that keeps its place, its id and its state takes new figures. -/
theorem HoldsLawful.refigured {old new : Hold} (mem : old ∈ pool) (key : new.key = old.key) :
    PoolChange pool (replaceHold new pool) [writeHold new] := by
  obtain ⟨id, place, -⟩ : new.hold = old.hold ∧ new.place = old.place ∧ new.state = old.state := by
    simpa [Hold.key] using key
  have is_old {x : Hold} (hx : x ∈ pool) : x.hold = new.hold ↔ x = old :=
    ⟨fun e => lawful.eq_of_hold hx mem (e.trans id), fun e => e ▸ id.symm⟩
  have keys : (replaceHold new pool).map Hold.key = pool.map Hold.key := by
    rw [replaceHold, List.map_map]
    refine List.map_congr_left fun x hx => ?_
    by_cases e : x.hold = new.hold
    · rw [Function.comp_apply, if_pos e, key, (is_old hx).mp e]
    · rw [Function.comp_apply, if_neg e]
  refine .written (r := some new) (lawful.of_perm (.of_eq keys.symm)) ⟨by simp, fun x => ?_⟩
  simp only [replaceHold, List.mem_map, Option.mem_def, Option.some.injEq]
  constructor
  · rintro ⟨y, hy, rfl⟩
    by_cases e : y.hold = new.hold
    · exact .inl (if_pos e).symm
    · rw [if_neg e]
      refine .inr ⟨hy, ?_⟩
      rw [place, ← lawful.hold_ne_iff hy mem, ← id]
      exact e
  · rintro (rfl | ⟨hx, ne⟩)
    · exact ⟨old, mem, if_pos id.symm⟩
    · refine ⟨x, hx, if_neg fun e => ne ?_⟩
      rw [(is_old hx).mp e, place]

omit lawful in
/-- Of two changes of a record the second stands. -/
theorem replaceHold_replaceHold {x y : Hold} (e : y.hold = x.hold) :
    replaceHold x (replaceHold y pool) = replaceHold x pool := by
  unfold replaceHold
  rw [List.map_map]
  refine List.map_congr_left fun z _ => ?_
  by_cases hz : z.hold = x.hold <;> simp [hz, e]

/-- A record that takes a new expiry is stored as it was (R125). -/
theorem HoldsLawful.reexpired {old new : Hold} (mem : old ∈ pool) (id : new.hold = old.hold)
    (stored : new.stored = old.stored) : PoolChange pool (replaceHold new pool) [] := by
  refine .unwritten ?_
  rw [replaceHold, List.map_map]
  refine List.map_congr_left fun x hx => ?_
  by_cases e : x.hold = new.hold
  · rw [Function.comp_apply, if_pos e, stored, lawful.eq_of_hold hx mem (e.trans id)]
  · rw [Function.comp_apply, if_neg e]

/-- A record that leaves the ACTIVE state goes to the end of the change order (R127). -/
theorem HoldsLawful.changeHold_change {u : AccountUnit} (hu : u.pool = pool) {old new : Hold} (mem : old ∈ pool)
    (id : new.hold = old.hold) (place : new.place = old.place) (state : new.state ≠ .active) :
    PoolChange pool (changeHold new u).1.pool [writeHold (changeHold new u).2] := by
  have change := lawful.exchanged (new := { new with stamp := u.nextStamp }) mem place
    (fun x _ ne => by rw [id]; exact ne) fun e => (state e).elim
  rw [← id] at change
  unfold changeHold moveHold
  simp only [hu]
  exact change

/-! #### Room for a record (R127) -/

omit lawful in
theorem freePlace_eq_some {p : Nat} (e : freePlace pool = some p) : p < 48 ∧ ∀ h ∈ pool, h.place ≠ p :=
  ⟨List.mem_range.mp (List.mem_of_find?_eq_some e), by simpa using List.find?_some e⟩

/-- With no place free one of the 48 records is not ACTIVE, and makes room. -/
theorem HoldsLawful.exists_discardable (e : freePlace pool = none) : ∃ h ∈ pool, discardable pool = some h := by
  have full : 48 ≤ pool.length := by
    have taken : List.range 48 ⊆ pool.map Hold.place := fun p hp => by
      obtain ⟨h, hh, rfl⟩ : ∃ h ∈ pool, h.place = p := by simpa using List.find?_eq_none.mp e p hp
      exact List.mem_map_of_mem hh
    simpa using (List.nodup_range.subperm taken).length_le
  have some_settled : discardable pool ≠ none := fun none_found => by
    have all_active : ∀ h ∈ pool, h.state = .active := by
      unfold discardable at none_found
      split at none_found
      · cases none_found
      · rename_i no_settled
        intro h hh
        have := List.find?_eq_none.mp no_settled h hh
        have := List.find?_eq_none.mp none_found h hh
        cases hs : h.state <;> simp_all
    have count : activeCount pool = pool.length := by
      rw [activeCount, List.filter_eq_self.mpr]
      simpa using all_active
    have := lawful.active
    omega
  obtain ⟨h, found⟩ := Option.ne_none_iff_exists'.mp some_settled
  refine ⟨h, ?_, found⟩
  unfold discardable at found
  split at found
  · rename_i settled
    cases found
    exact List.mem_of_find?_eq_some settled
  · exact List.mem_of_find?_eq_some found

/-- A record under a new hold id finds a free place, or that of a record which is discarded (R127). -/
theorem HoldsLawful.addHold_change {u : AccountUnit} (hu : u.pool = pool) {h : Hold} (id : ∀ x ∈ pool, x.hold ≠ h.hold)
    (room : h.state = .active → activeCount pool < 47) :
    PoolChange pool (addHold none h u).1.pool [writeHold (addHold none h u).2] := by
  unfold addHold makeRoom
  simp only [hu]
  cases free : freePlace pool with
  | some p =>
    obtain ⟨within, place⟩ := freePlace_eq_some free
    exact lawful.added (new := { h with place := p, stamp := u.nextStamp }) id place within room
  | none =>
    obtain ⟨old, mem, found⟩ := lawful.exists_discardable free
    rw [found]
    exact lawful.exchanged (new := { h with place := old.place, stamp := u.nextStamp }) mem rfl (fun x hx _ => id x hx) room

/-- A record takes the place that one under its hold id has left (R133). -/
theorem HoldsLawful.readdHold_change {u : AccountUnit} {old h : Hold} (mem : old ∈ pool)
    (hu : u.pool = pool.filter fun x => x.hold != old.hold) (id : h.hold = old.hold)
    (room : h.state = .active → activeCount pool < 47) :
    PoolChange pool (addHold (some old.place) h u).1.pool [writeHold (addHold (some old.place) h u).2] := by
  have change := lawful.exchanged (new := { h with place := old.place, stamp := u.nextStamp }) mem rfl
    (fun x _ ne => by rw [id]; exact ne) room
  unfold addHold makeRoom
  simp only [hu]
  exact change

end

/-! #### Decisions -/

section
variable {s : State}

theorem grantHold_change {r : HoldRequestFields} {a : Account} {u : AccountUnit} {freed : Option Nat}
    {writes : List RecordWrite} {pool : List Hold} (refused : PoolChange pool u.pool writes)
    (granted : ∀ h : Hold, h.hold = r.hold → activeCount u.pool < 47 →
      PoolChange pool (addHold freed h u).1.pool [writeHold (addHold freed h u).2]) :
    PoolChange pool (grantHold r a u freed writes s).unit.pool (grantHold r a u freed writes s).writes := by
  unfold grantHold
  dsimp only
  split_ifs with suspended full funds
  · exact refused
  · exact refused
  · exact refused
  · exact granted _ rfl (by omega)

variable (lawful : HoldsLawful s.accounts.pool)
include lawful

theorem decideHold_change (o : Origin) (r : HoldRequestFields) :
    PoolChange s.accounts.pool (decideHold o r s).unit.pool (decideHold o r s).writes := by
  unfold decideHold
  dsimp only
  split_ifs
  · exact .refl _
  · exact .refl _
  · split
    · exact .refl _
    · split
      · rename_i unknown
        refine grantHold_change (.refl _) fun h id room => ?_
        exact lawful.addHold_change rfl (id ▸ AccountUnit.ne_of_findHold unknown) fun _ => room
      · rename_i old known
        obtain ⟨mem, id⟩ := AccountUnit.mem_of_findHold known
        split
        · exact .refl _
        · rename_i ended
          have same_active : activeCount (s.accounts.pool.filter fun x => x.hold != old.hold) =
              activeCount s.accounts.pool := by
            unfold activeCount
            rw [List.filter_filter]
            refine congrArg List.length (List.filter_congr fun x hx => ?_)
            by_cases e : x.hold = old.hold
            · rw [lawful.eq_of_hold hx mem e]; simp [ended]
            · simp [e]
          refine grantHold_change ?_ fun h hid room => ?_
          · exact .written (r := none) (lawful.sublist List.filter_sublist) (lawful.replacedAt_none mem)
          · exact lawful.readdHold_change mem rfl (hid.trans id.symm) fun _ => same_active ▸ room

theorem decideTopUp_change (o : Origin) (r : TopUpRequestFields) :
    PoolChange s.accounts.pool (decideTopUp o r s).unit.pool (decideTopUp o r s).writes := by
  unfold decideTopUp
  dsimp only
  split
  · exact .refl _
  · split
    · exact .refl _
    · rename_i h known
      obtain ⟨mem, -⟩ := AccountUnit.mem_of_findHold known
      have renewed := lawful.reexpired (new := h.renewed s.timeBase) mem rfl rfl
      split
      · exact .refl _
      · split
        · exact .refl _
        · exact .refl _
        · unfold grantTopUp
          dsimp only
          split
          · exact renewed
          · split_ifs
            · exact renewed
            · exact renewed
            · exact renewed
            · rw [holdGranted, replaceHold_replaceHold (by rfl)]
              exact lawful.refigured mem rfl

omit lawful in
/-- A post that exceeds nothing leaves a hold's figures as they were (R137). -/
theorem Hold.take_of_adds_nothing {r : PostFields} {h : Hold} (none_added : postAdds r h = false) : h.take r = h := by
  simp only [postAdds, usageBeyond, UsageOf.zip, UsageOf.toList, List.any_cons, List.any_nil, Bool.or_false,
    Bool.or_eq_false_iff, decide_eq_false_iff_not, Nat.not_lt, Nat.le_zero_eq, Nat.sub_eq_zero_iff_le] at none_added
  obtain ⟨charged, stdMono, stdColour, largeMono, largeColour, duplex, sheets⟩ := none_added
  simp [Hold.take, UsageOf.zip, charged, stdMono, stdColour, largeMono, largeColour, duplex, sheets]

theorem applyPost_change (r : PostFields) {h : Hold} (mem : h ∈ s.accounts.pool) :
    PoolChange s.accounts.pool (applyPost r h s).unit.pool (applyPost r h s).writes := by
  unfold applyPost
  dsimp only
  by_cases final : r.final = true
  · have settled := lawful.changeHold_change (u := s.accounts) rfl mem
      (new := { h.take r with state := .settled, expiry := none }) rfl rfl nofun
    simp only [final, if_true, true_or]
    split
    · exact settled.account _
    · exact settled
  · simp only [final]
    generalize kept : (if (h.state == HoldState.lapsed) = true then h.take r else (h.take r).renewed s.timeBase) = h2
    have key : h2.key = h.key := by rw [← kept]; split <;> rfl
    split
    · split
      · exact (lawful.refigured mem key).account _
      · exact lawful.refigured mem key
    · rename_i nothing
      have stored : h2.stored = h.stored := by
        rw [← kept, Hold.take_of_adds_nothing (by simpa using nothing)]
        split <;> rfl
      exact lawful.reexpired mem (congrArg Prod.fst key) stored

theorem decidePost_change (o : Origin) (r : PostFields) :
    PoolChange s.accounts.pool (decidePost o r s).unit.pool (decidePost o r s).writes := by
  unfold decidePost
  dsimp only
  split_ifs
  · exact .refl _
  · exact .refl _
  · split
    · rename_i h known
      obtain ⟨mem, -⟩ := AccountUnit.mem_of_findHold known
      split_ifs
      · exact .refl _
      · exact .refl _
      · exact .refl _
      · exact applyPost_change lawful r mem
    · rename_i unknown
      split
      · exact (lawful.addHold_change rfl (AccountUnit.ne_of_findHold unknown) fun e => by cases e).account _
      · exact .refl _

end

end Sys2Proof.Machine
end

section
/-! ### Every step keeps the law of holds (R127) -/

namespace Sys2Proof.Machine

theorem decideRequest_change {s : State} (lawful : HoldsLawful s.accounts.pool) {a : Arrival} {d : Decision}
    (e : decideRequest a s = some d) : PoolChange s.accounts.pool d.unit.pool d.writes := by
  unfold decideRequest at e
  split at e <;> simp only [Option.ite_none_left_eq_some, Option.some.injEq, reduceCtorEq] at e
  · exact e.2 ▸ decideHold_change lawful _ _
  · exact e.2 ▸ decideTopUp_change lawful _ _
  · exact e.2 ▸ decidePost_change lawful _ _

@[simp] theorem submitAll_accounts (t : WriteTag) (l : List RecordWrite) (s : State) :
    (l.foldl (fun x w => submit t w x) s).accounts = s.accounts := by
  induction l generalizing s with
  | nil => rfl
  | cons w rest ih => rw [List.foldl_cons, ih, submit_accounts]

section
variable {s : State} (k : s.store.KeepsPool s.accounts.pool)
include k

theorem carryOut_keepsPool {a : Arrival} {d : Decision} (c : PoolChange s.accounts.pool d.unit.pool d.writes) :
    (carryOut a d s).store.KeepsPool (carryOut a d s).accounts.pool := by
  have decided : ∃ x, x.store = s.store ∧ x.accounts = d.unit ∧
      (if d.fresh then advanceFree (s.setAccounts d.unit) else s.setAccounts d.unit) = x := by
    refine ⟨_, ?_, ?_, rfl⟩ <;> split <;> rfl
  obtain ⟨x, store, accounts, e⟩ := decided
  unfold carryOut
  dsimp only
  rw [e]
  split
  · rename_i none_written
    rw [none_written] at c
    refine (State.HoldSteady.refl.releaseAnswer).keepsPool ?_
    rw [store, accounts]
    exact c.keepsPool (t := .request) k
  · rw [submitAll_accounts, State.setAccounts_accounts, accounts]
    refine c.keepsPool (t := .request) ?_
    rw [State.setAccounts_store, store]
    exact k

theorem takeRequest_keepsPool (a : Arrival) :
    (takeRequest a s).store.KeepsPool (takeRequest a s).accounts.pool := by
  have taken : (s.setAccounts { s.accounts with arrivals := s.accounts.arrivals.erase a }).store.KeepsPool
      (s.setAccounts { s.accounts with arrivals := s.accounts.arrivals.erase a }).accounts.pool := k
  unfold takeRequest
  dsimp only
  split
  · exact carryOut_keepsPool taken (decideRequest_change taken.lawful ‹_›)
  · exact taken

theorem lapseHold_keepsPool {h : Hold} (mem : h ∈ s.accounts.pool) :
    (lapseHold h s).store.KeepsPool (lapseHold h s).accounts.pool := by
  have change := k.lawful.changeHold_change (u := s.accounts) rfl mem (new := { h with state := .lapsed, expiry := none })
    rfl rfl nofun
  unfold lapseHold
  dsimp only
  rw [submit_accounts]
  refine change.keepsPool (t := .plain) (s := s.setAccounts _) ?_
  exact k

theorem restart_keepsPool : (restart s).store.KeepsPool (restart s).accounts.pool := by
  obtain ⟨n, found⟩ := finishWrites_holds s
  exact start_keepsPool _ (found ▸ k.found n)

/-- Every command of the catalogue keeps the pool. -/
theorem runCommand_keepsPool (o : Opcode) (ps : List Byte) :
    (runCommand o ps s).store.KeepsPool (runCommand o ps s).accounts.pool := by
  by_cases restarts : o = .restart
  · subst restarts
    have discarded := (State.HoldSteady.refl.discardResult).keepsPool k
    show (takeCommand .restart ps _ s).store.KeepsPool (takeCommand .restart ps _ s).accounts.pool
    unfold takeCommand
    split
    · exact k
    · dsimp only
      split
      · exact discarded
      · split
        · exact restart_keepsPool discarded
        · exact (State.HoldSteady.refl.complete).keepsPool discarded
  · exact (State.HoldSteady.refl.runCommand restarts).keepsPool k

theorem takeMessage_keepsPool (bytes : List Byte) :
    (takeMessage bytes s).store.KeepsPool (takeMessage bytes s).accounts.pool := by
  unfold takeMessage
  split
  · exact k
  · exact (State.HoldSteady.refl.answerAtOnce).keepsPool k
  · exact (State.HoldSteady.refl.answerAtOnce).keepsPool k
  · exact runCommand_keepsPool k _ _

end

/-! #### Commands and events -/

section
variable {s t : State} (h : s.holdsKept)
include h

/-- A command keeps the law, given that with power it keeps the pool; without power it changes nothing. -/
theorem State.holdsKept.whenPowered {f : State → State}
    (hf : s.store.KeepsPool s.accounts.pool → (f s).store.KeepsPool (f s).accounts.pool)
    (e : whenPowered s f = .next t) : t.holdsKept := by
  cases on : s.powered with
  | true =>
    rw [whenPowered_on s f on] at e
    cases e
    exact (hf (h.keepsPool on)).holdsKept
  | false =>
    rw [whenPowered_off s f on] at e
    cases e
    exact h

theorem State.holdsKept.steady {f : State → State} (hf : s.HoldSteady (f s)) (e : Machine.whenPowered s f = .next t) :
    t.holdsKept := h.whenPowered hf.keepsPool e

theorem State.holdsKept.whenDue {due : State → Bool} {f : State → State} (hf : s.HoldSteady (f s))
    (e : whenDue due s f = .next t) : t.holdsKept :=
  h.steady (by
    split
    · exact hf
    · exact .refl) e

theorem losePower_holdsKept : (losePower s).holdsKept := by
  have stored : StoredHolds s.store.records.holds := h.found 0
  refine ⟨Store.quiet_orderly _, HoldsLawful.nil, fun n => ?_, nofun⟩
  rw [show (losePower s).store = Store.quiet s.store.records from rfl, Store.after_quiet]
  exact stored

/-- A hold that an event finds expired is of the pool. -/
theorem holdLapse_holdsKept (id : HoldId) (e : exec (.holdLapse id) s = .next t) : t.holdsKept := by
  simp only [exec, execHoldLapse] at e
  refine h.whenPowered (fun k => ?_) e
  split
  · exact lapseHold_keepsPool k (List.mem_of_find?_eq_some ‹_›)
  · exact k

theorem accountRequestTaken_holdsKept (e : exec .accountRequestTaken s = .next t) : t.holdsKept := by
  simp only [exec, execAccountRequestTaken] at e
  refine h.whenPowered (fun k => ?_) e
  split
  · exact takeRequest_keepsPool k _
  · exact k

end

/-- Every command and event keeps the law of holds. -/
theorem exec_holdsKept (i : Instr) (s t : State) (h : s.holdsKept) (e : exec i s = .next t) : t.holdsKept := by
  have steady := State.HoldSteady.refl (s := s)
  have command (o : Opcode) (ps : List Byte) (e : whenPowered s (runCommand o ps) = .next t) : t.holdsKept :=
    h.whenPowered (fun k => runCommand_keepsPool k o ps) e
  have heard (f : Frame) (e : whenPowered s (hearByKind f) = .next t) : t.holdsKept := h.steady steady.hearByKind e
  cases i with
  | powerOn =>
    cases e
    exact (start_keepsPool _ (s := losePower s) (h.found 0)).holdsKept
  | powerLoss => exact whenPowered_keeps h (losePower_holdsKept h) e
  | interruptedCardWaitEnd => exact h.whenDue steady.interruptedNoCard e
  | status ps => exact command .status ps e
  | readNotice ps => exact command .readNotice ps e
  | setOptions ps => exact command .setOptions ps e
  | loadTariff ps => exact command .loadTariff ps e
  | loadProfile ps => exact command .loadProfile ps e
  | openJob ps => exact command .openJob ps e
  | feed ps => exact command .feed ps e
  | closeJob ps => exact command .closeJob ps e
  | readLost ps => exact command .readLost ps e
  | resume ps => exact command .resume ps e
  | purgeStart ps => exact command .purgeStart ps e
  | purgeEnd ps => exact command .purgeEnd ps e
  | serviceClear ps => exact command .serviceClear ps e
  | readMeters ps => exact command .readMeters ps e
  | readRoster ps => exact command .readRoster ps e
  | accountAdd ps => exact command .accountAdd ps e
  | accountCredit ps => exact command .accountCredit ps e
  | accountSet ps => exact command .accountSet ps e
  | accountRemove ps => exact command .accountRemove ps e
  | readAccount ps => exact command .readAccount ps e
  | listAccounts ps => exact command .listAccounts ps e
  | readStatement ps => exact command .readStatement ps e
  | readRefunds ps => exact command .readRefunds ps e
  | discardRefund ps => exact command .discardRefund ps e
  | releaseEscrow ps => exact command .releaseEscrow ps e
  | restart ps => exact command .restart ps e
  | unknownCommandMessage bytes => exact h.whenPowered (fun k => takeMessage_keepsPool k bytes) e
  | readTransaction clocked => exact h.steady (steady.readReply (clocked := clocked)) e
  | storeWriteComplete =>
    refine h.whenPowered (fun k => ?_) e
    split
    · exact storeCompletes_keepsPool k
    · exact k
  | leadingEdge x =>
    simp only [exec, execLeadingEdge] at e
    refine h.steady ?_ e
    split
    · exact steady.takeSensorEdge fun _ hy => hy.matchLeading
    · exact steady
  | trailingEdge x =>
    simp only [exec, execTrailingEdge] at e
    refine h.steady ?_ e
    split
    · exact steady.takeSensorEdge fun _ hy => hy.matchTrailing
    · exact steady
  | doorOpenEdge =>
    simp only [exec, execDoorOpenEdge] at e
    refine h.steady ?_ e
    split
    · exact steady.takeDoorEdge
    · exact steady
  | doorClosedEdge =>
    simp only [exec, execDoorClosedEdge] at e
    refine h.steady ?_ e
    split
    · exact steady.takeDoorEdge
    · exact steady
  | windowDeadline n =>
    simp only [exec, execWindowDeadline] at e
    refine h.steady ?_ e
    split
    · exact steady.deadlineJam
    · exact steady
  | purgeSettlingWaitEnd => exact h.whenDue steady.judgePurge e
  | periodicPostDue => exact h.whenDue steady.postPeriodically e
  | cardInsertion => exact h.whenDue steady.insertCard e
  | cardRemoval => exact h.whenDue steady.takeRemoval e
  | cardReadAnswer bytes => exact h.whenDue steady.readAnswered e
  | cardWriteAck => exact h.whenDue steady.writeAcknowledged e
  | cardAnswerDeadline => exact h.whenDue steady.cardSilent e
  | roll head p => exact heard ⟨head, .roll p⟩ e
  | holdRequest head p => exact heard ⟨head, .holdRequest p⟩ e
  | topUpRequest head p => exact heard ⟨head, .topUpRequest p⟩ e
  | post head p => exact heard ⟨head, .post p⟩ e
  | holdAnswer head p => exact heard ⟨head, .holdAnswer p⟩ e
  | postAnswer head p => exact heard ⟨head, .postAnswer p⟩ e
  | escrowQuery head p => exact heard ⟨head, .escrowQuery p⟩ e
  | escrowAnswer head p => exact heard ⟨head, .escrowAnswer p⟩ e
  | escrowRelease head p => exact heard ⟨head, .escrowRelease p⟩ e
  | releaseAnswer head p => exact heard ⟨head, .releaseAnswer p⟩ e
  | frameDiscarded bytes =>
    simp only [exec, execFrameDiscarded] at e
    refine h.steady ?_ e
    split
    · exact steady.hearByKind
    · split
      · exact steady
      · exact steady.lineGoesIdle
  | frameSendStart idle => exact h.steady steady.sendStarts e
  | frameSent => exact h.steady steady.frameSentWhole e
  | collision => exact h.steady steady.collide e
  | exchangeAnswerDeadline => exact h.whenDue steady.attemptFails e
  | exchangeStart => exact h.steady steady.startExchange e
  | joiningWindowEnd => exact h.whenDue steady.becomeMember e
  | rollAnswerDelayEnd => exact h.whenDue steady.answerRoll e
  | accountRequestTaken => exact accountRequestTaken_holdsKept h e
  | holdLapse id => exact holdLapse_holdsKept h id e
  | outboundRound => exact h.whenDue steady.beginRound e
  | sensorSample l door => exact h.whenDue steady.samplePath e
  | cardPresenceSample p => exact h.whenDue steady.samplePresence e
  | lineBusy => exact h.steady steady.lineGoesBusy e

theorem idle_holdsKept {s : State} (h : s.holdsKept) : (idle s).holdsKept := by
  cases on : s.powered with
  | true => exact (State.HoldSteady.refl.idle.keepsPool (h.keepsPool on)).holdsKept
  | false =>
    have off : idle s = s := by simp [idle, on]
    rw [off]
    exact h

/-- Settles O57: what leaves the holds alone leaves the store keeping the pool (`State.HoldSteady.keepsPool`), and so does
every decision of the account unit (`decideRequest_change`), every lapse, completed write and start. -/
theorem holdPoolStaysLawful : Obligations.HoldPoolStaysLawful := by
  unfold Obligations.HoldPoolStaysLawful
  refine ⟨fun _ _ h e => ?_, fun _ h => h.length_le⟩
  exact step_keeps (P := State.holdsKept) (fun _ _ hx => ⟨hx.store, hx.pool, hx.found, hx.kept⟩) exec_holdsKept
    (fun _ hx => idle_holdsKept hx) h e

end Sys2Proof.Machine
end

section
/-! ## ACCOUNT ADD, CREDIT, SET and REMOVE (R143 to R146) -/

namespace Sys2Proof.Machine

/-! ### Their parameters (R190) -/

/-- A signed figure reads back from its four bytes. -/
theorem signed32_unsigned32 {i : Int} (low : -2147483648 ≤ i) (high : i < 2147483648) : signed32 (unsigned32 i) = i := by
  unfold signed32 unsigned32
  split <;> omega

theorem unsigned32_lt (i : Int) : unsigned32 i < 4294967296 := by
  unfold unsigned32
  omega

section
variable {number : Nat} (hn : number < 65536)
include hn

theorem AccountAddOperand.read_spell {limit discount : Nat} (hl : limit < 16777216) (hd : discount < 256) {balance : Int}
    (low : -2147483648 ≤ balance) (high : balance < 2147483648) :
    AccountAddOperand.read (spell 2 number ++ spell 3 limit ++ spell 1 discount ++ spell 4 (unsigned32 balance)) =
      some { number := number, limit := limit, discount := discount, balance := balance } := by
  have fits := unsigned32_lt balance
  simp only [AccountAddOperand.read, List.append_assoc, List.length_append, Laws.Wire.spell_length, if_true,
    field_spell, field_spell_skip, field_spell_last, Nat.reduceLeDiff, Nat.reduceSub]
  simp (disch := omega) only [Nat.mod_eq_of_lt, signed32_unsigned32 low high]

theorem AccountCreditOperand.read_spell {amount : Int} (low : -2147483648 ≤ amount) (high : amount < 2147483648) :
    AccountCreditOperand.read (spell 2 number ++ spell 4 (unsigned32 amount)) =
      some { number := number, amount := amount } := by
  have fits := unsigned32_lt amount
  simp only [AccountCreditOperand.read, List.length_append, Laws.Wire.spell_length, if_true, field_spell,
    field_spell_skip, field_spell_last, Nat.reduceLeDiff, Nat.reduceSub]
  simp (disch := omega) only [Nat.mod_eq_of_lt, signed32_unsigned32 low high]

theorem AccountSetOperand.read_spell {limit discount status : Nat} (hl : limit < 16777216) (hd : discount < 256)
    (hs : status < 256) :
    AccountSetOperand.read (spell 2 number ++ spell 3 limit ++ spell 1 discount ++ spell 1 status) =
      some { number := number, limit := limit, discount := discount, status := status } := by
  simp only [AccountSetOperand.read, List.append_assoc, List.length_append, Laws.Wire.spell_length, if_true, field_spell,
    field_spell_skip, field_spell_last, Nat.reduceLeDiff, Nat.reduceSub]
  simp (disch := omega) only [Nat.mod_eq_of_lt]

theorem accountNumber_spell : accountNumber (spell 2 number) = some number := by
  rw [accountNumber, if_pos (Laws.Wire.spell_length 2 number), field_spell_of_lt (by omega)]

end

/-! ### The commands taken by the port -/

section
variable {s : State} (h : s.accepts) {ps : List Byte} (hp : ps.length ≤ 240)
include h hp

theorem execAccountAdd_taken : exec (.accountAdd ps) s = .next (accountAdd ps (commandTaken .accountAdd s)) := by
  show whenPowered s (accountAddCommand ps) = _
  rw [whenPowered_on _ _ h.1, accountAddCommand, takeCommand_taken _ _ _ _ h.2 hp, commandTaken]

theorem execAccountCredit_taken :
    exec (.accountCredit ps) s = .next (accountCredit ps (commandTaken .accountCredit s)) := by
  show whenPowered s (accountCreditCommand ps) = _
  rw [whenPowered_on _ _ h.1, accountCreditCommand, takeCommand_taken _ _ _ _ h.2 hp, commandTaken]

theorem execAccountSet_taken : exec (.accountSet ps) s = .next (accountSet ps (commandTaken .accountSet s)) := by
  show whenPowered s (accountSetCommand ps) = _
  rw [whenPowered_on _ _ h.1, accountSetCommand, takeCommand_taken _ _ _ _ h.2 hp, commandTaken]

theorem execAccountRemove_taken :
    exec (.accountRemove ps) s = .next (accountRemove ps (commandTaken .accountRemove s)) := by
  show whenPowered s (accountRemoveCommand ps) = _
  rw [whenPowered_on _ _ h.1, accountRemoveCommand, takeCommand_taken _ _ _ _ h.2 hp, commandTaken]

end

/-! ### The account table and its writes -/

@[simp] theorem discardResult_pool (s : State) : (discardResult s).accounts.pool = s.accounts.pool := by
  unfold discardResult; split <;> rfl

@[simp] theorem discardResult_find (s : State) (n : Nat) : (discardResult s).accounts.find n = s.accounts.find n := by
  simp [AccountUnit.find]

@[simp] theorem discardResult_available (s : State) (a : Account) :
    (discardResult s).accounts.available a = s.accounts.available a := by
  simp [AccountUnit.available]

theorem AccountUnit.number_of_find {u : AccountUnit} {n : Nat} {a : Account} (h : u.find n = some a) : a.number = n := by
  simpa using List.find?_some h

/-- A command with a new account unit and its write: the unit stands, the write joins those in hand, and the result is
placed or kept (R174, R181). -/
theorem setAccounts_writesAndAnswers {s : State} {o : Opcode} (ho : s.store.orderly) (u : AccountUnit) {w : RecordWrite}
    (hw : w.isMeters = false) (v : Values) :
    let t := submitAndAnswer w v ((commandTaken o s).setAccounts u)
    t.accounts = u ∧ s.writesAndAnswers o w v t ∧ (discardResult s).unchangedBut [.port, .accounts, .store] t :=
  ⟨by simp, submitAndAnswer_writesAndAnswers rfl (by simp) ho hw v, by simp [State.unchangedBut]⟩

/-- A changed account record takes its place in number order, and its write joins those in hand. -/
theorem writeTable_writesAndAnswers {s : State} {o : Opcode} (ho : s.store.orderly) (a : Account) (v : Values) :
    let t := writeTable a v (commandTaken o s)
    t.accounts = { (discardResult s).accounts with table := putSorted Account.number a s.accounts.table } ∧
    s.writesAndAnswers o (.account a.number (some a)) v t ∧
    (discardResult s).unchangedBut [.port, .accounts, .store] t := by
  obtain ⟨accounts, writes, unchanged⟩ :=
    setAccounts_writesAndAnswers (o := o) ho ((discardResult s).accounts.putTable a) (w := writeAccount a) rfl v
  refine ⟨accounts.trans ?_, writes, unchanged⟩
  rw [AccountUnit.putTable, discardResult_table]

/-! ### What each of them does -/

section
variable {s : State} {ps : List Byte}

/-- The checks of ACCOUNT ADD in their order (R143). -/
theorem accountAdd_eq {a : AccountAddOperand} (hr : AccountAddOperand.read ps = some a) :
    accountAdd ps s =
      if a.inRange = false then complete .badParam .none s
      else if s.admits a.number = false then complete .notHome .none s
      else if (s.accounts.find a.number).isSome then complete .jobOpen .none s
      else if s.accounts.table.length ≥ 512 then complete .tableFull .none s
      else writeTable a.record .none s := by
  simp only [accountAdd, hr]

theorem AccountAddOperand.inRange_iff (a : AccountAddOperand) : a.inRange = true ↔
    a.number ≠ 0 ∧ a.limit ≤ 100000 ∧ a.discount ≤ 50 ∧ -8388608 ≤ a.balance ∧ a.balance ≤ 16777215 := by
  simp [AccountAddOperand.inRange, and_assoc]

theorem State.admits_iff (n : Nat) : s.admits n = true ↔
    s.options.station ≠ none ∧ ∃ h, s.options.home = some h ∧ h.first ≤ n ∧ n ≤ h.last := by
  cases hh : s.options.home <;>
    simp [State.admits, State.own, hh, HomeRange.contains, Option.isSome_iff_ne_none]

@[simp] theorem admits_commandTaken (o : Opcode) (n : Nat) : (commandTaken o s).admits n = s.admits n := by
  simp [State.admits, State.own]

theorem accountCredit_outOfRange {c : AccountCreditOperand} (hr : AccountCreditOperand.read ps = some c)
    (out : c.amount < -100000 ∨ 100000 < c.amount) : accountCredit ps s = complete .badParam .none s := by
  simp only [accountCredit, hr, if_pos out]

section
variable {c : AccountCreditOperand} (hr : AccountCreditOperand.read ps = some c) (low : -100000 ≤ c.amount)
  (high : c.amount ≤ 100000)
include hr low high

theorem accountCredit_unknown (hf : s.accounts.find c.number = none) :
    accountCredit ps s = complete .noAccount .none s := by
  simp only [accountCredit, hr, hf, if_neg (show ¬ (c.amount < -100000 ∨ 100000 < c.amount) by omega)]

/-- An amount in range is credited to an account of the table (R144). -/
theorem accountCredit_known {a : Account} (hf : s.accounts.find c.number = some a) :
    accountCredit ps s = writeTable { a with balance := saturate (a.balance + c.amount) }
      (.credited (saturate (a.balance + c.amount))
        (s.accounts.available { a with balance := saturate (a.balance + c.amount) })) s := by
  simp only [accountCredit, hr, hf, if_neg (show ¬ (c.amount < -100000 ∨ 100000 < c.amount) by omega)]

end

theorem accountStatus_of_le {n : Nat} (h : n ≤ 1) :
    accountStatus n = some (if n = 0 then .opened else .suspended) := by
  unfold accountStatus
  split_ifs
  · rfl
  · rfl
  · omega

/-- The values of ACCOUNT SET outside their ranges, the status among them, are refused alike (R145). -/
theorem accountSet_outOfRange {o : AccountSetOperand} (hr : AccountSetOperand.read ps = some o)
    (out : ¬ (o.limit ≤ 100000 ∧ o.discount ≤ 50 ∧ o.status ≤ 1)) : accountSet ps s = complete .badParam .none s := by
  simp only [accountSet, hr]
  split
  · rfl
  · rename_i status hs
    have code : o.status ≤ 1 := by
      by_contra large
      simp [accountStatus, show o.status ≠ 0 by omega, show o.status ≠ 1 by omega] at hs
    rw [if_pos (by omega)]

section
variable {o : AccountSetOperand} (hr : AccountSetOperand.read ps = some o)
  (inRange : o.limit ≤ 100000 ∧ o.discount ≤ 50 ∧ o.status ≤ 1)
include hr inRange

theorem accountSet_unknown (hf : s.accounts.find o.number = none) : accountSet ps s = complete .noAccount .none s := by
  obtain ⟨limit, discount, code⟩ := inRange
  simp only [accountSet, hr, accountStatus_of_le code, hf,
    if_neg (show ¬ (o.limit > 100000 ∨ o.discount > 50) by omega)]

/-- Values in range replace those of an account of the table (R145). -/
theorem accountSet_known {a : Account} (hf : s.accounts.find o.number = some a) :
    accountSet ps s = writeTable { a with
      limit := o.limit, discount := o.discount, status := if o.status = 0 then .opened else .suspended } .none s := by
  obtain ⟨limit, discount, code⟩ := inRange
  simp only [accountSet, hr, accountStatus_of_le code, hf,
    if_neg (show ¬ (o.limit > 100000 ∨ o.discount > 50) by omega)]

end

theorem accountRemove_unknown {n : Nat} (hr : accountNumber ps = some n) (hf : s.accounts.find n = none) :
    accountRemove ps s = complete .noAccount .none s := by
  simp only [accountRemove, hr, hf]

/-- The checks of ACCOUNT REMOVE on an account of the table, in their order (R146). -/
theorem accountRemove_known {n : Nat} (hr : accountNumber ps = some n) {a : Account} (hf : s.accounts.find n = some a) :
    accountRemove ps s =
      if holdCount s.accounts.pool n .active + holdCount s.accounts.pool n .lapsed > 0 then complete .holdsOpen .none s
      else if a.statementDue then complete .statementDue .none s
      else
        submitAndAnswer (.account n none) (.removed a.balance (FiguresOf.map Counter.life a.figures))
          (s.setAccounts { s.accounts with table := dropKey Account.number n s.accounts.table }) := by
  simp only [accountRemove, hr, hf]

theorem holdCount_pos_iff (pool : List Hold) (n : Nat) :
    holdCount pool n .active + holdCount pool n .lapsed > 0 ↔
      (pool.any fun h => h.account == n && (h.state == .active || h.state == .lapsed)) = true := by
  simp only [holdCount, gt_iff_lt, Nat.add_pos_iff_pos_or_pos, List.length_pos_iff_exists_mem, List.mem_filter,
    List.any_eq_true, Bool.and_eq_true, Bool.or_eq_true, ← exists_or, ← and_or_left]

end

/-- Settles O45, by the amount and the account table. -/
theorem accountCreditMovesTheBalance : Obligations.AccountCreditMovesTheBalance := by
  unfold Obligations.AccountCreditMovesTheBalance
  intro s number amount ha ho hn hlow hhigh c
  have hr := AccountCreditOperand.read_spell hn hlow hhigh
  have taken := execAccountCredit_taken ha (ps := spell 2 number ++ spell 4 (unsigned32 amount))
    (by simp [Laws.Wire.spell_length])
  refine ⟨fun out => ?_, fun low high hf => ?_, fun a low high hf => ?_⟩
  · rw [taken, accountCredit_outOfRange hr out, complete_commandTaken]
  · rw [taken, accountCredit_unknown hr low high (by simpa using hf), complete_commandTaken]
  · obtain rfl := AccountUnit.number_of_find hf
    refine ⟨_, taken, ?_⟩
    rw [accountCredit_known hr low high (a := a) (by simpa using hf), commandTaken_accounts, discardResult_available]
    exact writeTable_writesAndAnswers ho _ _

/-- Settles O44, command by command, check by check. -/
theorem accountRecordsAreAddedSetRemoved : Obligations.AccountRecordsAreAddedSetRemoved := by
  unfold Obligations.AccountRecordsAreAddedSetRemoved
  intro s number limit discount ha ho hn hl hd
  refine ⟨fun balance hlow hhigh => ?_, fun status hs => ?_, ?_⟩
  · intro c inRange kept refused
    have hr := AccountAddOperand.read_spell hn hl hd hlow hhigh
    have taken := execAccountAdd_taken ha
      (ps := spell 2 number ++ spell 3 limit ++ spell 1 discount ++ spell 4 (unsigned32 balance))
      (by simp [Laws.Wire.spell_length])
    rw [accountAdd_eq hr] at taken
    simp only [admits_commandTaken, commandTaken_accounts, discardResult_find, discardResult_table,
      complete_commandTaken] at taken
    have range : AccountAddOperand.inRange ⟨number, limit, discount, balance⟩ = true ↔ inRange :=
      AccountAddOperand.inRange_iff _
    have keeps : s.admits number = true ↔ kept := State.admits_iff number
    refine ⟨fun out => ?_, fun fits away => ?_, fun fits home known => ?_, fun fits home new full => ?_,
      fun fits home new room => ?_⟩
    · rw [if_pos (Bool.eq_false_iff.mpr (range.not.mpr out))] at taken
      exact taken
    all_goals rw [if_neg (by rw [range.mpr fits]; decide)] at taken
    · rw [if_pos (Bool.eq_false_iff.mpr (keeps.not.mpr away))] at taken
      exact taken
    all_goals rw [if_neg (by rw [keeps.mpr home]; decide)] at taken
    · rw [if_pos (Option.isSome_iff_ne_none.mpr known)] at taken
      exact taken
    · rw [if_neg (by simp [new]), if_pos full] at taken
      exact taken
    · rw [if_neg (by simp [new]), if_neg (by omega)] at taken
      refine ⟨_, taken, ?_⟩
      exact writeTable_writesAndAnswers ho _ _
  · intro c inRange
    have hr := AccountSetOperand.read_spell hn hl hd hs
    have taken := execAccountSet_taken ha
      (ps := spell 2 number ++ spell 3 limit ++ spell 1 discount ++ spell 1 status) (by simp [Laws.Wire.spell_length])
    refine ⟨fun out => ?_, fun fits new => ?_, fun a fits hf => ⟨_, taken, ?_⟩⟩
    · rw [taken, accountSet_outOfRange hr out, complete_commandTaken]
    · rw [taken, accountSet_unknown hr fits (by simpa using new), complete_commandTaken]
    · obtain rfl := AccountUnit.number_of_find hf
      rw [accountSet_known hr fits (a := a) (by simpa using hf)]
      exact writeTable_writesAndAnswers ho _ _
  · intro c open_
    have hr := accountNumber_spell hn
    have taken := execAccountRemove_taken ha (ps := spell 2 number) (by simp [Laws.Wire.spell_length])
    refine ⟨fun new => ?_, fun a hf => ?_⟩
    · rw [taken, accountRemove_unknown hr (by simpa using new), complete_commandTaken]
    · rw [accountRemove_known hr (a := a) (by simpa using hf), complete_commandTaken, complete_commandTaken,
        commandTaken_accounts, discardResult_table] at taken
      have holds : holdCount (discardResult s).accounts.pool number .active +
          holdCount (discardResult s).accounts.pool number .lapsed > 0 ↔ open_ = true := by
        rw [discardResult_pool]
        exact holdCount_pos_iff _ _
      refine ⟨fun held => ?_, fun free due => ?_, fun free settled => ?_⟩
      · rw [taken, if_pos (holds.mpr held)]
      all_goals rw [if_neg (holds.not.mpr (Bool.eq_false_iff.mp free))] at taken
      · rw [taken, if_pos (show a.statementDue = true from due)]
      · rw [if_neg (show ¬ a.statementDue = true from Bool.eq_false_iff.mp settled)] at taken
        exact ⟨_, taken, setAccounts_writesAndAnswers ho
          { (discardResult s).accounts with table := dropKey Account.number number s.accounts.table } rfl _⟩

end Sys2Proof.Machine
end

section
/-! ## Holds in the pool (R123, R127, R128) -/

namespace Sys2Proof.Machine

/-! ### One record of the pool -/

section
variable {before after : List Hold} {h : Hold} (alone : ∀ x ∈ before ++ after, x.hold ≠ h.hold)
include alone

theorem find?_alone {p : Hold → Bool} (others : ∀ x, x.hold ≠ h.hold → p x = false) (found : p h = true) :
    (before ++ h :: after).find? p = some h := by
  have skipped : before.find? p = none := by
    simp only [List.find?_eq_none, Bool.not_eq_true]
    exact fun x hx => others x (alone x (List.mem_append_left _ hx))
  rw [List.find?_append, skipped, Option.none_or, List.find?_cons_of_pos found]

theorem filter_alone : (before ++ h :: after).filter (fun x => x.hold != h.hold) = before ++ after := by
  have rest : (before ++ after).filter (fun x => x.hold != h.hold) = before ++ after :=
    List.filter_eq_self.mpr fun x hx => by simpa using alone x hx
  rw [List.filter_append, List.filter_cons_of_neg (by simp), ← List.filter_append, rest]

theorem replaceHold_alone {new : Hold} (id : new.hold = h.hold) :
    replaceHold new (before ++ h :: after) = before ++ new :: after := by
  have same (l : List Hold) (hl : ∀ x ∈ l, x.hold ≠ h.hold) : l.map (fun x => if x.hold = new.hold then new else x) = l :=
    (List.map_congr_left fun x hx => if_neg (id ▸ hl x hx)).trans (List.map_id _)
  rw [replaceHold, List.map_append, List.map_cons, if_pos id.symm, same, same]
  · exact fun x hx => alone x (List.mem_append_right _ hx)
  · exact fun x hx => alone x (List.mem_append_left _ hx)

theorem findHold_alone {u : AccountUnit} (hp : u.pool = before ++ h :: after) : u.findHold h.hold = some h := by
  rw [AccountUnit.findHold, hp]
  exact find?_alone alone (fun x hx => by simpa using hx) (by simp)

/-- A record whose state changes leaves its place in the change order for the end of it (R127). -/
theorem changeHold_alone {u : AccountUnit} (hp : u.pool = before ++ h :: after) {new : Hold} (id : new.hold = h.hold) :
    changeHold new u = ({ u with pool := before ++ after ++ [{ new with stamp := u.nextStamp }], nextStamp := u.nextStamp + 1 },
      { new with stamp := u.nextStamp }) := by
  unfold changeHold moveHold
  simp only [hp, id]
  rw [filter_alone alone]

end

/-! ### The available amount (R123) -/

/-- What a record takes off the available amount of an account. -/
def Hold.heldOn (account : Nat) (h : Hold) : Nat := if h.account = account ∧ h.state = .active then h.unused else 0

@[simp] theorem heldOn_nil (n : Nat) : heldOn [] n = 0 := rfl

@[simp] theorem heldOn_cons (h : Hold) (l : List Hold) (n : Nat) : heldOn (h :: l) n = h.heldOn n + heldOn l n := by
  by_cases held : h.account = n ∧ h.state = .active
  · simp [heldOn, Hold.heldOn, held]
  · simp only [heldOn, Hold.heldOn, if_neg held, Nat.zero_add]
    rw [List.filter_cons_of_neg (by simpa using held)]

@[simp] theorem heldOn_append (l m : List Hold) (n : Nat) : heldOn (l ++ m) n = heldOn l n + heldOn m n := by
  simp [heldOn]

theorem Hold.heldOn_of_active {h : Hold} (state : h.state = .active) : h.heldOn h.account = h.unused := if_pos ⟨rfl, state⟩

theorem Hold.heldOn_of_not_active {h : Hold} (state : h.state ≠ .active) (n : Nat) : h.heldOn n = 0 :=
  if_neg fun held => state held.2

/-! ### A lapse (R128) -/

theorem expiredHold_alone {s : State} {before after : List Hold} {h : Hold} {due : TimePoint}
    (hp : s.accounts.pool = before ++ h :: after) (alone : ∀ x ∈ before ++ after, x.hold ≠ h.hold)
    (state : h.state = .active) (expiry : h.expiry = some due) (late : beyond s.timeBase due = true) :
    s.expiredHold h.hold = some h := by
  rw [State.expiredHold, hp]
  refine find?_alone alone (fun x hx => ?_) ?_
  · simp [hx]
  · simp [state, expiry, late]

/-- Settles O50: the record moves to the end of the change order and holds nothing any more. -/
theorem expiredHoldLapses : Obligations.ExpiredHoldLapses := by
  unfold Obligations.ExpiredHoldLapses
  intro s h before after due on hp alone state expiry late ho h1
  have lapsed : exec (.holdLapse h.hold) s = .next (lapseHold h s) := by
    show execHoldLapse h.hold s = _
    rw [execHoldLapse, whenPowered_on _ _ on, expiredHold_alone hp alone state expiry late]
  have change := changeHold_alone alone hp (new := { h with state := .lapsed, expiry := none }) rfl
  refine ⟨_, lapsed, ?_⟩
  rw [lapseHold, change]
  refine ⟨by simp [h1], submit_writes _ _ _ (by exact ho) rfl, by simp, fun a number => ?_, by simp [State.unchangedBut]⟩
  have nothing : h1.heldOn a.number = 0 := Hold.heldOn_of_not_active (by simp [h1]) _
  have unused : h.heldOn a.number = h.granted - h.posted := by rw [number]; exact Hold.heldOn_of_active state
  simp only [submit_accounts, State.setAccounts_accounts, AccountUnit.available, hp, heldOn_append, heldOn_cons,
    heldOn_nil, unused]
  rw [show Hold.heldOn a.number { h with state := .lapsed, expiry := none, stamp := s.accounts.nextStamp } = 0 from nothing]
  omega

end Sys2Proof.Machine
end

section
/-! ## Requests at the account unit (R130, R131) -/

namespace Sys2Proof.Machine

/-- The state in which a request is decided: it has left the arrivals (R131). -/
def requestTaken (rest : List Arrival) (s : State) : State := s.setAccounts { s.accounts with arrivals := rest }

section
variable (rest : List Arrival) (s : State)

@[simp] theorem requestTaken_accounts : (requestTaken rest s).accounts = { s.accounts with arrivals := rest } := rfl
@[simp] theorem requestTaken_timeBase : (requestTaken rest s).timeBase = s.timeBase := rfl
@[simp] theorem requestTaken_store : (requestTaken rest s).store = s.store := rfl
@[simp] theorem requestTaken_keeps (n : Nat) : (requestTaken rest s).keeps n = s.keeps n := rfl
@[simp] theorem requestTaken_find (n : Nat) : (requestTaken rest s).accounts.find n = s.accounts.find n := rfl
@[simp] theorem requestTaken_findHold (id : HoldId) :
    (requestTaken rest s).accounts.findHold id = s.accounts.findHold id := rfl
@[simp] theorem requestTaken_homeFails (o : Origin) (n : Nat) :
    homeFails o n (requestTaken rest s) = homeFails o n s := rfl

end

/-- The request that arrived first is taken, a peer's with the account answer place free, and its decision carried out
(R130, R131). -/
theorem execAccountRequestTaken_carriesOut {s : State} {a : Arrival} {rest : List Arrival} {d : Decision}
    (on : s.powered = true) (idle : s.accounts.inHand = none) (first : s.accounts.arrivals = a :: rest)
    (free : a.origin.isPeer = true → s.placeTaken .accountAnswer = false)
    (decided : decideRequest a (requestTaken rest s) = some d) :
    exec .accountRequestTaken s = .next (carryOut a d (requestTaken rest s)) := by
  have next : s.nextRequest = some a := by
    rw [State.nextRequest, idle, first, if_neg (by simp), List.find?_cons_of_pos]
    cases peer : a.origin.isPeer
    · rfl
    · rw [free peer]; rfl
  have taken : takeRequest a s = carryOut a d (requestTaken rest s) := by
    have left : s.setAccounts { s.accounts with arrivals := s.accounts.arrivals.erase a } = requestTaken rest s := by
      rw [requestTaken, first, List.erase_cons_head]
    rw [takeRequest, left, decided]
  show execAccountRequestTaken s = _
  rw [execAccountRequestTaken, whenPowered_on _ _ on, next]
  exact congrArg _ taken

/-! ### Answers held until their writes have completed -/

theorem RecordWrite.isMeters_of_ofAccountUnit {w : RecordWrite} (h : w.ofAccountUnit = true) : w.isMeters = false := by
  cases w with
  | meters m => cases h
  | _ => rfl

/-- Submissions change the store alone, and put their writes at the end of those in hand (R181). -/
theorem submitAll_spec (t : WriteTag) {l : List RecordWrite} {s : State} (ho : s.store.orderly)
    (hl : ∀ w ∈ l, w.ofAccountUnit = true) :
    (∃ x, l.foldl (fun y w => submit t w y) s = s.setStore x) ∧
    (l.foldl (fun y w => submit t w y) s).store.writes = s.store.writes ++ l ∧
    (l.foldl (fun y w => submit t w y) s).store.records = s.store.records := by
  induction l generalizing s with
  | nil => exact ⟨⟨s.store, rfl⟩, by simp, rfl⟩
  | cons w rest ih =>
    have meters := RecordWrite.isMeters_of_ofAccountUnit (hl w List.mem_cons_self)
    obtain ⟨⟨x, hx⟩, writes, records⟩ := ih (submit_orderly t w s ho) fun v hv => hl v (List.mem_cons_of_mem _ hv)
    obtain ⟨y, hy⟩ := submit_store_only t w s
    refine ⟨⟨x, ?_⟩, ?_, ?_⟩
    · rw [List.foldl_cons, hx, hy]; rfl
    · rw [List.foldl_cons, writes, submit_writes _ _ _ ho (begun_of_not_meters _ _ meters), List.append_assoc]
      rfl
    · rw [List.foldl_cons, records, submit_records]

/-- A decision with writes: the request is in hand with its answer, the decided unit stands, and the writes join those in
hand (R131). -/
theorem carryOut_written {a : Arrival} {d : Decision} {s : State} (ho : s.store.orderly) (written : d.writes ≠ [])
    (kind : ∀ w ∈ d.writes, w.ofAccountUnit = true) :
    let t := carryOut a d s
    t.accounts = { d.unit with inHand := some { arrival := a, answer := d.answer, outstanding := d.writes.length } } ∧
    t.store.writes = s.store.writes ++ d.writes ∧ t.store.records = s.store.records ∧
    s.unchangedBut [.accounts, .store, .free] t ∧ (d.fresh = false → s.unchangedBut [.accounts, .store] t) := by
  have decided (b : Bool) : ∃ n, (if b then advanceFree (s.setAccounts d.unit) else s.setAccounts d.unit) =
      (s.setAccounts d.unit).setFree n ∧ (b = false → n = s.free) := by
    cases b
    · exact ⟨s.free, rfl, fun _ => rfl⟩
    · exact ⟨s.free + 1, rfl, nofun⟩
  obtain ⟨n, e, free⟩ := decided d.fresh
  unfold carryOut
  dsimp only
  rw [e, if_neg written]
  obtain ⟨⟨x, hx⟩, writes, records⟩ := submitAll_spec .request (s := ((s.setAccounts d.unit).setFree n).setAccounts
    { d.unit with inHand := some { arrival := a, answer := d.answer, outstanding := d.writes.length } }) ho kind
  refine ⟨?_, writes, records, ?_, fun stale => ?_⟩
  · exact (congrArg State.accounts hx).trans rfl
  · refine Eq.mpr (congrArg _ hx) ?_
    simp [State.unchangedBut]
  · refine Eq.mpr (congrArg _ hx) ?_
    simp [State.unchangedBut, free stale]

/-! ### Answers that leave at once -/

/-- A decision without writes: the decided unit stands, and the answer leaves (R131). -/
theorem carryOut_atOnce {a : Arrival} {d : Decision} {s : State} (none_written : d.writes = []) :
    carryOut a d s = releaseAnswer { arrival := a, answer := d.answer, outstanding := 0 }
      (if d.fresh then advanceFree (s.setAccounts d.unit) else s.setAccounts d.unit) := by
  unfold carryOut
  dsimp only
  rw [if_pos none_written, none_written]
  rfl

/-- The line of `s` with an answer of the account unit waiting in its place (R108). -/
def State.answering (s : State) (station exch : Nat) (body : Payload) : LineUnit :=
  { s.line with waiting := s.line.waiting ++ [OutFrame.mk .accountAnswer
    { head := { dest := station, source := s.own.getD 0, exch := exch }, body := body } 0] }

/-- A peer's answer goes to the account answer place (R131). -/
theorem releaseAnswer_peer {x : InHand} {s : State} {station exch : Nat} (origin : x.arrival.origin = .peer station exch)
    (member : s.line.state = .member) : releaseAnswer x s = s.setLine (s.answering station exch x.answer) := by
  have onLine : s.onLine = true := by simp [State.onLine, member]
  unfold releaseAnswer
  rw [origin]
  dsimp only
  rw [if_pos onLine]
  rfl

end Sys2Proof.Machine
end

section
/-! ## Requests decided and answered (R130 to R132) -/

namespace Sys2Proof.Machine

theorem State.unchangedBut_of_requestTaken {rest : List Arrival} {s t : State} {changed : List Block}
    (mem : .accounts ∈ changed) (h : (requestTaken rest s).unchangedBut changed t) : s.unchangedBut changed t := by
  simp only [State.unchangedBut, mem, not_true_eq_false, false_implies, true_and] at h ⊢
  exact h

section
variable {s : State} {rest : List Arrival} {d : Decision}

/-- A request with nothing to write: its answer leaves at once (R131). -/
theorem execAccountRequestTaken_atOnce {x : Arrival} (on : s.powered = true) (idle : s.accounts.inHand = none)
    (first : s.accounts.arrivals = x :: rest) (free : x.origin.isPeer = true → s.placeTaken .accountAnswer = false)
    (decided : decideRequest x (requestTaken rest s) = some d) (none_written : d.writes = []) :
    exec .accountRequestTaken s = .next (releaseAnswer { arrival := x, answer := d.answer, outstanding := 0 }
      { s with accounts := d.unit, free := if d.fresh then s.free + 1 else s.free }) := by
  rw [execAccountRequestTaken_carriesOut on idle first free decided, carryOut_atOnce none_written]
  cases d.fresh
  · rfl
  · rfl

/-- A peer's waits in the account answer place. -/
theorem execAccountRequestTaken_peer_atOnce {station exch : Nat} {body : Payload} (on : s.powered = true)
    (idle : s.accounts.inHand = none) (first : s.accounts.arrivals = { origin := .peer station exch, body := body } :: rest)
    (free : s.placeTaken .accountAnswer = false) (member : s.line.state = .member)
    (decided : decideRequest { origin := .peer station exch, body := body } (requestTaken rest s) = some d)
    (none_written : d.writes = []) :
    exec .accountRequestTaken s = .next { s with
      accounts := d.unit, line := s.answering station exch d.answer, free := if d.fresh then s.free + 1 else s.free } :=
  (execAccountRequestTaken_atOnce on idle first (fun _ => free) decided none_written).trans
    (congrArg _ (releaseAnswer_peer rfl member))

/-- A request with writes: its answer is held until they have completed (R131). -/
theorem execAccountRequestTaken_written {x : Arrival} (on : s.powered = true) (idle : s.accounts.inHand = none)
    (first : s.accounts.arrivals = x :: rest) (free : x.origin.isPeer = true → s.placeTaken .accountAnswer = false)
    (ho : s.store.orderly) (decided : decideRequest x (requestTaken rest s) = some d) (written : d.writes ≠ []) :
    ∃ t, exec .accountRequestTaken s = .next t ∧
      t.accounts = { d.unit with inHand := some { arrival := x, answer := d.answer, outstanding := d.writes.length } } ∧
      t.store.writes = s.store.writes ++ d.writes ∧ t.store.records = s.store.records ∧
      s.unchangedBut [.accounts, .store, .free] t ∧ (d.fresh = false → s.unchangedBut [.accounts, .store] t) := by
  have kind := decideRequest_writes decided
  obtain ⟨accounts, writes, records, frame, still⟩ := carryOut_written (a := x) (s := requestTaken rest s) ho written kind
  exact ⟨_, execAccountRequestTaken_carriesOut on idle first free decided, accounts, writes, records,
    State.unchangedBut_of_requestTaken (by simp) frame,
    fun stale => State.unchangedBut_of_requestTaken (by simp) (still stale)⟩

end

/-! ### An offline POST without a hold record (R141) -/

section
variable {s : State} {o : Origin} {r : PostFields} {a : Account}

theorem decidePost_unknown (charged : r.charged ≤ 999999) (home : homeFails o r.account s = false)
    (unknown : s.accounts.findHold r.hold = none) (offline : r.offline = false) :
    decidePost o r s = postRefused s .unknownHold := by
  simp [decidePost, Nat.not_lt.mpr charged, home, unknown, offline]

theorem decidePost_offline (charged : r.charged ≤ 999999) (home : homeFails o r.account s = false)
    (unknown : s.accounts.findHold r.hold = none) (offline : r.offline = true) (found : s.accounts.find r.account = some a) :
    decidePost o r s = recordOffline r a s := by
  simp [decidePost, Nat.not_lt.mpr charged, home, unknown, offline, found]

end

/-- The record that an offline POST makes (R141). -/
def offlineHold (r : PostFields) (place stamp : Nat) : Hold where
  hold := r.hold
  account := r.account
  state := .settled
  granted := 0
  posted := r.charged
  postedUsage := r.usage
  expiry := none
  place := place
  stamp := stamp

/-- The record stands at the end of the change order, whatever record makes room for it (R127, R141). -/
theorem recordOffline_eq (r : PostFields) (a : Account) (s : State) : ∃ pool place,
    recordOffline r a s = postTaken
      { s.accounts with
        table := putSorted Account.number (a.charge r.charged (postFigures r.usage r.charged true r.final)) s.accounts.table
        pool := pool ++ [offlineHold r place s.accounts.nextStamp]
        nextStamp := s.accounts.nextStamp + 1 }
      [.hold place (some (offlineHold r place s.accounts.nextStamp)),
        writeAccount (a.charge r.charged (postFigures r.usage r.charged true r.final))] false r.charged :=
  ⟨(makeRoom none s.accounts.pool).1, (makeRoom none s.accounts.pool).2, rfl⟩

theorem decideRequest_post {o : Origin} {r : PostFields} {s : State} (station : r.hold.station ≤ 31)
    (account : r.account ≠ 0) : decideRequest { origin := o, body := .post r } s = some (decidePost o r s) := by
  simp [decideRequest, Nat.not_lt.mpr station, account]

theorem homeFails_of_keeps {o : Origin} {n : Nat} {s : State} (keeps : o.isPeer = true → s.keeps n = true) :
    homeFails o n s = false := by
  unfold homeFails
  cases peer : o.isPeer
  · rfl
  · simp [keeps peer]

/-- Settles O49: the decision is `recordOffline`, whose record stands at the end of the pool, or UNKNOWN_HOLD. -/
theorem offlinePostMakesASettledHold : Obligations.OfflinePostMakesASettledHold := by
  unfold Obligations.OfflinePostMakesASettledHold
  intro s station exch r rest a on idle free member first near account charged keeps unknown found ho a1
  have home : homeFails (.peer station exch) r.account (requestTaken rest s) = false :=
    homeFails_of_keeps fun _ => keeps
  refine ⟨fun offline => ?_, fun offline => ?_⟩
  · obtain ⟨pool, place, made⟩ := recordOffline_eq r a (requestTaken rest s)
    have decided := (decidePost_offline charged home (by exact unknown) offline found).trans made
    obtain ⟨t, next, accounts, writes, -, -, frame⟩ := execAccountRequestTaken_written on idle first (fun _ => free) ho
      ((decideRequest_post near account).trans (congrArg some decided)) (List.cons_ne_nil _ _)
    refine ⟨t, offlineHold r place s.accounts.nextStamp, next, ?_⟩
    rw [accounts, writes]
    exact ⟨List.mem_append_right _ (List.mem_singleton.mpr rfl), rfl, rfl, rfl, rfl, rfl, rfl, rfl, rfl, rfl, rfl, rfl,
      frame rfl⟩
  · have decided := decidePost_unknown charged home (by exact unknown) offline
    exact ⟨_, _, execAccountRequestTaken_peer_atOnce on idle first free member
      ((decideRequest_post near account).trans (congrArg some decided)) rfl, rfl, rfl, rfl, by simp [State.unchangedBut]⟩

end Sys2Proof.Machine
end

section
/-! ## A HOLD REQUEST at its home (R132 to R134) -/

namespace Sys2Proof.Machine

theorem decideRequest_holdRequest {o : Origin} {r : HoldRequestFields} {s : State} (station : r.hold.station ≤ 31)
    (account : r.account ≠ 0) : decideRequest { origin := o, body := .holdRequest r } s = some (decideHold o r s) := by
  simp [decideRequest, Nat.not_lt.mpr station, account]

/-! ### The cases of the decision -/

section
variable {o : Origin} {r : HoldRequestFields} {s : State} {a : Account} (amount : r.amount ≤ 16777215)
  (minimum : r.minimum ≤ 16777215) (home : homeFails o r.account s = false) (found : s.accounts.find r.account = some a)
include amount minimum home found

theorem decideHold_new (unknown : s.accounts.findHold r.hold = none) :
    decideHold o r s = grantHold r a s.accounts none [] s := by
  simp [decideHold, Nat.not_lt.mpr amount, Nat.not_lt.mpr minimum, home, found, unknown]

theorem decideHold_active {h : Hold} (known : s.accounts.findHold r.hold = some h) (state : h.state = .active) :
    decideHold o r s = holdGranted s.accounts [] h.granted a.discount := by
  simp [decideHold, Nat.not_lt.mpr amount, Nat.not_lt.mpr minimum, home, found, known, state]

theorem decideHold_discarded {h : Hold} (known : s.accounts.findHold r.hold = some h) (state : h.state ≠ .active) :
    decideHold o r s = grantHold r a { s.accounts with pool := s.accounts.pool.filter fun x => x.hold != h.hold }
      (some h.place) [.hold h.place none] s := by
  simp [decideHold, Nat.not_lt.mpr amount, Nat.not_lt.mpr minimum, home, found, known, state]

end

/-- The record that a granted HOLD REQUEST makes (R134). -/
def grantedHold (r : HoldRequestFields) (granted : Nat) (now : TimePoint) (place stamp : Nat) : Hold where
  hold := r.hold
  account := r.account
  state := .active
  granted := granted
  posted := 0
  postedUsage := UsageOf.all 0
  expiry := some (after now holdLifetime)
  place := place
  stamp := stamp

section
variable {r : HoldRequestFields} {a : Account} {u : AccountUnit} {freed : Option Nat} {writes : List RecordWrite} {s : State}

theorem grantHold_suspended (status : a.status = .suspended) :
    grantHold r a u freed writes s = holdRefused s u writes .suspended := if_pos status

theorem grantHold_poolFull (status : a.status = .opened) (full : 47 ≤ activeCount u.pool) :
    grantHold r a u freed writes s = holdRefused s u writes .poolFull := by
  simp [grantHold, status, full]

theorem grantHold_noFunds (status : a.status = .opened) (room : activeCount u.pool < 47)
    (short : u.available a < (leastOf r.minimum : Int) ∨ 100000 < leastOf r.minimum) :
    grantHold r a u freed writes s = holdRefused s u writes .noFunds := by
  simp [grantHold, status, Nat.not_le.mpr room, short]

theorem grantHold_granted {p : Nat} (status : a.status = .opened) (room : activeCount u.pool < 47)
    (funds : (leastOf r.minimum : Int) ≤ u.available a) (least : leastOf r.minimum ≤ 100000)
    (place : makeRoom freed u.pool = (u.pool, p)) :
    let g := min (askedOf r.amount r.minimum) (min (u.available a).toNat 100000)
    let made := grantedHold r g s.timeBase p u.nextStamp
    grantHold r a u freed writes s = holdGranted { u with pool := u.pool ++ [made], nextStamp := u.nextStamp + 1 }
      [.hold p (some made.stored)] g a.discount := by
  simp [grantHold, status, Nat.not_le.mpr room, Int.not_lt.mpr funds, Nat.not_lt.mpr least, addHold, place, writeHold,
    grantedHold]

end

/-! ### What a record takes off the available amount (R123) -/

/-- A record at the end of the change order takes its unused part. -/
theorem available_append (u : AccountUnit) (a : Account) (pool : List Hold) (h : Hold) :
    AccountUnit.available { u with pool := pool ++ [h] } a =
      AccountUnit.available { u with pool := pool } a - h.heldOn a.number := by
  simp only [AccountUnit.available, heldOn_append, heldOn_cons, heldOn_nil]
  omega

/-- A record that is not ACTIVE takes nothing. -/
theorem available_middle (u : AccountUnit) (a : Account) (before after : List Hold) {h : Hold} (state : h.state ≠ .active) :
    AccountUnit.available { u with pool := before ++ h :: after } a =
      AccountUnit.available { u with pool := before ++ after } a := by
  simp [AccountUnit.available, Hold.heldOn_of_not_active state]

theorem activeCount_middle (before after : List Hold) {h : Hold} (state : h.state ≠ .active) :
    activeCount (before ++ h :: after) = activeCount (before ++ after) := by
  simp [activeCount, state]

theorem exists_freePlace {pool : List Hold} {p : Nat} (within : p < 48) (free : ∀ h ∈ pool, h.place ≠ p) :
    ∃ q, freePlace pool = some q := by
  refine Option.isSome_iff_exists.mp (List.find?_isSome.mpr ⟨p, List.mem_range.mpr within, ?_⟩)
  simpa using free

/-- Settles O46: by the case of the decision; a grant adds the record, which takes the grant off the available amount. -/
theorem holdGrantStaysWithinAvailable : Obligations.HoldGrantStaysWithinAvailable := by
  unfold Obligations.HoldGrantStaysWithinAvailable
  intro s station exch r rest a on idle free member first near account amount minimum keeps found
    m q available active g answered held granted
  have home : homeFails (.peer station exch) r.account (requestTaken rest s) = false :=
    homeFails_of_keeps fun _ => keeps
  have grants {pool : List Hold} {freed : Option Nat} {writes : List RecordWrite} {p : Nat}
      (decided : decideHold (.peer station exch) r (requestTaken rest s) =
        grantHold r a { s.accounts with arrivals := rest, pool := pool } freed writes (requestTaken rest s))
      (place : makeRoom freed pool = (pool, p)) (same : AccountUnit.available { s.accounts with pool := pool } a = available)
      (status : a.status = .opened) (room : activeCount pool < 47) (funds : (m : Int) ≤ available) (least : m ≤ 100000)
      (ho : s.store.orderly) :
      ∃ t made, exec .accountRequestTaken s = .next t ∧ granted made pool t ∧ made.place = p := by
    have toGrant := decided.trans (grantHold_granted status room (funds.trans_eq same.symm) least place)
    obtain ⟨t, next, accounts, stored, records, -, frame⟩ := execAccountRequestTaken_written on idle first (fun _ => free)
      ho ((decideRequest_holdRequest near account).trans (congrArg some toGrant)) (List.cons_ne_nil _ _)
    have grant : min (askedOf r.amount r.minimum)
        (min (AccountUnit.available { s.accounts with arrivals := rest, pool := pool } a).toNat 100000) = g :=
      congrArg (fun x : Int => min q (min x.toNat 100000)) same
    rw [grant] at accounts stored
    have left : t.accounts.available a = available - g := by
      have takes : (grantedHold r g s.timeBase p s.accounts.nextStamp).heldOn a.number = g := by
        rw [AccountUnit.number_of_find found]
        exact Hold.heldOn_of_active rfl
      have appended := available_append s.accounts a pool (grantedHold r g s.timeBase p s.accounts.nextStamp)
      rw [same, takes] at appended
      exact (congrArg (AccountUnit.available · a) accounts).trans appended
    have within : 0 ≤ available - g ∧ m ≤ g := by omega
    refine ⟨t, grantedHold r g s.timeBase p s.accounts.nextStamp, next, ⟨?_, rfl, rfl, rfl, rfl, rfl, rfl, rfl, ?_, ?_,
      left, left ▸ within.1, within.2, ?_, stored, records, frame rfl⟩, rfl⟩
    all_goals rw [accounts]; rfl
  have refuses {d : Decision} (decided : decideHold (.peer station exch) r (requestTaken rest s) = d)
      (none_written : d.writes = []) :
      exec .accountRequestTaken s = .next { s with
        accounts := d.unit, line := s.answering station exch d.answer, free := if d.fresh then s.free + 1 else s.free } :=
    execAccountRequestTaken_peer_atOnce on idle first free member
      ((decideRequest_holdRequest near account).trans (congrArg some decided)) none_written
  constructor
  · intro unknown refused
    have decided := decideHold_new amount minimum home found unknown
    refine ⟨fun status => ?_, fun status full => ?_, fun status room short => ?_, fun status room funds least ho spare => ?_⟩
    · exact ⟨_, _, refuses (decided.trans (grantHold_suspended status)) rfl, rfl, rfl, rfl, nofun,
        by simp [State.unchangedBut]⟩
    · exact ⟨_, _, refuses (decided.trans (grantHold_poolFull status full)) rfl, rfl, rfl, rfl, nofun,
        by simp [State.unchangedBut]⟩
    · exact ⟨_, _, refuses (decided.trans (grantHold_noFunds status room short)) rfl, rfl, rfl, rfl, fun _ => rfl,
        by simp [State.unchangedBut]⟩
    · obtain ⟨p, within, spare⟩ := spare
      obtain ⟨place, found_place⟩ := exists_freePlace within spare
      obtain ⟨t, made, next, spec, -⟩ := grants decided (p := place) (by simp [makeRoom, found_place]) rfl status room
        funds least ho
      exact ⟨t, made, next, spec⟩
  · intro before after h hp id alone
    rw [← id] at alone
    have known : (requestTaken rest s).accounts.findHold r.hold = some h := id ▸ findHold_alone alone hp
    refine ⟨fun state => ?_, fun state status room funds least ho => ?_, fun state status ho => ?_⟩
    · exact refuses (decideHold_active amount minimum home found known state) rfl
    · have decided := decideHold_discarded amount minimum home found known state
      have same : AccountUnit.available { s.accounts with pool := before ++ after } a = available := by
        rw [← available_middle _ _ _ _ state, ← hp]
      have count : activeCount (before ++ after) < 47 := by rwa [← activeCount_middle _ _ state, ← hp]
      have removed := filter_alone alone
      rw [requestTaken_accounts, hp, removed] at decided
      obtain ⟨t, made, next, spec, place⟩ := grants decided rfl same status count funds least ho
      exact ⟨t, made, next, spec, place⟩
    · have decided := (decideHold_discarded amount minimum home found known state).trans (grantHold_suspended status)
      obtain ⟨t, next, accounts, stored, records, frame, -⟩ := execAccountRequestTaken_written on idle first
        (fun _ => free) ho ((decideRequest_holdRequest near account).trans (congrArg some decided)) (List.cons_ne_nil _ _)
      rw [requestTaken_accounts, hp, filter_alone alone] at accounts
      exact ⟨t, _, next, rfl, accounts, stored, records, frame⟩

end Sys2Proof.Machine
end

section
/-! ## A TOP-UP REQUEST on an ACTIVE hold (R132, R135) -/

namespace Sys2Proof.Machine

/-- A record that takes `n` more than the one in its place lowers the available amount by `n` (R123). -/
theorem available_replaced {u : AccountUnit} {a : Account} {before after : List Hold} {h new : Hold} {n : Nat}
    (more : new.heldOn a.number = h.heldOn a.number + n) :
    AccountUnit.available { u with pool := before ++ new :: after } a =
      AccountUnit.available { u with pool := before ++ h :: after } a - n := by
  simp only [AccountUnit.available, heldOn_append, heldOn_cons, more]
  omega

/-! ### The cases of the decision -/

theorem decideRequest_topUpRequest {o : Origin} {r : TopUpRequestFields} {s : State} (station : r.hold.station ≤ 31) :
    decideRequest { origin := o, body := .topUpRequest r } s = some (decideTopUp o r s) := by
  simp [decideRequest, Nat.not_lt.mpr station]

theorem decideTopUp_active {o : Origin} {r : TopUpRequestFields} {s : State} {h : Hold} (amount : r.amount ≤ 16777215)
    (minimum : r.minimum ≤ 16777215) (known : s.accounts.findHold r.hold = some h) (state : h.state = .active)
    (home : homeFails o h.account s = false) : decideTopUp o r s = grantTopUp r h s := by
  simp [decideTopUp, Nat.not_lt.mpr amount, Nat.not_lt.mpr minimum, known, state, home]

/-- The grant of a TOP-UP on a hold of `granted` with `available` left on the account (R135). -/
def topUpGrant (r : TopUpRequestFields) (available : Int) (granted : Nat) : Nat :=
  min (min (askedOf r.amount r.minimum) (min available.toNat 100000)) (16777215 - granted)

section
variable {r : TopUpRequestFields} {h : Hold} {s : State} {a : Account} {pool : List Hold}
  (renewed : replaceHold (h.renewed s.timeBase) s.accounts.pool = pool) (found : s.accounts.find h.account = some a)
include renewed found

theorem grantTopUp_suspended (status : a.status = .suspended) :
    grantTopUp r h s = holdRefused s { s.accounts with pool := pool } [] .suspended := by
  unfold grantTopUp
  dsimp only
  rw [renewed, show AccountUnit.find { s.accounts with pool := pool } h.account = some a from found]
  exact if_pos status

variable {available : Int} (same : AccountUnit.available { s.accounts with pool := pool } a = available)
include same

theorem grantTopUp_noFunds (status : a.status = .opened)
    (short : available < (leastOf r.minimum : Int) ∨ 100000 < leastOf r.minimum ∨
      topUpGrant r available h.granted < leastOf r.minimum) :
    grantTopUp r h s = holdRefused s { s.accounts with pool := pool } [] .noFunds := by
  subst same
  unfold grantTopUp
  dsimp only
  rw [renewed, show AccountUnit.find { s.accounts with pool := pool } h.account = some a from found]
  dsimp only
  rw [if_neg (by simp [status])]
  split
  · rfl
  next funds => exact if_pos ((or_assoc.mpr short).resolve_left funds)

theorem grantTopUp_granted (status : a.status = .opened) (funds : (leastOf r.minimum : Int) ≤ available)
    (least : leastOf r.minimum ≤ 100000) (enough : leastOf r.minimum ≤ topUpGrant r available h.granted) :
    let new := { h.renewed s.timeBase with granted := h.granted + topUpGrant r available h.granted }
    grantTopUp r h s = holdGranted { s.accounts with pool := replaceHold new s.accounts.pool } [writeHold new]
      (topUpGrant r available h.granted) a.discount := by
  subst same
  have inPlace {new : Hold} (id : new.hold = h.hold) : replaceHold new pool = replaceHold new s.accounts.pool :=
    renewed ▸ replaceHold_replaceHold id.symm
  unfold grantTopUp
  dsimp only
  rw [renewed, show AccountUnit.find { s.accounts with pool := pool } h.account = some a from found]
  dsimp only
  rw [if_neg (by simp [status]), if_neg (not_or.mpr ⟨Int.not_lt.mpr funds, Nat.not_lt.mpr least⟩),
    inPlace (by rfl)]
  exact if_neg (Nat.not_lt.mpr enough)

end

/-! ### The own job unit's answer (R15, R149, R151) -/

/-- A refused top-up concerns the job and the port: the feed or the FUNDS REFUSED notice. -/
theorem jobOutcome_topUpRefused {s : State} {r : TopUpRequestFields} {a : HoldAnswerFields} (idle : s.job.waiting = [])
    (notOk : a.status ≠ Reason.ok.code) (notLapsed : a.status ≠ Reason.lapsed.code) :
    s.unchangedBut [.job, .port] (jobOutcome (.topUpRequest r) (.answer (.holdAnswer a)) s) := by
  cases isLocal : s.jobIsLocal
  · have outcome : remoteTopUp r.amount (.answer (.holdAnswer a)) s =
        raiseNotice (.fundsRefused (topUpRefusal a.status)) (topUpRefused s) := by
      simp [remoteTopUp, notOk, notLapsed]
    rw [jobOutcome_remoteTopUp isLocal, outcome, pumpJob_none (by simpa [topUpRefused, State.setCtx] using idle)]
    simp [State.unchangedBut, topUpRefused, State.setCtx]
  · have outcome : jobOutcome (.topUpRequest r) (.answer (.holdAnswer a)) s =
        pumpJob (refuseFeed .noFunds (topUpRefused s)) := by
      simp [jobOutcome, isLocal, localTopUp, notOk, notLapsed]
    rw [outcome, pumpJob_none (by simpa [refuseFeed, topUpRefused, State.setCtx] using idle)]
    simp [State.unchangedBut, refuseFeed, topUpRefused, State.setCtx]

/-- What an own unit leaves unchanged of the state in which it is answered. -/
theorem unchangedBut_of_answered {s t : State} {u : AccountUnit} {n : Nat}
    (h : { s with accounts := u, free := n }.unchangedBut [.job, .port] t) :
    t.accounts = u ∧ s.unchangedBut [.accounts, .line, .job, .port, .free] t := by
  simp_all [State.unchangedBut]

/-- Settles O47: by the case of `grantTopUp`; the renewal leaves the available amount as it was, and the larger hold takes
the grant off it. -/
theorem topUpGrantStaysWithinAvailable : Obligations.TopUpGrantStaysWithinAvailable := by
  unfold Obligations.TopUpGrantStaysWithinAvailable
  intro s origin r rest a before after h on idle first near from_ amount minimum hp id alone state posted bound found
    m available g renewed
  rw [← id] at alone
  have free : origin.isPeer = true → s.placeTaken .accountAnswer = false := by
    rcases from_ with rfl | ⟨_, _, rfl, free, -⟩
    · exact nofun
    · exact fun _ => free
  have home : homeFails origin h.account (requestTaken rest s) = false := by
    rcases from_ with rfl | ⟨_, _, rfl, -, -, keeps⟩
    · rfl
    · exact homeFails_of_keeps fun _ => keeps
  have known : (requestTaken rest s).accounts.findHold r.hold = some h := id ▸ findHold_alone alone hp
  have decided : decideRequest { origin := origin, body := .topUpRequest r } (requestTaken rest s) =
      some (grantTopUp r h (requestTaken rest s)) :=
    (decideRequest_topUpRequest near).trans (congrArg some (decideTopUp_active amount minimum known state home))
  have replaced (new : Hold) (same : new.hold = h.hold) :
      replaceHold new (requestTaken rest s).accounts.pool = before ++ new :: after :=
    (congrArg (replaceHold new) hp).trans (replaceHold_alone alone same)
  have unused : h.heldOn a.number = h.granted - h.posted := by
    rw [AccountUnit.number_of_find found]
    exact Hold.heldOn_of_active state
  have available_new (new : Hold) (n : Nat) (account : new.account = h.account) (active : new.state = .active)
      (takes : new.granted - new.posted = h.granted - h.posted + n) :
      AccountUnit.available { s.accounts with pool := before ++ new :: after } a = available - n := by
    have new_unused : new.heldOn a.number = h.heldOn a.number + n := by
      rw [unused, ← takes, AccountUnit.number_of_find found, ← account]
      exact Hold.heldOn_of_active active
    exact (available_replaced new_unused).trans (by rw [← hp])
  have same : AccountUnit.available { s.accounts with pool := before ++ renewed :: after } a = available := by
    simpa using available_new renewed 0 rfl state rfl
  have in_place := replaced (h.renewed s.timeBase) rfl
  constructor
  · intro status ho funds least enough h1
    have granted : grantTopUp r h (requestTaken rest s) = holdGranted
        { s.accounts with pool := before ++ h1 :: after, arrivals := rest } [writeHold h1] g a.discount :=
      (grantTopUp_granted (s := requestTaken rest s) in_place found same status funds least enough).trans
        (congrArg (fun pool => holdGranted { s.accounts with pool := pool, arrivals := rest } [writeHold h1] g a.discount)
          (replaced h1 rfl))
    obtain ⟨t, next, accounts, stored, records, -, frame⟩ := execAccountRequestTaken_written on idle first free ho
      (decided.trans (congrArg some granted)) (List.cons_ne_nil _ _)
    have left : t.accounts.available a = available - g :=
      (congrArg (AccountUnit.available · a) accounts).trans
        (available_new h1 g rfl state (by simp only [h1, renewed]; omega))
    refine ⟨t, next, ?_, ?_, ?_, left, by rw [left]; omega, ?_, stored, records, frame rfl⟩
    all_goals rw [accounts]; rfl
  · intro refused
    have refuses {x : Reason} (refusal : grantTopUp r h (requestTaken rest s) = holdRefused (requestTaken rest s)
        { s.accounts with pool := before ++ renewed :: after, arrivals := rest } [] x) (notOk : x.code ≠ Reason.ok.code)
        (notLapsed : x.code ≠ Reason.lapsed.code) : refused x := by
      rw [refusal] at decided
      rcases from_ with rfl | ⟨station, exch, rfl, -, member, -⟩
      · refine ⟨_, execAccountRequestTaken_atOnce on idle first free decided rfl, fun none_waiting => ?_, nofun⟩
        have outcome := jobOutcome_topUpRefused (r := r)
          (a := ⟨x.code, if x = .noFunds then 0 else freshAmount (requestTaken rest s), freshRate (requestTaken rest s)⟩)
          (s := { s with
            accounts := { s.accounts with pool := before ++ renewed :: after, arrivals := rest }, free := s.free + 1 })
          (none_waiting.resolve_right (by simp)) notOk notLapsed
        exact unchangedBut_of_answered outcome
      · refine ⟨_, execAccountRequestTaken_peer_atOnce on idle first (free rfl) member decided rfl,
          fun _ => ⟨rfl, by simp [State.unchangedBut]⟩, fun _ _ peer => ?_⟩
        cases peer
        exact ⟨by simp [State.unchangedBut], _, rfl, fun noFunds => if_pos noFunds, rfl⟩
    refine ⟨fun status => refuses (grantTopUp_suspended in_place found status) (by decide) (by decide),
      fun status short => refuses (grantTopUp_noFunds (s := requestTaken rest s) in_place found same status short)
        (by decide) (by decide)⟩

end Sys2Proof.Machine
end

section
/-! ## A POST to a hold (R137 to R140) -/

namespace Sys2Proof.Machine

/-! ### What exceeds the hold's posted figures (R137) -/

theorem usageBeyond_any_iff (post posted : Usage) :
    ((UsageOf.toList (usageBeyond post posted)).any fun n => 0 < n) = true ↔ UsageOf.zip max posted post ≠ posted := by
  obtain ⟨p1, p2, p3, p4, p5, p6⟩ := posted
  simp only [usageBeyond, UsageOf.toList, UsageOf.zip, List.any_cons, List.any_nil, Bool.or_false, Bool.or_eq_true,
    decide_eq_true_eq, ne_eq, UsageOf.mk.injEq, max_eq_left_iff]
  omega

theorem postAdds_iff (r : PostFields) (h : Hold) : postAdds r h = true ↔
    h.posted < r.charged ∨ UsageOf.zip max h.postedUsage r.usage ≠ h.postedUsage := by
  rw [postAdds, Bool.or_eq_true, decide_eq_true_eq, usageBeyond_any_iff]

/-! ### The cases of the decision -/

section
variable {o : Origin} {r : PostFields} {s : State} {h : Hold} (charged : r.charged ≤ 999999)
  (home : homeFails o r.account s = false) (known : s.accounts.findHold r.hold = some h) (account : h.account = r.account)
include charged home known account

theorem decidePost_settled (state : h.state = .settled) : decidePost o r s = postTaken s.accounts [] false h.posted := by
  simp [decidePost, Nat.not_lt.mpr charged, home, known, account, state]

theorem decidePost_applied (state : h.state ≠ .settled) : decidePost o r s = applyPost r h s := by
  simp [decidePost, Nat.not_lt.mpr charged, home, known, account, state]

end

/-- A hold after a post that is not final: its figures, and an ACTIVE one's expiry renewed (R137, R140). -/
def Hold.postedTo (r : PostFields) (now : TimePoint) (h : Hold) : Hold :=
  { h.take r with expiry := if decide (h.state = .lapsed) then h.expiry else some (after now holdLifetime) }

/-- A hold after a final post (R139). -/
def Hold.settledBy (r : PostFields) (h : Hold) : Hold := { h.take r with state := .settled, expiry := none }

/-- The account after a post to a hold (R137 to R139). -/
def Account.postedOn (a : Account) (r : PostFields) (h : Hold) : Account :=
  a.charge (r.charged - h.posted) (postFigures (usageBeyond r.usage h.postedUsage) (r.charged - h.posted)
    (h.state == .lapsed) r.final)

section
variable {r : PostFields} {s : State} {h : Hold} {a : Account}

theorem Hold.postedTo_eq (now : TimePoint) :
    (if h.state == .lapsed then h.take r else (h.take r).renewed now) = h.postedTo r now := by
  by_cases late : h.state = .lapsed
  · simp [Hold.postedTo, late, Hold.take]
  · simp [Hold.postedTo, late, Hold.renewed]

theorem applyPost_final (final : r.final = true) (found : s.accounts.find h.account = some a) :
    applyPost r h s =
      postTaken ((changeHold (h.settledBy r) s.accounts).1.putTable (a.postedOn r h))
        [writeHold (changeHold (h.settledBy r) s.accounts).2, writeAccount (a.postedOn r h)] (h.state == .lapsed)
        (max h.posted r.charged) := by
  unfold applyPost
  dsimp only
  rw [found, final, if_pos (Or.inl rfl)]
  rw [Account.postedOn, final]
  rfl

variable (open_ : r.final = false)
include open_

theorem applyPost_adds (adds : postAdds r h = true) (found : s.accounts.find h.account = some a) :
    applyPost r h s =
      postTaken (AccountUnit.putTable { s.accounts with pool := replaceHold (h.postedTo r s.timeBase) s.accounts.pool }
          (a.postedOn r h))
        [writeHold (h.postedTo r s.timeBase), writeAccount (a.postedOn r h)] (h.state == .lapsed)
        (max h.posted r.charged) := by
  unfold applyPost
  dsimp only
  rw [found, open_, if_pos (Or.inr adds), Hold.postedTo_eq, Account.postedOn, open_]
  rfl

theorem applyPost_adds_nothing (nothing : postAdds r h = false) :
    applyPost r h s =
      postTaken { s.accounts with pool := replaceHold (h.postedTo r s.timeBase) s.accounts.pool } [] (h.state == .lapsed)
        h.posted := by
  unfold applyPost
  dsimp only
  rw [open_, nothing, if_neg (by simp), Hold.postedTo_eq, Hold.take_of_adds_nothing nothing]
  rfl

end

/-! ### The own job unit's answer (R21, R23) -/

theorem periodicOutcome_accounts (o : ExchangeOutcome) (s : State) : (periodicOutcome o s).accounts = s.accounts := by
  unfold periodicOutcome
  split
  · split_ifs <;> simp [acknowledge, topUpLapsed, State.setCtx]
  all_goals simp [topUpLapsed, State.setCtx]

theorem periodicOutcome_waiting (o : ExchangeOutcome) (s : State) : (periodicOutcome o s).job.waiting = s.job.waiting := by
  unfold periodicOutcome
  split
  · split_ifs <;> simp [acknowledge, topUpLapsed, State.setCtx]
  all_goals simp [topUpLapsed, State.setCtx]

/-- A POST ANSWER leaves the account unit as it is, with no request of the job waiting. -/
theorem jobOutcome_post_accounts {s : State} (idle : s.job.waiting = []) (r : PostFields) (a : PostAnswerFields) :
    (jobOutcome (.post r) (.answer (.postAnswer a)) s).accounts = s.accounts := by
  rw [jobOutcome_post]
  by_cases final : r.final = true
  · rw [if_pos final]
    have ended : (finalOutcome (.answer (.postAnswer a)) s).job.waiting = [] ∧
        (finalOutcome (.answer (.postAnswer a)) s).accounts = s.accounts := by
      have acknowledged : (finalAcknowledged a.posted s).accounts = s.accounts := by
        unfold finalAcknowledged
        split <;> simp [acknowledge, State.setCtx]
      unfold finalOutcome whenSettling finalFailed
      dsimp only
      split_ifs
      · exact ⟨endJob_waiting _ _, by rw [endJob_accounts, acknowledged]⟩
      · split
        · exact ⟨endJob_waiting _ _, by simp⟩
        · exact ⟨endJob_waiting _ _, by simp⟩
      · exact ⟨idle, rfl⟩
    rw [pumpJob_none ended.1, ended.2]
  · rw [if_neg final, pumpJob_none (by rw [periodicOutcome_waiting, idle]), periodicOutcome_accounts]

/-- Settles O48: by the case of `applyPost`; the records go through `replaceHold` or `changeHold`. -/
theorem postAppliesWhatExceedsTheHold : Obligations.PostAppliesWhatExceedsTheHold := by
  unfold Obligations.PostAppliesWhatExceedsTheHold
  intro s origin r rest a before after h on idle first near account from_ charged hp id alone same found ho
    late d exceeds beyond_ a1 h1 fields answers answeredAtOnce
  rw [← id] at alone
  have free : origin.isPeer = true → s.placeTaken .accountAnswer = false := by
    rcases from_ with rfl | rfl | ⟨_, _, rfl, free, -⟩
    · exact nofun
    · exact nofun
    · exact fun _ => free
  have home : homeFails origin r.account (requestTaken rest s) = false := by
    rcases from_ with rfl | rfl | ⟨_, _, rfl, -, -, keeps⟩
    · rfl
    · rfl
    · exact homeFails_of_keeps fun _ => keeps
  have known : (requestTaken rest s).accounts.findHold r.hold = some h := id ▸ findHold_alone alone hp
  have post_adds : postAdds r h = true ↔ exceeds := postAdds_iff r h
  have in_place : replaceHold (h.postedTo r s.timeBase) (requestTaken rest s).accounts.pool =
      before ++ h.postedTo r s.timeBase :: after := (congrArg _ hp).trans (replaceHold_alone alone rfl)
  have at_once {accounts : AccountUnit} (decided : decidePost origin r (requestTaken rest s) =
      postTaken accounts [] (h.state == .lapsed) h.posted) : answeredAtOnce accounts := by
    have next := execAccountRequestTaken_atOnce on idle first free ((decideRequest_post near account).trans
      (congrArg some decided)) rfl
    refine ⟨?_, ?_, ?_⟩
    · rintro station exch rfl
      obtain ⟨_, _, -, -, member, -⟩ := (from_.resolve_left nofun).resolve_left nofun
      exact next.trans (congrArg _ (releaseAnswer_peer rfl member))
    · rintro rfl trying
      rw [next]
      simp [releaseAnswer, tryOutcome, trying, postTaken]
    · rintro rfl waiting
      exact ⟨_, next, jobOutcome_post_accounts (by exact waiting) _ _⟩
  have written {u : AccountUnit} {new : Hold} (decided : applyPost r h (requestTaken rest s) =
      postTaken u [writeHold new, writeAccount (a.postedOn r h)] (h.state == .lapsed) (max h.posted r.charged))
      (state : h.state ≠ .settled) :
      ∃ t, exec .accountRequestTaken s = .next t ∧ answers (max h.posted r.charged) 2 t ∧ t.accounts.table = u.table ∧
        t.accounts.pool = u.pool ∧ t.store.writes = s.store.writes ++
          [.hold new.place (some { new with expiry := none }), .account a.number (some (a.postedOn r h))] ∧
        t.store.records = s.store.records ∧ s.unchangedBut [.accounts, .store] t := by
    obtain ⟨t, next, accounts, stored, records, -, frame⟩ := execAccountRequestTaken_written on idle first free ho
      ((decideRequest_post near account).trans (congrArg some ((decidePost_applied charged home known same state).trans
        decided))) (List.cons_ne_nil _ _)
    exact ⟨t, next, (congrArg AccountUnit.inHand accounts :), (congrArg AccountUnit.table accounts :),
      (congrArg AccountUnit.pool accounts :), stored, records, frame rfl⟩
  refine ⟨fun state open_ adds => ?_, fun state open_ nothing => ?_, fun state final => ?_, fun state => ?_⟩
  · intro h2
    obtain ⟨t, next, inHand, table, pool, stored⟩ := written
      (applyPost_adds (s := requestTaken rest s) open_ (post_adds.mpr adds) found) state
    exact ⟨t, next, inHand, table, pool.trans in_place, le_max_left _ _, stored⟩
  · intro h2
    have adds_nothing : postAdds r h = false := by rwa [← post_adds, Bool.not_eq_true] at nothing
    have unchanged := Hold.take_of_adds_nothing adds_nothing
    have same_figures : h.postedTo r s.timeBase = h2 := by rw [Hold.postedTo, unchanged]; rfl
    rw [← same_figures, ← in_place]
    exact at_once ((decidePost_applied charged home known same state).trans (applyPost_adds_nothing open_ adds_nothing))
  · intro h2
    have decided := applyPost_final (s := requestTaken rest s) final found
    have change := changeHold_alone (u := (requestTaken rest s).accounts) alone hp (new := h.settledBy r) rfl
    rw [change] at decided
    obtain ⟨t, next, inHand, table, pool, stored⟩ := written decided state
    exact ⟨t, next, inHand, table, pool, le_max_left _ _, stored⟩
  · refine at_once ((decidePost_settled charged home known same state).trans ?_)
    rw [state]
    rfl

end Sys2Proof.Machine
end

section
/-! ## Tries of outbound entries (R155 to R159) -/

namespace Sys2Proof.Machine

/-! ### The lists that a try changes -/

/-- A new outbound queue at a store in order: the queue stands, and one write of it joins those in hand (R154, R181). -/
theorem setOutbound_eq {s : State} (ho : s.store.orderly) (l : List OutEntry) :
    ∃ x : Store, setOutbound l s = (s.setSettle { s.settle with queue := l }).setStore x ∧
      x.writes = s.store.writes ++ [.outbound l] ∧ x.records = s.store.records := by
  obtain ⟨x, hx⟩ := submit_store_only .plain (.outbound l) (s.setSettle { s.settle with queue := l })
  have writes := submit_writes .plain (.outbound l) (s.setSettle { s.settle with queue := l }) ho rfl
  have records := submit_records .plain (.outbound l) (s.setSettle { s.settle with queue := l })
  rw [hx] at writes records
  exact ⟨x, hx, writes, records⟩

/-- An ESCROW RELEASE leaves the other entries of the refund list, which is written where one was removed (R92, R93). -/
theorem removeRefund_eq {s : State} (ho : s.store.orderly) (serial tag : Nat) {left : List RefundEntry}
    (hleft : s.card.refunds.filter (fun x => !x.names serial tag) = left) :
    ∃ x : Store, removeRefund serial tag s = (s.setCard { s.card with refunds := left }).setStore x ∧ x.orderly ∧
      x.writes = s.store.writes ++ (if left = s.card.refunds then [] else [.refunds left]) ∧
      x.records = s.store.records := by
  have kept : left = s.card.refunds ↔ s.card.findRefund serial tag = none := by
    simp [← hleft, CardUnit.findRefund, List.filter_eq_self]
  by_cases absent : s.card.findRefund serial tag = none
  · refine ⟨s.store, ?_, ho, by simp [kept.mpr absent], rfl⟩
    rw [removeRefund_of_none absent, kept.mpr absent]
    rfl
  · obtain ⟨x, removed, writes, records⟩ := setRefunds_eq ho left
    have orderly : (setRefunds .plain left s).store.orderly := submit_orderly _ _ _ ho
    rw [removed] at orderly
    rw [removeRefund_of_some absent, hleft, if_neg (mt kept.mp absent)]
    exact ⟨x, removed, orderly, writes, records⟩

/-- An answered entry leaves the queue, which is written, and SETTLE is raised (R160). -/
theorem entryAnswered_eq {s : State} (ho : s.store.orderly) (room : s.port.notices.length < 16) (e : OutEntry)
    (p : Payload) {left : List OutEntry} (hleft : s.settle.queue.filter (fun y => y.key != e.key) = left) :
    ∃ x : Store, entryAnswered e p s =
        { s with
          settle := { s.settle with queue := left }
          port := { s.port with notices := s.port.notices ++ [{ time := s.timeBase, body := e.notice p }] }
          store := x } ∧
      x.writes = s.store.writes ++ [.outbound left] ∧ x.records = s.store.records := by
  obtain ⟨x, queued, writes, records⟩ := setOutbound_eq ho left
  refine ⟨x, ?_, writes, records⟩
  rw [entryAnswered, hleft, queued]
  exact raiseNotice_room (by exact room) _

/-! ### One try (R156, R159) -/

section
variable {s : State}

/-- The try of an entry of another station is an exchange. -/
theorem tryEntry_away {e : OutEntry} (away : s.own ≠ some e.dest) (triggered : Bool) : tryEntry e triggered s =
    askExchange .settlement e.dest e.body 3
      (s.setSettle { s.settle with trying := some { key := e.key, triggered := triggered } }) := if_neg away

/-- The own final post goes to the own account unit (log 50). -/
theorem tryEntry_ownPost {dest account charged acked : Nat} {hold : HoldId} {usage : Usage} {offline : Bool}
    (own : s.own = some dest) (triggered : Bool) :
    tryEntry (.finalPost dest hold account charged usage acked offline) triggered s =
      handOwn .settlement
        (.post { hold := hold, account := account, charged := charged, usage := usage, final := true, offline := offline })
        (s.setSettle { s.settle with trying := some { key := .finalPost hold, triggered := triggered } }) := if_pos own

/-- The own release is answered at once by the own card controller. -/
theorem tryEntry_ownRelease {dest serial tag : Nat} (own : s.own = some dest) (triggered : Bool) :
    tryEntry (.escrowRelease dest serial tag) triggered s =
      entryAnswered (.escrowRelease dest serial tag) (.releaseAnswer { status := Reason.ok.code })
        (removeRefund serial tag s) := if_pos own

/-! ### Rounds (R157) -/

theorem execOutboundRound_due {due : TimePoint} (powered : s.powered = true) (member : s.line.state = .member)
    (trying : s.settle.trying = none) (round : s.settle.round = none) (set : s.settle.roundDue = some due)
    (now : reached s.timeBase due = true) : exec .outboundRound s = .next (beginRound s) :=
  whenDue_on _ _ _ powered (by simp [State.roundReady, State.member, member, trying, round, set, dueAt, now])

/-- The part with a round begun: the marks cleared, the next round due 15 s later, and these entries still to be tried
(R157, R158). -/
def roundBegun (keys : List EntryKey) (s : State) : State :=
  s.setSettle { s.settle with
    heard := [], waits := [], roundDue := some (after s.timeBase 15000), round := some keys }

theorem SettlementUnit.find_first {u : SettlementUnit} {e : OutEntry} {rest : List OutEntry} (first : u.queue = e :: rest) :
    u.find e.key = some e := by
  rw [SettlementUnit.find, first]
  exact List.find?_cons_of_pos (by simp)

/-- A round tries its oldest entry, and goes on where the try is over at once (R157). -/
theorem beginRound_first {e : OutEntry} {rest : List OutEntry} {keys : List EntryKey} {t : State}
    (first : s.settle.queue = e :: rest) (hkeys : rest.map OutEntry.key = keys)
    (tried : tryEntry e false (roundBegun keys s) = t) :
    beginRound s = if t.settle.trying.isSome then t else roundStep keys t := by
  have found : (roundBegun (e.key :: keys) s).settle.find e.key = some e :=
    SettlementUnit.find_first (u := (roundBegun _ s).settle) first
  rw [beginRound, first, List.map_cons, hkeys, ← tried]
  show roundStep (e.key :: keys) (roundBegun (e.key :: keys) s) = _
  rw [roundStep, found]
  rfl

/-- The round of one release for the own card controller is over at once (R156, R157). -/
theorem beginRound_ownRelease {dest serial tag : Nat} (own : s.own = some dest)
    (only : s.settle.queue = [.escrowRelease dest serial tag]) (trying : s.settle.trying = none)
    (ho : s.store.orderly) (room : s.port.notices.length < 16) {left : List RefundEntry}
    (hleft : s.card.refunds.filter (fun x => !x.names serial tag) = left) :
    ∃ x : Store, beginRound s =
        { s with
          settle := { s.settle with
            heard := [], waits := [], roundDue := some (after s.timeBase 15000), round := none, queue := [] }
          card := { s.card with refunds := left }
          port := { s.port with notices := s.port.notices ++
            [{ time := s.timeBase, body := .settle (.releaseDone dest serial tag) }] }
          store := x } ∧
      x.writes = s.store.writes ++ (if left = s.card.refunds then [.outbound []] else [.refunds left, .outbound []]) ∧
      x.records = s.store.records := by
  obtain ⟨y, removed, orderly, writes, records⟩ := removeRefund_eq (s := roundBegun [] s) (by exact ho) serial tag hleft
  obtain ⟨x, answered, queued, kept⟩ := entryAnswered_eq
    (s := ((roundBegun [] s).setCard { s.card with refunds := left }).setStore y) orderly (by exact room)
    (.escrowRelease dest serial tag) (.releaseAnswer { status := Reason.ok.code }) (left := [])
    (by simp [roundBegun, only])
  have tried : tryEntry (.escrowRelease dest serial tag) false (roundBegun [] s) = _ :=
    ((tryEntry_ownRelease (by exact own) false).trans (congrArg _ removed)).trans answered
  refine ⟨x, ?_, ?_, kept.trans records⟩
  · rw [beginRound_first only rfl tried, if_neg (by simp [roundBegun, trying])]
    rfl
  · refine queued.trans ((congrArg (· ++ _) writes).trans ?_)
    show s.store.writes ++ (if left = s.card.refunds then [] else [.refunds left]) ++ [.outbound []] = _
    split <;> simp

end

/-! ### What goes on while the slot is free (R157, R158) -/

/-- No entry of the outbound queue is for this station. -/
def State.settlesAway (s : State) : Prop := ∀ e ∈ s.settle.queue, s.own ≠ some e.dest

/-- `t` is `s` with the settlement unit gone on trying its entries: nothing but the pending exchanges, the round, the try
in progress and the heard marks is another. -/
def State.triesOn (s t : State) : Prop :=
  ∃ pending round trying heard, t =
    { s with
      line := { s.line with pending := pending }
      settle := { s.settle with round := round, trying := trying, heard := heard } }

section
variable {s : State}

theorem State.triesOn_refl : s.triesOn s := ⟨_, _, _, _, rfl⟩

theorem State.triesOn.settlesAway {t : State} (h : s.triesOn t) (away : s.settlesAway) : t.settlesAway := by
  obtain ⟨_, _, _, _, rfl⟩ := h
  exact away

theorem State.triesOn.trans {t u : State} (h : s.triesOn t) (h' : t.triesOn u) : s.triesOn u := by
  obtain ⟨_, _, _, _, rfl⟩ := h
  obtain ⟨_, _, _, _, rfl⟩ := h'
  exact ⟨_, _, _, _, rfl⟩

theorem State.settlesAway.roundStep (away : s.settlesAway) (keys : List EntryKey) : s.triesOn (roundStep keys s) := by
  induction keys with
  | nil => exact ⟨_, _, _, _, rfl⟩
  | cons k rest ih =>
    unfold Machine.roundStep
    split
    · exact ih
    · next e found =>
      rw [tryEntry_away (by exact away e (List.mem_of_find?_eq_some found))]
      exact ⟨_, _, _, _, rfl⟩

theorem State.settlesAway.heardStep (away : s.settlesAway) (fuel : Nat) : s.triesOn (heardStep fuel s) := by
  cases fuel with
  | zero => exact State.triesOn_refl
  | succ fuel =>
    unfold Machine.heardStep
    split
    · exact ⟨_, _, _, _, rfl⟩
    · next e found =>
      rw [tryEntry_away (by exact away e (List.mem_of_find?_eq_some found))]
      exact ⟨_, _, _, _, rfl⟩

/-- A round in progress goes on (R157). -/
def roundGoesOn (s : State) : State :=
  match s.settle.round with
  | some rest => roundStep rest s
  | none => s

theorem State.settlesAway.roundGoesOn (away : s.settlesAway) : s.triesOn (roundGoesOn s) := by
  unfold Machine.roundGoesOn
  split
  · exact away.roundStep _
  · exact State.triesOn_refl

theorem pumpSettlement_free (member : s.member = true) (free : s.settle.trying = none) : pumpSettlement s =
    if (roundGoesOn s).settle.trying.isSome then roundGoesOn s
    else if dueAt (roundGoesOn s) (roundGoesOn s).settle.roundDue then beginRound (roundGoesOn s)
    else heardStep ((roundGoesOn s).settle.heard.length + 1) (roundGoesOn s) := by
  rw [pumpSettlement, if_neg (by simp [member]), if_neg (by simp [free])]
  rfl

/-- A settlement unit whose entries are all for other stations tries on, or begins the round that is due. -/
theorem pumpSettlement_cases (away : s.settlesAway) : s.triesOn (pumpSettlement s) ∨
    dueAt s s.settle.roundDue = true ∧ ∃ t, s.triesOn t ∧ pumpSettlement s = beginRound t := by
  cases member : s.member with
  | false => exact .inl ⟨s.line.pending, none, s.settle.trying, s.settle.heard, by simp [pumpSettlement, member]; rfl⟩
  | true =>
    by_cases free : s.settle.trying = none
    · have goesOn := away.roundGoesOn
      have same : dueAt (roundGoesOn s) (roundGoesOn s).settle.roundDue = dueAt s s.settle.roundDue := by
        obtain ⟨_, _, _, _, h⟩ := goesOn
        rw [h]
        rfl
      rw [pumpSettlement_free member free, same]
      split
      · exact .inl goesOn
      · split
        · next due => exact .inr ⟨due, _, goesOn, rfl⟩
        · exact .inl (goesOn.trans ((goesOn.settlesAway away).heardStep _))
    · have busy : pumpSettlement s = s := by
        simp [pumpSettlement, member, Option.isSome_iff_ne_none.mpr free]
      exact .inl (busy.symm ▸ State.triesOn_refl)

/-- Until a round is due the settlement unit only tries on. -/
theorem pumpSettlement_triesOn (away : s.settlesAway) (early : dueAt s s.settle.roundDue = false) :
    s.triesOn (pumpSettlement s) :=
  (pumpSettlement_cases away).resolve_right fun h => by simp [h.1] at early

/-- Whatever is tried next, the queue stands, and the line's pending exchanges and the settlement unit alone change. -/
theorem pumpSettlement_queue (away : s.settlesAway) : ∃ pending u,
    pumpSettlement s = { s with line := { s.line with pending := pending }, settle := u } ∧
      u.queue = s.settle.queue := by
  rcases pumpSettlement_cases away with ⟨_, _, _, _, h⟩ | ⟨-, t, on, h⟩
  · exact ⟨_, _, h, rfl⟩
  · have begun : (roundBegun (t.settle.queue.map OutEntry.key) t).triesOn (beginRound t) :=
      State.settlesAway.roundStep (s := roundBegun _ t) (on.settlesAway away) _
    obtain ⟨_, _, _, _, rfl⟩ := on
    obtain ⟨_, _, _, _, begun⟩ := begun
    exact ⟨_, _, h.trans begun, rfl⟩

end

end Sys2Proof.Machine
end

section
/-! ## The outcome of a try (R158, R160) and stations heard (R107, R158) -/

namespace Sys2Proof.Machine

section
variable {s : State} {e : OutEntry} {triggered : Bool}
  (trying : s.settle.trying = some { key := e.key, triggered := triggered }) (found : s.settle.find e.key = some e)
include trying found

/-- An answer removes the entry of the try, and the settlement unit goes on (R160). -/
theorem tryOutcome_answer (p : Payload) : tryOutcome (.answer p) s =
    pumpSettlement (entryAnswered e p (s.setSettle { s.settle with trying := none })) := by
  have found' : (s.setSettle { s.settle with trying := none }).settle.find e.key = some e := found
  rw [tryOutcome, trying]
  dsimp only
  rw [found']

/-- Without an answer the entry stays, and a triggered try sets the wait mark of its station (R158). -/
theorem tryOutcome_noAnswer : tryOutcome .noAnswer s =
    pumpSettlement (s.setSettle { s.settle with
      trying := none
      waits := if triggered then putSorted id e.dest s.settle.waits else s.settle.waits }) := by
  have found' : (s.setSettle { s.settle with trying := none }).settle.find e.key = some e := found
  rw [tryOutcome, trying]
  dsimp only
  rw [found']
  cases triggered <;> rfl

variable (away : s.settlesAway)
include away

/-- Once the entry is settled the settlement unit goes on with those left, and nothing else of the part changes. -/
theorem tryOutcome_answered (ho : s.store.orderly) (room : s.port.notices.length < 16) (p : Payload)
    {left : List OutEntry} (hleft : s.settle.queue.filter (fun y => y.key != e.key) = left) :
    ∃ pending u x, tryOutcome (.answer p) s =
        { s with
          line := { s.line with pending := pending }
          settle := u
          port := { s.port with notices := s.port.notices ++ [{ time := s.timeBase, body := e.notice p }] }
          store := x } ∧
      u.queue = left ∧ x.writes = s.store.writes ++ [.outbound left] ∧ x.records = s.store.records := by
  obtain ⟨x, answered, writes, records⟩ := entryAnswered_eq (s := s.setSettle { s.settle with trying := none })
    (by exact ho) (by exact room) e p (by exact hleft)
  have awayLeft : (entryAnswered e p (s.setSettle { s.settle with trying := none })).settlesAway := by
    rw [answered, ← hleft]
    exact fun y hy => away y (List.mem_of_mem_filter hy)
  obtain ⟨pending, u, pumped, queue⟩ := pumpSettlement_queue awayLeft
  rw [answered] at pumped queue
  exact ⟨pending, u, x, by rw [tryOutcome_answer trying found, answered]; exact pumped, queue, writes, records⟩

/-- Until the next round is due an unanswered try leaves the settlement unit trying on. -/
theorem tryOutcome_unanswered (early : dueAt s s.settle.roundDue = false) :
    (s.setSettle { s.settle with
      waits := if triggered then putSorted id e.dest s.settle.waits else s.settle.waits }).triesOn
        (tryOutcome .noAnswer s) := by
  rw [tryOutcome_noAnswer trying found]
  exact State.triesOn.trans ⟨_, _, none, _, rfl⟩ (pumpSettlement_triesOn (by exact away) (by exact early))

end

/-! ### Stations heard (R107, R158) -/

section
variable {s : State} {station : Nat}

/-- A station with its wait mark set triggers nothing (R158). -/
theorem settlementHears_waiting (waits : station ∈ s.settle.waits) : settlementHears station s = s :=
  if_pos (by simpa using waits)

section
variable {e : OutEntry} (waits : station ∉ s.settle.waits)
  (entry : (s.settle.queue.find? fun x => x.dest == station) = some e)
include waits entry

/-- While the settlement unit is free a station heard triggers a try of its oldest entry (R158). -/
theorem settlementHears_tries (member : s.line.state = .member) (round : s.settle.round = none)
    (trying : s.settle.trying = none) : settlementHears station s = tryEntry e true s := by
  simp [settlementHears, waits, entry, State.member, member, round, trying]

/-- Otherwise its heard mark is set (R158). -/
theorem settlementHears_marks
    (busy : s.line.state ≠ .member ∨ s.settle.round ≠ none ∨ s.settle.trying ≠ none) :
    settlementHears station s =
      s.setSettle { s.settle with heard := putSorted id station s.settle.heard } := by
  have later : ¬ (s.member = true ∧ s.settle.round = none ∧ s.settle.trying = none) := by
    rintro ⟨member, round, trying⟩
    simp [beq_iff_eq.mp member, round, trying] at busy
  rw [settlementHears, if_neg (by simpa using waits), entry]
  exact if_neg later

end

/-- During a try a station heard changes the heard marks at most. -/
theorem settlementHears_trying (trying : s.settle.trying ≠ none) (station : Nat) :
    ∃ marks, settlementHears station s = s.setSettle { s.settle with heard := marks } := by
  by_cases waits : station ∈ s.settle.waits
  · exact ⟨s.settle.heard, settlementHears_waiting waits⟩
  · cases entry : s.settle.queue.find? fun x => x.dest == station with
    | none => exact ⟨s.settle.heard, by simp [settlementHears, entry]; rfl⟩
    | some e => exact ⟨_, settlementHears_marks waits entry (.inr (.inr trying))⟩

theorem noteHeard_idled (other : s.own ≠ some station) :
    noteHeard station (idled s) = settlementHears station (heardFrom station s) := by
  have own : (idled s).own ≠ some station := other
  have present : markPresence station true (idled s) = heardFrom station s := by
    simp only [markPresence, ne_eq, own, not_false_eq_true, and_true]
    rfl
  rw [noteHeard, present]

/-- A run that a good frame of another station ends is none in which this station has sent (R104, log 45). -/
theorem ownRun_of_other (share : s.line.share ≠ .part) (other : s.own ≠ some station) : s.ownRun station = false := by
  cases hs : s.line.share with
  | nothing => simp [State.ownRun, hs]
  | part => exact absurd hs share
  | whole => simpa [State.ownRun, hs] using other

end

/-- A good frame of another station, with entries for it or without, marks it PRESENT and is heard by the settlement
unit; where it is for this station it acts (R104, R106, R107). -/
theorem hearFrame_otherStation {s : State} {f : Frame} (state : s.line.state = .joining ∨ s.line.state = .member)
    (sending : s.line.sending = none) (good : f.good = true) (share : s.line.share ≠ .part)
    (other : s.own ≠ some f.head.source) (act : State → State) : hearFrame f act s =
      if s.own = some f.head.dest ∨ f.head.dest = 63 then
        act (settlementHears f.head.source (heardFrom f.head.source s))
      else settlementHears f.head.source (heardFrom f.head.source s) := by
  rw [hearFrame_received state sending good (ownRun_of_other share other), if_neg other, noteHeard_idled other]

/-! ### The answer to a try (R111, R160) -/

/-- An answer that matches the exchange in progress ends it at its source (R111). -/
theorem takeAnswer_matched {s : State} {f : Frame} {x : Exchange} (hx : s.line.inProgress = some x)
    (matched : x.matchedBy f = true) : takeAnswer f s =
      exchangeEnds (.answer f.body) (emptyPlace .request (s.setLine { s.line with inProgress := none })) x := by
  rw [takeAnswer, hx]
  dsimp only
  rw [if_pos matched, endExchange, hx]

/-- The answer to a try ends it at the settlement unit, which has heard the station before (R107, R111). -/
theorem hearFrame_tryAnswer {s : State} {head : FrameHead} {body : Payload} {x : Exchange} (h : s.hears head body)
    (trying : s.settle.trying ≠ none) (hx : s.line.inProgress = some x) (source : x.source = .settlement)
    (dest : head.source = x.dest) (number : head.exch = x.number) (kind : Payload.answeredBy x.body body = true) :
    ∃ marks, hearFrame { head := head, body := body } (takeAnswer { head := head, body := body }) s =
      tryOutcome (.answer body)
        ((s.setLine (s.line.ended (markHeard head.source s.line.roster))).setSettle
          { s.settle with heard := marks }) := by
  obtain ⟨-, state, sending, share, good, other, mine⟩ := h
  obtain ⟨marks, heard⟩ := settlementHears_trying (s := heardFrom head.source s) (by exact trying) head.source
  have matched : x.matchedBy { head := head, body := body } = true := by
    simp [Exchange.matchedBy, dest, number, kind]
  refine ⟨marks, ?_⟩
  rw [hearFrame_otherStation state sending good share other, if_pos (by exact mine), heard,
    takeAnswer_matched (by exact hx) matched]
  simp [exchangeEnds, source, emptyPlace, heardFrom, LineUnit.ended, LineUnit.heard, sending]
  rfl

/-- `t` is `s` with the entry settled with this SETTLE notice (R160): out of the queue, which is written; besides, only the
line and the settlement unit are others. -/
def State.entrySettled (s : State) (e : OutEntry) (notice : NoticeBody) (t : State) : Prop :=
  let left := s.settle.queue.filter fun y => y.key != e.key
  t.settle.queue = left ∧
    t.port = { s.port with notices := s.port.notices ++ [{ time := s.timeBase, body := notice }] } ∧
    t.store.writes = s.store.writes ++ [.outbound left] ∧ t.store.records = s.store.records ∧
    s.unchangedBut [.line, .settle, .port, .store] t

/-- The exchange in progress is a try of this entry, and no entry is for this station. -/
structure State.triesEntry (s : State) (x : Exchange) (e : OutEntry) (triggered : Bool) : Prop where
  trying : s.settle.trying = some { key := e.key, triggered := triggered }
  found : s.settle.find e.key = some e
  away : s.settlesAway
  inProgress : s.line.inProgress = some x
  source : x.source = .settlement
  dest : x.dest = e.dest
  body : x.body = e.body

/-- A try is addressed to another station. -/
theorem State.triesEntry.other {s : State} {x : Exchange} {e : OutEntry} {triggered : Bool}
    (tries : s.triesEntry x e triggered) : s.own ≠ some x.dest :=
  tries.dest ▸ tries.away e (List.mem_of_find?_eq_some tries.found)

/-- The answer to the try of an entry settles it (R160). -/
theorem hearFrame_settles {s : State} {head : FrameHead} {body : Payload} {x : Exchange} {e : OutEntry} {triggered : Bool}
    (tries : s.triesEntry x e triggered) (h : s.hears head body) (source : head.source = x.dest)
    (number : head.exch = x.number) (kind : Payload.answeredBy e.body body = true) (ho : s.store.orderly)
    (room : s.port.notices.length < 16) : s.entrySettled e (e.notice body)
      (hearFrame { head := head, body := body } (takeAnswer { head := head, body := body }) s) := by
  obtain ⟨marks, ended⟩ := hearFrame_tryAnswer h (by simp [tries.trying]) tries.inProgress tries.source source number
    (by rw [tries.body]; exact kind)
  obtain ⟨pending, u, store, outcome, queue, writes, records⟩ := tryOutcome_answered
    (s := (s.setLine (s.line.ended (markHeard head.source s.line.roster))).setSettle { s.settle with heard := marks })
    (by exact tries.trying) (by exact tries.found) (by exact tries.away) (by exact ho) (by exact room) body rfl
  rw [ended, outcome]
  exact ⟨queue, rfl, writes, records, by simp [State.unchangedBut]⟩

/-! ### The SETTLE notice (R160) -/

section
variable {dest account charged acked : Nat} {hold : HoldId} {usage : Usage} {offline : Bool} {a : PostAnswerFields}

theorem OutEntry.notice_postDone (taken : a.status = Reason.ok.code ∨ a.status = Reason.late.code) :
    (OutEntry.finalPost dest hold account charged usage acked offline).notice (.postAnswer a) =
      .settle (.postDone dest hold account a.status a.posted) := if_pos taken

theorem OutEntry.notice_postFailed (notOk : a.status ≠ Reason.ok.code) (notLate : a.status ≠ Reason.late.code) :
    (OutEntry.finalPost dest hold account charged usage acked offline).notice (.postAnswer a) =
      .settle (.postFailed dest hold account a.status ((charged : Int) - acked)) := if_neg (by simp [notOk, notLate])

end

/-! ### No answer (R112, R158) -/

/-- The last attempt of a try has run out of its answer's time (R112). -/
theorem execExchangeAnswerDeadline_last {s : State} {x : Exchange} {e : OutEntry} {triggered : Bool} {sent : TimePoint}
    (tries : s.triesEntry x e triggered) (powered : s.powered = true) (last : x.attempts ≤ 1)
    (awaiting : x.awaiting = some sent) (late : 20 ≤ elapsed s.timeBase sent) :
    exec .exchangeAnswerDeadline s = .next (tryOutcome .noAnswer (s.setLine (s.line.unanswered e.dest))) := by
  have lapsed : s.answerLate = true := by simp [State.answerLate, tries.inProgress, awaiting, late]
  have failed : exec .exchangeAnswerDeadline s = .next (attemptFails s) := whenDue_on _ _ _ powered lapsed
  rw [failed, attemptFails_last tries.inProgress last tries.other, exchangeEnds, tries.source, tries.dest]

/-- A round that is set for later, or not at all, is not due. -/
theorem dueAt_of_early {s : State} {point : Option TimePoint}
    (early : ∀ due, point = some due → reached s.timeBase due = false) :
    dueAt s point = false := by
  cases point with
  | none => rfl
  | some due => exact early due rfl

/-- Settles O51: a round by its first entry, a station heard by the cases of `settlementHears`, and the outcome of a try by
what the settlement unit, with entries of other stations alone, can go on to do. -/
theorem outboundEntriesAreTriedAndSettled : Obligations.OutboundEntriesAreTriedAndSettled := by
  unfold Obligations.OutboundEntriesAreTriedAndSettled
  refine ⟨fun s due powered member trying round set now => ?_, fun s due e powered member trying round set now own => ?_,
    fun s f e powered state sending share good other notMine notAll entry => ?_,
    fun s x triggered e trying found away hx source dest body => ?_⟩
  · have begins := execOutboundRound_due powered member trying round set now
    refine ⟨fun quiet => ?_, fun e rest first elsewhere => ?_⟩
    · rw [begins, beginRound_empty quiet, ← round]
      rfl
    · have tried := tryEntry_away (s := roundBegun (rest.map OutEntry.key) s) (by exact elsewhere) false
      rw [begins, beginRound_first first rfl tried]
      cases e <;> rfl
  · have begins := execOutboundRound_due powered member trying round set now
    refine ⟨?_, ?_⟩
    · rintro dest hold account charged usage acked offline rest rfl first
      have tried := tryEntry_ownPost (s := roundBegun (rest.map OutEntry.key) s) (hold := hold) (account := account)
        (charged := charged) (usage := usage) (acked := acked) (offline := offline) (by exact own) false
      rw [begins, beginRound_first first rfl tried]
      rfl
    · rintro dest serial tag rfl only ho room left
      obtain ⟨x, began, writes, records⟩ := beginRound_ownRelease own only trying ho room (left := left) rfl
      rw [begins, began]
      exact ⟨_, rfl, by rw [← round]; rfl, rfl, rfl, writes, records, by simp [State.unchangedBut]⟩
  · have heard := hearFrame_otherStation state sending good share other (frameAct f s)
    have passing : ¬ (s.own = some f.head.dest ∨ f.head.dest = 63) := by simp [notMine, notAll]
    rw [exec_ofFrame_powered powered, heard, if_neg passing]
    refine ⟨fun waits => ?_, fun free member round trying => ?_, fun free busy => ?_⟩
    · rw [settlementHears_waiting (by exact waits)]
      rfl
    · have dest : e.dest = f.head.source := by simpa using List.find?_some entry
      rw [settlementHears_tries (by exact free) (by exact entry) (by exact member) (by exact round) (by exact trying),
        tryEntry_away (by rw [dest]; exact other)]
      rfl
    · rw [settlementHears_marks (by exact free) (by exact entry) (by exact busy)]
      rfl
  · have tries : s.triesEntry x e triggered := ⟨trying, found, away, hx, source, dest, body⟩
    refine ⟨fun head fromDest number _ ho room => ?_, fun sent powered last awaiting late _ early => ?_⟩
    · refine ⟨fun home hold account charged usage acked offline a he h => ?_, fun home serial tag a he h => ?_⟩
      · subst he
        have settled := hearFrame_settles tries h fromDest number rfl ho room
        have answer := exec_ofFrame_powered h.1 { head := head, body := .postAnswer a }
        refine ⟨fun taken => ⟨_, answer, ?_⟩, fun notOk notLate => ⟨_, answer, ?_⟩⟩
        · rw [OutEntry.notice_postDone taken] at settled
          exact settled
        · rw [OutEntry.notice_postFailed notOk notLate] at settled
          exact settled
      · subst he
        exact ⟨_, exec_ofFrame_powered h.1 { head := head, body := .releaseAnswer a },
          hearFrame_settles tries h fromDest number rfl ho room⟩
    · obtain ⟨_, _, _, _, outcome⟩ := tryOutcome_unanswered (s := s.setLine (s.line.unanswered e.dest))
        (by exact trying) (by exact found) (by exact away) (by exact dueAt_of_early early)
      rw [execExchangeAnswerDeadline_last tries powered last awaiting late, outcome]
      exact ⟨_, rfl, rfl, rfl, rfl, by simp [State.unchangedBut]⟩

end Sys2Proof.Machine
end

section
/-! ## The law of counters (R164): its parts, and what leaves them alone

A lemma `State.CountersLawful.f` says that the operation `f` keeps the law, so that a chain of operations is followed from
the state it starts on: `h.setJob.submit.complete`. `State.HoldSteady` cannot carry this law, since it lets the meters and
the account table take any value; here a new table and a new meter record bring their own proof. -/

namespace Sys2Proof.Machine

/-! ### Counters, meters and accounts -/

/-- An addition saturates each value on its own, so it keeps their order (R164). -/
theorem Counter.lawful.add (n : Nat) {c : Counter} (h : c.lawful) : (c.add n).lawful := by
  unfold Counter.lawful at h ⊢
  simp only [Counter.add]
  omega

/-- A clear lowers the period value alone (R167, R170). -/
theorem Counter.lawful.clear (n : Nat) {c : Counter} (h : c.lawful) : (c.clear n).lawful :=
  (Nat.sub_le _ _).trans h

section
variable {f : Nat → Counter → Counter} (hf : ∀ n {c : Counter}, c.lawful → (f n c).lawful)
include hf

/-- What keeps each counter lawful keeps them lawful value by value. -/
theorem Counter.lawful.zipWith {l : List Counter} (h : ∀ c ∈ l, c.lawful) (k : List Nat) :
    ∀ c ∈ List.zipWith f k l, c.lawful := by
  induction l generalizing k with
  | nil => simp
  | cons c rest ih =>
    cases k with
    | nil => simp
    | cons n k =>
      rw [List.forall_mem_cons] at h
      rw [List.zipWith_cons_cons, List.forall_mem_cons]
      exact ⟨hf n h.1, ih h.2 k⟩

theorem MetersOf.lawful.zip {m : MetersOf Counter} (h : m.lawful) (n : MetersOf Nat) : (MetersOf.zip f n m).lawful :=
  Counter.lawful.zipWith hf h (MetersOf.toList n)

theorem Account.lawful.zip {a : Account} (h : a.lawful) (n : FiguresOf Nat) :
    ∀ c ∈ FiguresOf.toList (FiguresOf.zip f n a.figures), c.lawful :=
  Counter.lawful.zipWith hf h (FiguresOf.toList n)

end

/-- A new account has every figure at 0 (R143). -/
theorem AccountAddOperand.record_lawful (a : AccountAddOperand) : a.record.lawful := by
  unfold Account.lawful Counter.lawful
  simp [AccountAddOperand.record, FiguresOf.all, UsageOf.all, FiguresOf.toList, UsageOf.toList]

/-- An account that takes a post adds to its figures (R137). -/
theorem Account.lawful.charge {a : Account} (h : a.lawful) (money : Nat) (figures : FiguresOf Nat) :
    (a.charge money figures).lawful := h.zip Counter.lawful.add figures

/-- A cleared statement keeps the lifetime figures (R170). -/
theorem Account.lawful.clearStatement {a : Account} (h : a.lawful) (n : FiguresOf Nat) :
    (a.clearStatement n).lawful := h.zip Counter.lawful.clear n

/-- The law concerns the figures of an account alone. -/
theorem Account.lawful.of_figures {a b : Account} (h : a.lawful) (e : b.figures = a.figures := by rfl) : b.lawful := by
  unfold Account.lawful
  rw [e]
  exact h

/-! ### The records and the writes of the store -/

/-- The counters of the stored records are lawful. -/
structure StoreRecords.lawful (r : StoreRecords) : Prop where
  meters : r.meters.counters.lawful
  accounts : ∀ a ∈ r.accounts, a.lawful

/-- A completed write leaves lawful records, if it is lawful itself. -/
theorem RecordWrite.apply_lawful {w : RecordWrite} (hw : w.lawful) {r : StoreRecords} (hr : r.lawful) :
    (w.apply r).lawful := by
  obtain ⟨meters, accounts⟩ := hr
  cases w with
  | meters m => exact ⟨hw, accounts⟩
  | account n x =>
    refine ⟨meters, fun a ha => ?_⟩
    cases x with
    | none => exact accounts a (List.mem_of_mem_filter ha)
    | some b =>
      rcases mem_putSorted _ _ _ _ ha with rfl | ha
      · exact hw
      · exact accounts a ha
  | _ => exact ⟨meters, accounts⟩

/-- A meter write takes the counters of the moment the store begins it (R165). -/
theorem RecordWrite.lawful.begun {w : RecordWrite} (hw : w.lawful) {m : MeterRecord} (hm : m.counters.lawful) :
    (w.begun m).lawful := by
  cases w with
  | meters _ => exact hm
  | _ => exact hw

/-- The law of counters, part by part. -/
structure State.CountersLawful (s : State) : Prop where
  meter : s.meter.record.counters.lawful
  table : ∀ a ∈ s.accounts.table, a.lawful
  records : s.store.records.lawful
  writes : ∀ w ∈ s.store.writes, w.lawful

theorem State.periodsWithinLifetimes_iff (s : State) : s.periodsWithinLifetimes ↔ s.CountersLawful :=
  ⟨fun ⟨meter, table, meters, accounts, writes⟩ => ⟨meter, table, ⟨meters, accounts⟩, writes⟩,
    fun ⟨meter, table, ⟨meters, accounts⟩, writes⟩ => ⟨meter, table, meters, accounts, writes⟩⟩

section
variable {s : State} (h : s.CountersLawful)
include h

theorem State.CountersLawful.found {n : Nat} {a : Account} (ha : s.accounts.find n = some a) : a.lawful :=
  h.table a (List.mem_of_find?_eq_some ha)

/-! ### One block replaced -/

theorem State.CountersLawful.setPort {p : Port} : (s.setPort p).CountersLawful := { h with }
theorem State.CountersLawful.setJob {j : JobUnit} : (s.setJob j).CountersLawful := { h with }
theorem State.CountersLawful.setTariff {t : Option Tariff} : (s.setTariff t).CountersLawful := { h with }
theorem State.CountersLawful.setPath {p : PathMonitor} : (s.setPath p).CountersLawful := { h with }
theorem State.CountersLawful.setCard {c : CardUnit} : (s.setCard c).CountersLawful := { h with }
theorem State.CountersLawful.setLine {l : LineUnit} : (s.setLine l).CountersLawful := { h with }
theorem State.CountersLawful.setSettle {u : SettlementUnit} : (s.setSettle u).CountersLawful := { h with }
theorem State.CountersLawful.setFree {n : Nat} : (s.setFree n).CountersLawful := { h with }
theorem State.CountersLawful.setPending {l : List Instr} : (s.setPending l).CountersLawful := { h with }
theorem State.CountersLawful.count {p : TimePoint} : ({ s with timeBase := p } : State).CountersLawful := { h with }

theorem State.CountersLawful.setCounters {m : MeterUnit} (hm : m.record.counters.lawful) :
    (s.setMeter m).CountersLawful := { h with meter := hm }

theorem State.CountersLawful.setMeter {m : MeterUnit} (hm : m.record = s.meter.record := by rfl) :
    (s.setMeter m).CountersLawful := h.setCounters (hm ▸ h.meter)

theorem State.CountersLawful.setTable {u : AccountUnit} (hu : ∀ a ∈ u.table, a.lawful) :
    (s.setAccounts u).CountersLawful := { h with table := hu }

theorem State.CountersLawful.setAccounts {u : AccountUnit} (hu : u.table = s.accounts.table := by rfl) :
    (s.setAccounts u).CountersLawful := h.setTable (hu ▸ h.table)

/-- The account table takes a lawful account at its place. -/
theorem State.CountersLawful.putTable {a : Account} (ha : a.lawful) :
    (s.setAccounts (s.accounts.putTable a)).CountersLawful :=
  h.setTable fun b hb => (mem_putSorted _ _ _ _ hb).elim (fun e => e ▸ ha) (h.table b)

/-! ### Store writes -/

theorem State.CountersLawful.beginWrite : (beginWrite s).CountersLawful := by
  unfold Machine.beginWrite
  split
  · rename_i w rest idle queued
    have writes := h.writes
    simp only [Store.writes, idle, queued, Option.map_none, Option.toList_none, List.nil_append, List.cons_append,
      List.map_cons, List.forall_mem_cons] at writes
    obtain ⟨first, others⟩ := writes
    exact { h with writes := List.forall_mem_cons.mpr ⟨first.begun h.meter, others⟩ }
  · exact h

/-- A write submitted is in hand, with room or without (R181). -/
theorem State.CountersLawful.submit {t : WriteTag} {w : RecordWrite} (hw : w.lawful := by trivial) :
    (submit t w s).CountersLawful := by
  have writes := h.writes
  simp only [Store.writes, List.map_append, List.forall_mem_append] at writes
  obtain ⟨current, queue, waiting⟩ := writes
  have joined (l : List QueuedWrite) (hl : ∀ x ∈ l.map QueuedWrite.what, x.lawful) :
      ∀ x ∈ (l ++ [QueuedWrite.mk w t]).map QueuedWrite.what, x.lawful := by
    simpa [or_imp, forall_and] using ⟨by simpa using hl, hw⟩
  have handed {q k : List QueuedWrite} (hq : ∀ x ∈ q.map QueuedWrite.what, x.lawful)
      (hk : ∀ x ∈ k.map QueuedWrite.what, x.lawful) :
      (s.setStore { s.store with queue := q, waiting := k }).CountersLawful := by
    refine { h with writes := ?_ }
    simp only [Store.writes, State.setStore_store, List.map_append, List.forall_mem_append]
    exact ⟨current, hq, hk⟩
  unfold Machine.submit
  split
  · exact (handed (joined _ queue) waiting).beginWrite
  · exact handed queue (joined _ waiting)

theorem State.CountersLawful.submitAll {t : WriteTag} {l : List RecordWrite} (hl : ∀ w ∈ l, w.lawful) :
    (l.foldl (fun x w => Machine.submit t w x) s).CountersLawful := by
  induction l generalizing s with
  | nil => exact h
  | cons w rest ih =>
    rw [List.forall_mem_cons] at hl
    exact ih (h.submit hl.1) hl.2

/-- The meters' own write carries the counters of this moment (R165). -/
theorem State.CountersLawful.noteMeters : (noteMeters s).CountersLawful := by
  rcases noteMeters_cases s with e | e | e <;> rw [e]
  · exact h
  · exact ⟨h.meter, h.table, h.records, h.writes⟩
  · exact h.submit h.meter

end

section
variable {s : State} (h : s.CountersLawful)
include h

theorem State.CountersLawful.setCtx {c : JobContext} : (s.setCtx c).CountersLawful := h.setJob

/-! ### The port -/

theorem State.CountersLawful.raiseNotice {b : NoticeBody} : (raiseNotice b s).CountersLawful := by
  unfold Machine.raiseNotice
  split <;> exact h.setPort

theorem State.CountersLawful.placeResult {r : Result} : (placeResult r s).CountersLawful :=
  h.setPort

theorem State.CountersLawful.complete {r : Reason} {v : Values} : (complete r v s).CountersLawful := by
  unfold Machine.complete
  split
  · exact h.placeResult
  · exact h

theorem State.CountersLawful.holdResult {r : Reason} {v : Values} : (holdResult r v s).CountersLawful := by
  unfold Machine.holdResult
  split
  · exact h.setPort
  · exact h

theorem State.CountersLawful.releaseHeld : (releaseHeld s).CountersLawful := by
  unfold Machine.releaseHeld
  split
  · exact h.placeResult
  · exact h

theorem State.CountersLawful.discardResult : (discardResult s).CountersLawful := by
  unfold Machine.discardResult
  split
  · exact h.setPort.setMeter.setAccounts
  · exact h

theorem State.CountersLawful.countRefused :
    (s.setPort { s.port with refused := min 255 (s.port.refused + 1) }).CountersLawful :=
  h.setPort

theorem State.CountersLawful.takeCommand {o : Opcode} {ps : List Byte} {owner : State → State}
    (ho : ∀ x : State, x.CountersLawful → (owner x).CountersLawful) :
    (takeCommand o ps owner s).CountersLawful := by
  unfold Machine.takeCommand
  split
  · exact h.countRefused
  · dsimp only
    split
    · exact h.discardResult.placeResult
    · exact ho _ h.discardResult.setPort

theorem State.CountersLawful.takeBare {o : Opcode} {ps : List Byte} {owner : State → State}
    (ho : ∀ x : State, x.CountersLawful → (owner x).CountersLawful) : (takeBare o ps owner s).CountersLawful :=
  h.takeCommand fun x hx => by
    split
    · exact ho x hx
    · exact hx.complete

theorem State.CountersLawful.submitAndAnswer {w : RecordWrite} (hw : w.lawful := by trivial) {v : Values} :
    (submitAndAnswer w v s).CountersLawful := by
  unfold Machine.submitAndAnswer
  split
  · exact (h.submit hw).complete
  · exact (h.submit hw).holdResult

theorem State.CountersLawful.addMeters {n : MetersOf Nat} : (addMeters n s).CountersLawful := by
  unfold Machine.addMeters
  split
  · exact h
  · exact (h.setCounters (h.meter.zip Counter.lawful.add n)).noteMeters

/-! ### What the blocks ask of one another -/

theorem State.CountersLawful.askExchange {x : Source} {d : Nat} {b : Payload} {n : Nat} :
    (askExchange x d b n s).CountersLawful := h.setLine
theorem State.CountersLawful.readyFrame {p : Place} {f : Frame} : (readyFrame p f s).CountersLawful := h.setLine
theorem State.CountersLawful.emptyPlace {p : Place} : (emptyPlace p s).CountersLawful := h.setLine
theorem State.CountersLawful.markPresence {n : Nat} {b : Bool} : (markPresence n b s).CountersLawful := h.setLine
theorem State.CountersLawful.handOwn {o : Origin} {b : Payload} : (handOwn o b s).CountersLawful := h.setAccounts
theorem State.CountersLawful.startWrite {p : WritePurpose} {i : PurseImage} {q : Purse} :
    (startWrite p i q s).CountersLawful := h.setCard

theorem State.CountersLawful.dropExchanges {x : Source} : (dropExchanges x s).CountersLawful := by
  unfold Machine.dropExchanges
  dsimp only
  split
  · exact h.setLine.setLine.emptyPlace
  · exact h.setLine

theorem State.CountersLawful.setOutbound {l : List OutEntry} : (setOutbound l s).CountersLawful :=
  h.setSettle.submit
theorem State.CountersLawful.addOutbound {e : OutEntry} : (addOutbound e s).CountersLawful := h.setOutbound
theorem State.CountersLawful.setRefunds {t : WriteTag} {l : List RefundEntry} :
    (setRefunds t l s).CountersLawful := h.setCard.submit
theorem State.CountersLawful.fillRefund {serial tag charged : Nat} :
    (fillRefund serial tag charged s).CountersLawful := h.setCard.setRefunds

theorem State.CountersLawful.removeRefund {serial tag : Nat} : (removeRefund serial tag s).CountersLawful := by
  unfold Machine.removeRefund
  split
  · exact h.setRefunds
  · exact h

theorem State.CountersLawful.enterPath {p : PathState} : (enterPath p s).CountersLawful := by
  unfold Machine.enterPath
  dsimp only
  split <;> exact h.setPath

end

end Sys2Proof.Machine
end

section
/-! ### The job unit keeps the law of counters -/

namespace Sys2Proof.Machine

section
variable {s : State} (h : s.CountersLawful)
include h

/-! #### The end of a job and its settlement -/

theorem State.CountersLawful.writeCheckpoint : (writeCheckpoint s).CountersLawful := by
  unfold Machine.writeCheckpoint
  split
  · exact h.submit
  · exact h

theorem State.CountersLawful.takeSerial {t : WriteTag} : (takeSerial t s).CountersLawful :=
  h.setJob.submit

theorem State.CountersLawful.jobToNone : (jobToNone s).CountersLawful :=
  h.setJob.setCard.setSettle.dropExchanges

theorem State.CountersLawful.endJob {route : Route} : (endJob route s).CountersLawful := by
  have ended := (h.addMeters (n := { MetersOf.zero with jobs := FundsOf.only s.job.ctx.funding 1 })).raiseNotice
    (b := .jobEnd (s.job.ctx.endItems route)) |>.submit (t := .plain) (w := .checkpoint none) |>.jobToNone
  unfold Machine.endJob
  dsimp only
  split
  · exact ended.enterPath
  · exact ended

theorem State.CountersLawful.whenSettling {f : State → State} (hf : (f s).CountersLawful) :
    (whenSettling f s).CountersLawful := by
  unfold Machine.whenSettling
  split
  · exact hf
  · exact h

theorem State.CountersLawful.settleByRefund : (settleByRefund s).CountersLawful :=
  h.whenSettling (by
    split
    · exact h.fillRefund.endJob
    · exact h.endJob)

theorem State.CountersLawful.settleByQueue : (settleByQueue s).CountersLawful :=
  h.whenSettling (by
    split
    · exact h.setSettle.addOutbound.endJob
    · exact h.endJob)

theorem State.CountersLawful.settlementWritten : (settlementWritten s).CountersLawful :=
  h.whenSettling (by
    dsimp only
    split
    · exact h.removeRefund.endJob
    · exact h.endJob)

theorem State.CountersLawful.settlePurse : (settlePurse s).CountersLawful := by
  unfold Machine.settlePurse
  split
  · exact h.endJob
  · split
    · split
      · exact h.startWrite
      · exact h.settleByRefund
    · exact h.settleByRefund

/-! #### Requests -/

theorem State.CountersLawful.topUpRefused : (topUpRefused s).CountersLawful := h.setCtx
theorem State.CountersLawful.topUpLapsed : (topUpLapsed s).CountersLawful := h.setCtx
theorem State.CountersLawful.acknowledge {posted : Nat} : (acknowledge posted s).CountersLawful := h.setCtx

theorem State.CountersLawful.jobRequestNoLine {r : JobRequest} : (jobRequestNoLine r s).CountersLawful := by
  cases r with
  | topUp => exact h.topUpRefused.raiseNotice
  | periodicPost => exact h
  | finalPost => exact h.settleByQueue

theorem State.CountersLawful.handRequests {l : List JobRequest} : (handRequests l s).CountersLawful := by
  induction l generalizing s with
  | nil => exact h
  | cons r rest ih =>
    have taken : (s.setJob { s.job with waiting := rest }).CountersLawful := h.setJob
    unfold Machine.handRequests
    dsimp only
    split_ifs
    · exact h
    · exact taken.handOwn
    · exact taken.askExchange
    · exact ih taken.jobRequestNoLine

theorem State.CountersLawful.pumpJob : (pumpJob s).CountersLawful := h.handRequests
theorem State.CountersLawful.askJob {r : JobRequest} : (askJob r s).CountersLawful := h.setJob.pumpJob

theorem State.CountersLawful.settleAccount : (settleAccount s).CountersLawful := by
  unfold Machine.settleAccount
  split
  · exact h.askJob
  · exact h.setJob.askJob

theorem State.CountersLawful.enterSettling : (enterSettling s).CountersLawful := by
  have settling : (s.setJob { s.job with
      ctx := { s.job.ctx with state := .settling }, postDue := none }).CountersLawful :=
    h.setJob
  unfold Machine.enterSettling
  dsimp only
  split
  · exact settling.settlePurse
  · exact settling.settleAccount

theorem State.CountersLawful.stopFeeding {reason : CloseReason} : (stopFeeding reason s).CountersLawful := by
  unfold Machine.stopFeeding
  dsimp only
  split
  · split
    · exact h.setCtx.enterSettling
    · exact h.setCtx.setCtx
  · exact h.setCtx.enterSettling
  · exact h

/-! #### Opening -/

theorem State.CountersLawful.enterRunning : (enterRunning s).CountersLawful :=
  h.setJob.writeCheckpoint.enterPath

theorem State.CountersLawful.openPurse {i : PurseImage} : (openPurse i s).CountersLawful := by
  unfold Machine.openPurse
  dsimp only
  split_ifs
  · exact h.complete
  · exact h.complete
  · exact h.takeSerial.setCard.setCtx.enterRunning.complete
  · exact h.takeSerial.setCard.setCtx.enterRunning.holdResult

theorem State.CountersLawful.takeFunding {kind : FundingKind} {amount discount : Nat} :
    (takeFunding kind amount discount s).CountersLawful := by
  unfold Machine.takeFunding
  dsimp only
  split
  · exact h.setCtx.setCtx.writeCheckpoint.complete.enterSettling
  · exact h.setCtx.setJob.enterRunning.complete

theorem State.CountersLawful.refuseOpening {r : Reason} : (refuseOpening r s).CountersLawful := h.jobToNone.complete

theorem State.CountersLawful.homeUnreachable : (homeUnreachable s).CountersLawful := by
  unfold Machine.homeUnreachable
  split
  · exact h.takeFunding
  · exact h.refuseOpening

theorem State.CountersLawful.firstHold {asked : Nat} {o : ExchangeOutcome} :
    (firstHold asked o s).CountersLawful := by
  unfold Machine.firstHold
  split
  · exact h
  · split
    · split_ifs
      · exact h.refuseOpening
      · exact h.takeFunding
      · exact h.refuseOpening
    · exact h.refuseOpening
    · exact h.homeUnreachable
    · exact h.refuseOpening

theorem State.CountersLawful.openAccount {number : Nat} {card : Option Nat} :
    (openAccount number card s).CountersLawful := by
  unfold Machine.openAccount
  split
  · exact h.complete
  · split
    · dsimp only
      split_ifs
      · exact h.complete
      · exact h.complete
      · exact h.takeSerial.setSettle.setJob.handOwn
      · exact h.takeSerial.setSettle.setJob.askExchange
      · exact h.takeSerial.setSettle.setJob.homeUnreachable
    · exact h.complete

/-! #### The feed gate -/

theorem State.CountersLawful.grantFeed {f : PendingFeed} : (grantFeed f s).CountersLawful := by
  unfold Machine.grantFeed
  dsimp only
  split
  · exact h.setPath.setJob.complete
  · exact h.setJob.complete

theorem State.CountersLawful.refuseFeed {r : Reason} : (refuseFeed r s).CountersLawful :=
  h.setJob.complete

theorem State.CountersLawful.retakeFeed : (retakeFeed s).CountersLawful := by
  unfold Machine.retakeFeed
  split
  · exact h
  · split
    · split
      · exact h.grantFeed
      · exact h.refuseFeed
    · exact h.refuseFeed
    · exact h.refuseFeed

theorem State.CountersLawful.seekPurse {f : PendingFeed} : (seekPurse f s).CountersLawful := by
  unfold Machine.seekPurse
  dsimp only
  split
  · split_ifs
    · exact h.complete
    · exact h.complete
    · exact h.setJob.startWrite
  · exact h.complete

theorem State.CountersLawful.seekAccount {f : PendingFeed} : (seekAccount f s).CountersLawful := by
  unfold Machine.seekAccount
  dsimp only
  split
  · exact h.complete
  · split_ifs
    · exact h.setJob.askJob
    · exact h.complete
    · exact h.complete
    · exact h.topUpRefused.complete
    · exact h.setCtx.askJob.complete

theorem State.CountersLawful.feedGate {tag : Tag} {d : Sheet} : (feedGate tag d s).CountersLawful := by
  unfold Machine.feedGate
  dsimp only
  split_ifs
  · exact h.complete
  · exact h.complete
  · split
    · exact h.complete
    · split_ifs
      · exact h.complete
      · exact h.grantFeed
      · split
        · exact h.seekPurse
        · exact h.seekAccount
        · exact h.complete

/-! #### Moves, top-ups and posts -/

theorem State.CountersLawful.moveCompleted {m tag : Nat} : (moveCompleted m tag s).CountersLawful :=
  h.setCtx.writeCheckpoint.retakeFeed

theorem State.CountersLawful.moveUncertain : (moveUncertain s).CountersLawful := h.refuseFeed.stopFeeding

theorem State.CountersLawful.topUpGranted {g : Nat} : (topUpGranted g s).CountersLawful := h.setCtx.writeCheckpoint

theorem State.CountersLawful.localTopUp {a : HoldAnswerFields} : (localTopUp a s).CountersLawful := by
  unfold Machine.localTopUp
  split_ifs
  · exact h.topUpGranted.retakeFeed
  · exact h.topUpLapsed.refuseFeed
  · exact h.topUpRefused.refuseFeed

theorem State.CountersLawful.remoteTopUp {asked : Nat} {o : ExchangeOutcome} :
    (remoteTopUp asked o s).CountersLawful := by
  unfold Machine.remoteTopUp
  split
  · split_ifs
    · exact h.topUpRefused.raiseNotice
    · exact h.topUpGranted.raiseNotice
    · exact h.topUpLapsed.raiseNotice
    · exact h.topUpRefused.raiseNotice
  all_goals exact h.topUpRefused.raiseNotice

theorem State.CountersLawful.periodicOutcome {o : ExchangeOutcome} : (periodicOutcome o s).CountersLawful := by
  unfold Machine.periodicOutcome
  split
  · split_ifs
    · exact h.acknowledge.writeCheckpoint
    · exact h.acknowledge.topUpLapsed.raiseNotice.writeCheckpoint
    · exact h
    · exact h.topUpLapsed.raiseNotice
  · exact h.topUpLapsed.raiseNotice
  · exact h
  · exact h

theorem State.CountersLawful.finalFailed {status : Nat} : (finalFailed status s).CountersLawful := by
  unfold Machine.finalFailed
  split
  · exact h.raiseNotice.endJob
  · exact h.endJob

theorem State.CountersLawful.finalAcknowledged {posted : Nat} : (finalAcknowledged posted s).CountersLawful := by
  unfold Machine.finalAcknowledged
  split
  · exact h
  · exact h.acknowledge.writeCheckpoint

theorem State.CountersLawful.finalOutcome {o : ExchangeOutcome} : (finalOutcome o s).CountersLawful :=
  h.whenSettling (by
    split
    · split
      · exact h.finalAcknowledged.endJob
      · exact h.finalFailed
    · exact h.finalFailed
    · exact h.settleByQueue
    · exact h.settleByQueue)

theorem State.CountersLawful.jobOutcome {body : Payload} {o : ExchangeOutcome} :
    (jobOutcome body o s).CountersLawful := by
  refine State.CountersLawful.pumpJob ?_
  split
  · exact h.firstHold
  · split
    · exact h.localTopUp
    · exact h.remoteTopUp
  · split
    · exact h.finalOutcome
    · exact h.periodicOutcome
  · exact h

/-! #### Deliveries, losses and cards -/

theorem State.CountersLawful.deliver {r : SheetRecord} : (deliver r s).CountersLawful := by
  unfold Machine.deliver
  dsimp only
  split
  · exact h.setCtx.writeCheckpoint.addMeters.enterSettling
  · exact h.setCtx.writeCheckpoint.addMeters

theorem State.CountersLawful.loseSheet {r : SheetRecord} : (loseSheet s r).CountersLawful :=
  h.setJob.addMeters

theorem State.CountersLawful.loseSheets {l : List SheetRecord} : (l.foldl Machine.loseSheet s).CountersLawful := by
  induction l generalizing s with
  | nil => exact h
  | cons r rest ih => exact ih h.loseSheet

theorem State.CountersLawful.faultJob : (faultJob s).CountersLawful := by
  unfold Machine.faultJob
  split
  · exact h.setCtx
  · exact h.setCtx
  · exact h

theorem State.CountersLawful.openingCardRemoved {serial : Nat} : (openingCardRemoved serial s).CountersLawful := by
  unfold Machine.openingCardRemoved
  split
  · split
    · exact h.setJob
    · exact h.stopFeeding
    · exact h.stopFeeding
    · exact h
  · exact h

theorem State.CountersLawful.interruptedNoCard : (interruptedNoCard s).CountersLawful := by
  unfold Machine.interruptedNoCard
  split
  · exact h.settleByRefund
  · exact h

theorem State.CountersLawful.interruptedCard : (interruptedCard s).CountersLawful := by
  unfold Machine.interruptedCard
  split
  · split
    · split
      · exact h.setJob.startWrite
      · exact h.settleByRefund
    · exact h.settleByRefund
  · exact h

end

end Sys2Proof.Machine
end

section
/-! ### The settlement unit, the card controller and the line keep the law of counters -/

namespace Sys2Proof.Machine

section
variable {s : State} (h : s.CountersLawful)
include h

/-! #### The settlement unit -/

theorem State.CountersLawful.answerRelease {q : EscrowFields} : (answerRelease q s).1.CountersLawful :=
  h.removeRefund

theorem State.CountersLawful.answerQuery {q : EscrowFields} : (answerQuery q s).1.CountersLawful := by
  unfold Machine.answerQuery
  split
  · exact h
  · split
    · exact h
    · dsimp only
      split
      · exact h
      · exact h.setRefunds

theorem State.CountersLawful.entryAnswered {e : OutEntry} {p : Payload} : (entryAnswered e p s).CountersLawful :=
  h.setOutbound.raiseNotice

theorem State.CountersLawful.tryEntry {e : OutEntry} {b : Bool} : (tryEntry e b s).CountersLawful := by
  unfold Machine.tryEntry
  dsimp only
  split
  · split
    · exact h.setSettle.handOwn
    · exact h.answerRelease.entryAnswered
  · exact h.setSettle.askExchange

theorem State.CountersLawful.roundStep {l : List EntryKey} : (roundStep l s).CountersLawful := by
  induction l generalizing s with
  | nil => exact h.setSettle
  | cons k rest ih =>
    unfold Machine.roundStep
    split
    · exact ih h
    · dsimp only
      split
      · exact h.setSettle.tryEntry
      · exact ih h.setSettle.tryEntry

theorem State.CountersLawful.heardStep {fuel : Nat} : (heardStep fuel s).CountersLawful := by
  induction fuel generalizing s with
  | zero => exact h
  | succ fuel ih =>
    unfold Machine.heardStep
    split
    · exact h.setSettle
    · dsimp only
      split
      · exact h.setSettle.tryEntry
      · exact ih h.setSettle.tryEntry

theorem State.CountersLawful.beginRound : (beginRound s).CountersLawful := h.setSettle.roundStep

theorem State.CountersLawful.pumpSettlement : (pumpSettlement s).CountersLawful := by
  have round : (match s.settle.round with
      | some rest => Machine.roundStep rest s
      | none => s).CountersLawful := by
    split
    · exact h.roundStep
    · exact h
  unfold Machine.pumpSettlement
  dsimp only
  split_ifs
  · exact h.setSettle
  · exact h
  · exact round
  · exact round.beginRound
  · exact round.heardStep

theorem State.CountersLawful.tryOutcome {o : ExchangeOutcome} : (tryOutcome o s).CountersLawful := by
  unfold Machine.tryOutcome
  split
  · exact h
  · refine State.CountersLawful.pumpSettlement ?_
    dsimp only
    split
    · exact h.setSettle.entryAnswered
    · split
      · exact h.setSettle.setSettle
      · exact h.setSettle
    · exact h.setSettle

theorem State.CountersLawful.settlementHears {station : Nat} : (settlementHears station s).CountersLawful := by
  unfold Machine.settlementHears
  split
  · exact h
  · split
    · exact h
    · split
      · exact h.tryEntry
      · exact h.setSettle

/-! #### The card controller's exchanges and escrows -/

theorem State.CountersLawful.freeCardPlace : (freeCardPlace s).CountersLawful := h.setSettle
theorem State.CountersLawful.endResolving : (endResolving s).CountersLawful := h.setCard.freeCardPlace

theorem State.CountersLawful.escrowUnresolved {r : Reason} : (escrowUnresolved r s).CountersLawful := by
  unfold Machine.escrowUnresolved
  split
  · exact h.raiseNotice
  · exact h

theorem State.CountersLawful.queueRelease {station serial tag : Nat} :
    (queueRelease station serial tag s).CountersLawful := h.freeCardPlace.addOutbound

theorem State.CountersLawful.removeStale {i : PurseImage} : (removeStale i s).CountersLawful := by
  unfold Machine.removeStale
  split
  · exact h.setRefunds
  · exact h

theorem State.CountersLawful.cardExchangeEnds {e : CardExchange} {o : ExchangeOutcome} :
    (cardExchangeEnds e o s).CountersLawful := by
  match e with
  | .release _ _ _ =>
    cases o with
    | answer => exact h.freeCardPlace
    | noAnswer => exact h.queueRelease
    | noLine => exact h.queueRelease
  | .query _ _ _ false => exact h.freeCardPlace
  | .query _ _ _ true =>
    simp only [Machine.cardExchangeEnds]
    split
    · split_ifs
      · split
        · split_ifs
          · exact h.startWrite
          · exact h.escrowUnresolved.endResolving
          · exact h.endResolving
        · exact h.endResolving
      · exact h.escrowUnresolved.endResolving
      · exact h.escrowUnresolved.endResolving
    all_goals exact h.escrowUnresolved.endResolving

theorem State.CountersLawful.handCardExchanges {l : List CardExchange} :
    (handCardExchanges l s).CountersLawful := by
  induction l generalizing s with
  | nil => exact h
  | cons e rest ih =>
    have taken : (s.setCard { s.card with waiting := rest }).CountersLawful := h.setCard
    unfold Machine.handCardExchanges
    dsimp only
    split_ifs
    · exact h
    · exact taken.setCard.askExchange
    · exact ih taken.cardExchangeEnds

theorem State.CountersLawful.pumpCard : (pumpCard s).CountersLawful := h.handCardExchanges
theorem State.CountersLawful.askCard {e : CardExchange} : (askCard e s).CountersLawful :=
  h.setCard.pumpCard

theorem State.CountersLawful.cardOutcome {o : ExchangeOutcome} : (cardOutcome o s).CountersLawful := by
  unfold Machine.cardOutcome
  split
  · exact h
  · exact h.setCard.cardExchangeEnds.pumpCard

theorem State.CountersLawful.settleFromList {i : PurseImage} : (settleFromList i s).CountersLawful := by
  unfold Machine.settleFromList
  split
  · exact h.escrowUnresolved
  · split
    · exact h.escrowUnresolved
    · split
      · exact h.startWrite
      · exact h

theorem State.CountersLawful.resolveEscrow {k : Nat} {i : PurseImage} : (resolveEscrow k i s).CountersLawful := by
  unfold Machine.resolveEscrow
  dsimp only
  split_ifs
  · exact h.escrowUnresolved
  · exact h.escrowUnresolved
  · exact h.escrowUnresolved
  · exact h.setSettle.setCard.askCard

theorem State.CountersLawful.lookAtEscrow {i : PurseImage} : (lookAtEscrow i s).CountersLawful := by
  unfold Machine.lookAtEscrow
  split_ifs
  · exact h
  · exact h.settleFromList
  · split
    · exact h.resolveEscrow
    · exact h

/-! #### Readings, writes and removals -/

theorem State.CountersLawful.sendCard {r : CardRequest} : (sendCard r s).CountersLawful := h.setCard
theorem State.CountersLawful.beginReading : (beginReading s).CountersLawful := h.setCard.sendCard
theorem State.CountersLawful.rejectCard {r : Reason} : (rejectCard r s).CountersLawful :=
  h.setCard.raiseNotice.interruptedNoCard
theorem State.CountersLawful.readyAccountCard {id : CardIdentity} : (readyAccountCard id s).CountersLawful :=
  h.setCard.raiseNotice.interruptedNoCard

theorem State.CountersLawful.readyPurseCard {i : PurseImage} : (readyPurseCard i s).CountersLawful := by
  unfold Machine.readyPurseCard
  dsimp only
  split
  · exact h.setCard.raiseNotice.removeStale.interruptedCard
  · exact h.setCard.raiseNotice.removeStale.interruptedCard.lookAtEscrow

theorem State.CountersLawful.judgeIdentity {bytes : List Byte} : (judgeIdentity bytes s).CountersLawful := by
  unfold Machine.judgeIdentity
  split
  · exact h.rejectCard
  · split
    · exact h.setCard.rejectCard
    · dsimp only
      split_ifs
      · exact h.setCard.rejectCard
      · exact h.setCard.rejectCard
      · split
        · exact h.setCard.readyAccountCard
        · exact h.setCard.setCard.sendCard

theorem State.CountersLawful.judgeSlots {a b : List Byte} : (judgeSlots a b s).CountersLawful := by
  unfold Machine.judgeSlots
  split
  · split
    · exact h.rejectCard
    · exact h.readyPurseCard
  · exact h.rejectCard

theorem State.CountersLawful.readAnswered {bytes : List Byte} : (readAnswered bytes s).CountersLawful := by
  unfold Machine.readAnswered
  split
  · exact h.rejectCard
  · split
    · exact h.judgeIdentity
    · exact h.setCard.sendCard
    · exact h.judgeSlots
    · exact h

theorem State.CountersLawful.takeWrite {w : CardWrite} : (takeWrite w s).CountersLawful := h.setCard

theorem State.CountersLawful.writeCompleted {w : CardWrite} : (writeCompleted w s).CountersLawful := by
  unfold Machine.writeCompleted
  split
  · exact h.moveCompleted
  · exact h.settlementWritten
  · exact h.removeRefund.raiseNotice
  · exact h.setCard.raiseNotice.askCard
  · dsimp only
    split
    · exact h.complete.removeStale
    · exact h.complete

theorem State.CountersLawful.writeUncertain {w : CardWrite} : (writeUncertain w s).CountersLawful := by
  unfold Machine.writeUncertain
  split
  · exact h.moveUncertain
  · exact h.settleByRefund
  · exact h
  · exact h.freeCardPlace
  · exact h.complete

theorem State.CountersLawful.cardSilent : (cardSilent s).CountersLawful := by
  unfold Machine.cardSilent
  split
  · exact h.beginReading.writeUncertain
  · exact h.rejectCard

theorem State.CountersLawful.removeCard : (removeCard s).CountersLawful := by
  have told {x : State} (hx : x.CountersLawful) : (match s.card.state with
      | .reading _ => Machine.interruptedNoCard x
      | _ => match s.card.writing with
        | some w => Machine.writeUncertain w x
        | none => x).CountersLawful := by
    split
    · exact hx.interruptedNoCard
    · split
      · exact hx.writeUncertain
      · exact hx
  unfold Machine.removeCard
  dsimp only
  split
  · exact (told h.setCard.raiseNotice).openingCardRemoved
  · exact told h.setCard.raiseNotice

/-! #### The line -/

theorem State.CountersLawful.exchangeEnds {o : ExchangeOutcome} {e : Exchange} :
    (exchangeEnds o s e).CountersLawful := by
  unfold Machine.exchangeEnds
  split
  · exact h.jobOutcome
  · exact h.cardOutcome
  · exact h.tryOutcome

theorem State.CountersLawful.exchangesEnd {o : ExchangeOutcome} {l : List Exchange} :
    (l.foldl (Machine.exchangeEnds o) s).CountersLawful := by
  induction l generalizing s with
  | nil => exact h
  | cons e rest ih => exact ih h.exchangeEnds

theorem State.CountersLawful.endExchange {o : ExchangeOutcome} : (endExchange o s).CountersLawful := by
  unfold Machine.endExchange
  split
  · exact h
  · exact h.setLine.emptyPlace.exchangeEnds

theorem State.CountersLawful.readyRequest {e : Exchange} : (readyRequest e s).CountersLawful :=
  h.setLine.emptyPlace.readyFrame

theorem State.CountersLawful.attemptFails : (attemptFails s).CountersLawful := by
  unfold Machine.attemptFails
  split
  · exact h
  · split
    · exact h.readyRequest
    · exact h.markPresence.endExchange

theorem State.CountersLawful.startExchange : (startExchange s).CountersLawful := by
  unfold Machine.startExchange
  split
  · exact h.setLine.readyRequest
  · exact h

theorem State.CountersLawful.takeAnswer {f : Frame} : (takeAnswer f s).CountersLawful := by
  unfold Machine.takeAnswer
  split
  · split
    · exact h.endExchange
    · exact h
  · exact h

theorem State.CountersLawful.queueRequest {f : Frame} : (queueRequest f s).CountersLawful := by
  unfold Machine.queueRequest
  split
  · exact h.setAccounts
  · exact h

theorem State.CountersLawful.answerAsCard {answer : State → State × Payload} (ha : ((answer s).1).CountersLawful)
    {f : Frame} : (answerAsCard answer f s).CountersLawful := by
  unfold Machine.answerAsCard
  dsimp only
  split
  · exact h
  · exact ha.readyFrame

theorem State.CountersLawful.updateRoster {station : Nat} {home : Option HomeRange} :
    (updateRoster station home s).CountersLawful := by
  unfold Machine.updateRoster
  dsimp only
  split
  · exact h.setLine
  · exact h.setLine.raiseNotice

theorem State.CountersLawful.callAnswerRoll : (callAnswerRoll s).CountersLawful := by
  unfold Machine.callAnswerRoll
  split
  · exact h
  · exact h.setLine

theorem State.CountersLawful.takeRoll {known : Bool} {f : Frame} {p : RollFields} :
    (takeRoll known f p s).CountersLawful := by
  unfold Machine.takeRoll
  dsimp only
  split
  · exact h.updateRoster.callAnswerRoll
  · exact h.updateRoster

theorem State.CountersLawful.enterConflict {f : Frame} : (enterConflict f s).CountersLawful :=
  h.setLine.setSettle.exchangesEnd.setAccounts.raiseNotice

theorem State.CountersLawful.lineGoesIdle : (lineGoesIdle s).CountersLawful := by
  unfold Machine.lineGoesIdle
  split
  · exact h
  · exact h.setLine

theorem State.CountersLawful.noteHeard {station : Nat} : (noteHeard station s).CountersLawful :=
  h.markPresence.settlementHears

/-- A frame heard keeps the law of counters, given that what its kind does does. -/
theorem State.CountersLawful.hearFrame {act : State → State}
    (hact : ∀ x : State, x.CountersLawful → (act x).CountersLawful) {f : Frame} :
    (hearFrame f act s).CountersLawful := by
  unfold Machine.hearFrame
  dsimp only
  split_ifs
  · exact h
  · exact h.lineGoesIdle
  · exact h.lineGoesIdle.enterConflict
  · exact hact _ h.lineGoesIdle.noteHeard
  · exact h.lineGoesIdle.noteHeard

theorem State.CountersLawful.hearByKind {f : Frame} : (hearByKind f s).CountersLawful := by
  unfold Machine.hearByKind
  split <;> refine h.hearFrame fun x hx => ?_
  case h_1 => exact hx.takeRoll
  case h_2 | h_3 | h_4 => exact hx.queueRequest
  case h_5 | h_6 | h_8 | h_10 => exact hx.takeAnswer
  case h_7 => exact hx.answerAsCard hx.answerQuery
  case h_9 => exact hx.answerAsCard hx.answerRelease

theorem State.CountersLawful.sendStarts {idle : Nat} : (sendStarts idle s).CountersLawful := by
  unfold Machine.sendStarts
  dsimp only
  split
  · exact h
  · split
    · split <;> exact h.setLine
    · exact h.setLine

theorem State.CountersLawful.frameSentWhole : (frameSentWhole s).CountersLawful := by
  unfold Machine.frameSentWhole
  split
  · exact h
  · dsimp only
    split
    · exact h.setLine.emptyPlace.setLine
    · split
      · exact h.setLine.emptyPlace.setLine
      · exact h.setLine.emptyPlace
    · exact h.setLine.emptyPlace

theorem State.CountersLawful.collide : (collide s).CountersLawful := by
  unfold Machine.collide
  split
  · exact h
  · split
    · exact h.setLine
    · dsimp only
      split
      · exact h.emptyPlace.attemptFails
      · split
        · exact h.emptyPlace.readyFrame
        · exact h.emptyPlace
      · exact h.emptyPlace

theorem State.CountersLawful.becomeMember : (becomeMember s).CountersLawful := h.setLine.setSettle.pumpSettlement

theorem State.CountersLawful.answerRoll : (answerRoll s).CountersLawful := by
  unfold Machine.answerRoll
  dsimp only
  split
  · exact h.setLine
  · exact h.setLine.readyFrame

theorem State.CountersLawful.lineGoesBusy : (lineGoesBusy s).CountersLawful := by
  unfold Machine.lineGoesBusy
  split
  · exact h
  · exact h.setLine

end

end Sys2Proof.Machine
end

section
/-! ### The path monitor and the answers of the account unit keep the law of counters -/

namespace Sys2Proof.Machine

section
variable {s : State} (h : s.CountersLawful)
include h

/-! #### Edges, jams and purges -/

theorem State.CountersLawful.clearOnEntry : (clearOnEntry s).CountersLawful := by
  unfold Machine.clearOnEntry
  split
  · exact h.raiseNotice
  · exact h

theorem State.CountersLawful.clearAfterEdge {b : Bool} {t : TimePoint} : (clearAfterEdge b t s).CountersLawful := by
  unfold Machine.clearAfterEdge
  split
  · exact h.raiseNotice
  · exact h

theorem State.CountersLawful.declareJam {kind : JamKind} {place : JamPlace} {named : Option SheetRecord} :
    (declareJam kind place named s).CountersLawful := by
  have emptied : ((Machine.enterPath .fault s).setPath
      { (Machine.enterPath .fault s).path with queue := [] }).CountersLawful :=
    h.enterPath.setPath
  exact emptied.loseSheets.setPath.addMeters.raiseNotice.faultJob.clearOnEntry

theorem State.CountersLawful.matchLeading {x : PathSensor} {t : TimePoint} :
    (matchLeading x t s).CountersLawful := by
  unfold Machine.matchLeading
  dsimp only
  split
  · exact h.setPath
  · split
    · exact h.declareJam
    · split <;> exact h.declareJam

theorem State.CountersLawful.moveOn {x : PathSensor} {r : SheetRecord} : (moveOn x r s).CountersLawful := by
  unfold Machine.moveOn
  split
  · exact h.setPath
  · exact h.setPath.deliver

theorem State.CountersLawful.matchTrailing {x : PathSensor} {t : TimePoint} :
    (matchTrailing x t s).CountersLawful := by
  unfold Machine.matchTrailing
  split
  · exact h.declareJam
  · split_ifs
    · exact h.declareJam
    · exact h.declareJam
    · exact h.moveOn

theorem State.CountersLawful.takeSensorEdge {x : PathSensor} {t : TimePoint}
    {matched : PathSensor → TimePoint → State → State}
    (hm : ∀ y : State, y.CountersLawful → (matched x t y).CountersLawful) :
    (takeSensorEdge x t matched s).CountersLawful := by
  have flipped := h.setPath (p := { s.path with filters := s.path.filters.set x (s.path.filters.get x).flip })
  unfold Machine.takeSensorEdge
  dsimp only
  split
  · exact hm _ flipped
  · exact flipped.clearAfterEdge

theorem State.CountersLawful.takeDoorEdge {opening : Bool} {t : TimePoint} :
    (takeDoorEdge opening t s).CountersLawful := by
  have flipped := h.setPath
    (p := { s.path with filters := { s.path.filters with door := s.path.filters.door.flip } })
  unfold Machine.takeDoorEdge
  dsimp only
  split
  · split
    · exact flipped.declareJam
    · exact flipped
  · exact flipped.clearAfterEdge

theorem State.CountersLawful.deadlineJam {r : SheetRecord} : (deadlineJam r s).CountersLawful := by
  unfold Machine.deadlineJam
  split
  · exact h.declareJam
  · exact h

theorem State.CountersLawful.judgePurge : (judgePurge s).CountersLawful := by
  have settled := h.setPath (p := { s.path with filters := s.path.filters.settled, settling := none })
  unfold Machine.judgePurge
  dsimp only
  split
  · exact settled.enterPath.clearOnEntry.complete
  · split
    · exact settled.setPath.enterPath.complete
    · exact settled.setPath.enterPath.raiseNotice.complete

theorem State.CountersLawful.samplePath {l : Levels} {d : DoorReading} : (samplePath l d s).CountersLawful :=
  h.setPath

theorem State.CountersLawful.samplePresence {p : Presence} : (samplePresence p s).CountersLawful :=
  h.setCard

/-! #### The account unit -/

theorem State.CountersLawful.releaseAnswer {x : InHand} : (releaseAnswer x s).CountersLawful := by
  unfold Machine.releaseAnswer
  split
  · split
    · exact h.readyFrame
    · exact h
  · exact h.jobOutcome
  · exact h.tryOutcome

theorem State.CountersLawful.requestWritten : (requestWritten s).CountersLawful := by
  unfold Machine.requestWritten
  split
  · exact h
  · split
    · exact h.setAccounts.releaseAnswer
    · exact h.setAccounts

end

end Sys2Proof.Machine
end

section
/-! ### The account unit, the store's progress and the start keep the law of counters -/

namespace Sys2Proof.Machine

/-! #### Decisions (R131, R137, R141) -/

/-- What a decision of the account unit does to the account table: nothing, its writes being of holds, or one account
takes a post, is put in the table and is written. -/
inductive AccountChange (table : List Account) : List Account → List RecordWrite → Prop
  | none {writes : List RecordWrite} (holds : ∀ w ∈ writes, w.isHold = true) : AccountChange table table writes
  | charged {a : Account} {money : Nat} {figures : FiguresOf Nat} {h : Hold} (mem : a ∈ table) :
      AccountChange table (putSorted Account.number (a.charge money figures) table)
        [writeHold h, writeAccount (a.charge money figures)]

theorem AccountChange.unwritten {table : List Account} : AccountChange table table [] := .none (by simp)

theorem AccountChange.holdWritten {table : List Account} {h : Hold} : AccountChange table table [writeHold h] :=
  .none (by simp [writeHold, RecordWrite.isHold])

theorem grantHold_accounts {table : List Account} {r : HoldRequestFields} {a : Account} {u : AccountUnit}
    {freed : Option Nat} {writes : List RecordWrite} {s : State} (hu : u.table = table)
    (hw : ∀ w ∈ writes, w.isHold = true) :
    AccountChange table (grantHold r a u freed writes s).unit.table (grantHold r a u freed writes s).writes := by
  subst hu
  unfold grantHold
  dsimp only
  split_ifs
  · exact .none hw
  · exact .none hw
  · exact .none hw
  · exact .holdWritten

section
variable {s : State}

theorem decideHold_accounts (o : Origin) (r : HoldRequestFields) :
    AccountChange s.accounts.table (decideHold o r s).unit.table (decideHold o r s).writes := by
  unfold decideHold
  dsimp only
  split_ifs
  · exact .unwritten
  · exact .unwritten
  · split
    · exact .unwritten
    · split
      · exact grantHold_accounts rfl (by simp)
      · split
        · exact .unwritten
        · exact grantHold_accounts rfl (by simp [RecordWrite.isHold])

theorem decideTopUp_accounts (o : Origin) (r : TopUpRequestFields) :
    AccountChange s.accounts.table (decideTopUp o r s).unit.table (decideTopUp o r s).writes := by
  unfold decideTopUp
  dsimp only
  split
  · exact .unwritten
  · split
    · exact .unwritten
    · split
      · exact .unwritten
      · split
        · exact .unwritten
        · exact .unwritten
        · unfold grantTopUp
          dsimp only
          split
          · exact .unwritten
          · split_ifs
            · exact .unwritten
            · exact .unwritten
            · exact .unwritten
            · exact .holdWritten

theorem applyPost_accounts (r : PostFields) (h : Hold) :
    AccountChange s.accounts.table (applyPost r h s).unit.table (applyPost r h s).writes := by
  unfold applyPost
  dsimp only
  generalize held : (if r.final = true then _ else _ : AccountUnit × Hold) = x
  have table : x.1.table = s.accounts.table := by rw [← held]; split <;> rfl
  split
  · split
    · rw [← table]
      exact .charged (table ▸ List.mem_of_find?_eq_some ‹_›)
    · rw [← table]
      exact .holdWritten
  · rw [← table]
    exact .unwritten

theorem decidePost_accounts (o : Origin) (r : PostFields) :
    AccountChange s.accounts.table (decidePost o r s).unit.table (decidePost o r s).writes := by
  unfold decidePost
  dsimp only
  split_ifs
  · exact .unwritten
  · exact .unwritten
  · split
    · split_ifs
      · exact .unwritten
      · exact .unwritten
      · exact .unwritten
      · exact applyPost_accounts r _
    · split
      · exact .charged (List.mem_of_find?_eq_some ‹_›)
      · exact .unwritten

theorem decideRequest_accounts {a : Arrival} {d : Decision} (e : decideRequest a s = some d) :
    AccountChange s.accounts.table d.unit.table d.writes := by
  unfold decideRequest at e
  split at e <;> simp only [Option.ite_none_left_eq_some, Option.some.injEq, reduceCtorEq] at e
  · exact e.2 ▸ decideHold_accounts _ _
  · exact e.2 ▸ decideTopUp_accounts _ _
  · exact e.2 ▸ decidePost_accounts _ _

end

theorem RecordWrite.lawful_of_isHold {w : RecordWrite} (h : w.isHold = true) : w.lawful := by
  cases w with
  | hold => trivial
  | _ => cases h

theorem AccountChange.lawful {table table' : List Account} {writes : List RecordWrite}
    (c : AccountChange table table' writes) (h : ∀ a ∈ table, a.lawful) :
    (∀ a ∈ table', a.lawful) ∧ ∀ w ∈ writes, w.lawful := by
  cases c with
  | none holds => exact ⟨h, fun w hw => RecordWrite.lawful_of_isHold (holds w hw)⟩
  | charged mem =>
    have charged := (h _ mem).charge
    refine ⟨fun b hb => ?_, List.forall_mem_cons.mpr ⟨trivial, List.forall_mem_singleton.mpr (charged _ _)⟩⟩
    rcases mem_putSorted _ _ _ _ hb with rfl | hb
    · exact charged _ _
    · exact h b hb

section
variable {s : State} (h : s.CountersLawful)
include h

theorem State.CountersLawful.carryOut {a : Arrival} {d : Decision}
    (c : AccountChange s.accounts.table d.unit.table d.writes) : (carryOut a d s).CountersLawful := by
  obtain ⟨table, writes⟩ := c.lawful h.table
  have decided : (if d.fresh then advanceFree (s.setAccounts d.unit) else s.setAccounts d.unit).CountersLawful := by
    split
    · exact (h.setTable table).setFree
    · exact h.setTable table
  unfold Machine.carryOut
  dsimp only
  split
  · exact decided.releaseAnswer
  · exact decided.setAccounts.submitAll writes

theorem State.CountersLawful.takeRequest {a : Arrival} : (takeRequest a s).CountersLawful := by
  unfold Machine.takeRequest
  dsimp only
  split
  · exact h.setAccounts.carryOut (decideRequest_accounts ‹_›)
  · exact h.setAccounts

theorem State.CountersLawful.lapseHold {x : Hold} : (lapseHold x s).CountersLawful := h.setAccounts.submit

/-! #### The store's progress (R165, R181) -/

theorem State.CountersLawful.passOn : (passOn s).CountersLawful := by
  unfold Machine.passOn
  split
  · exact h.beginWrite
  · rename_i w rest waits
    have moved : (s.setStore { s.store with queue := s.store.queue ++ [w], waiting := rest }).CountersLawful :=
      { h with writes := by simpa [Store.writes, waits] using h.writes }
    dsimp only
    split
    · exact moved.beginWrite.releaseHeld
    · exact moved.beginWrite

theorem State.CountersLawful.remeter : (remeter s).CountersLawful := by
  have noted : (s.setStore { s.store with metersAgain := false }).CountersLawful := { h with }
  unfold Machine.remeter
  split
  · exact noted.noteMeters
  · exact h

theorem State.CountersLawful.storeCompletes : (storeCompletes s).CountersLawful := by
  unfold Machine.storeCompletes
  split
  · rename_i w current
    have writes := h.writes
    simp only [Store.writes, current, Option.map_some, Option.toList_some, List.singleton_append,
      List.forall_mem_cons] at writes
    obtain ⟨first, others⟩ := writes
    have applied : (s.setStore { s.store with
        records := w.1.what.apply s.store.records, current := none }).CountersLawful :=
      { h with records := RecordWrite.apply_lawful first h.records, writes := others }
    have metered (b : Bool) {x : State} (hx : x.CountersLawful) :
        (if b then Machine.remeter x else x).CountersLawful := by
      split
      · exact hx.remeter
      · exact hx
    have completed := metered w.1.what.isMeters applied.passOn
    unfold completeWrite
    dsimp only
    split
    · exact completed.requestWritten
    · exact completed
  · exact h

/-! #### Starts and losses of power (R182, R185) -/

/-- Every write that a RESTART completes is lawful, a meter write with the counters of that moment (R182; log 19). -/
theorem State.CountersLawful.finishWrites : (finishWrites s).store.records.lawful := by
  have completed {l : List RecordWrite} (hl : ∀ w ∈ l, w.lawful) {r : StoreRecords} (hr : r.lawful) :
      (l.foldl (fun r w => w.apply r) r).lawful := by
    induction l generalizing r with
    | nil => exact hr
    | cons w rest ih =>
      rw [List.forall_mem_cons] at hl
      exact ih hl.2 (RecordWrite.apply_lawful hl.1 hr)
  have writes := h.writes
  simp only [Store.writes, List.map_append, List.forall_mem_append] at writes
  obtain ⟨current, queue, -⟩ := writes
  rw [List.forall_mem_map] at queue
  refine completed (List.forall_mem_append.mpr ⟨current, ?_⟩) h.records
  rw [List.forall_mem_map]
  exact fun w hw => (queue w hw).begun h.meter

omit h in
/-- A start takes back lawful records. -/
theorem start_countersLawful (cause : StartCause) {x : State} (hx : x.store.records.lawful) :
    (start cause x).CountersLawful := by
  have blocks : (startBlocks cause x).CountersLawful := ⟨hx.meters, hx.accounts, hx, fun _ hw => nomatch hw⟩
  have line : (startLine (startBlocks cause x)).CountersLawful := by
    unfold startLine
    split
    · exact blocks
    · exact blocks.setLine.readyFrame
  unfold start takeCheckpoint
  split
  · exact line
  · rename_i k _
    have reserved :
        (reservePlace k.funding ((startLine (startBlocks cause x)).setCtx k.interrupted)).CountersLawful := by
      unfold reservePlace
      split
      · exact line.setCtx.setCard
      · exact line.setCtx.setSettle
    unfold settleInterrupted
    split_ifs
    · exact reserved.setJob
    · exact reserved.endJob
    · exact reserved.askJob
    · exact reserved.settleByQueue

theorem State.CountersLawful.restart : (restart s).CountersLawful := start_countersLawful _ h.finishWrites

theorem State.CountersLawful.losePower : (losePower s).CountersLawful :=
  ⟨h.records.meters, fun _ ha => (nomatch ha), h.records, fun _ hw => nomatch hw⟩

end

end Sys2Proof.Machine
end

section
/-! ### Every command of the catalogue keeps the law of counters -/

namespace Sys2Proof.Machine

section
variable {s : State} (h : s.CountersLawful) {ps : List Byte}
include h

/-! #### The engine's commands -/

theorem State.CountersLawful.setOptions : (setOptions ps s).CountersLawful := by
  unfold Machine.setOptions
  split
  · exact h.complete
  · split
    · exact h.submitAndAnswer
    · exact h.complete

theorem State.CountersLawful.loadTariff : (loadTariff ps s).CountersLawful := by
  unfold Machine.loadTariff
  split
  · exact h.complete
  · split
    · exact h.complete
    · split
      · exact h.setTariff.submitAndAnswer
      · exact h.complete

theorem State.CountersLawful.loadProfile : (loadProfile ps s).CountersLawful := by
  unfold Machine.loadProfile
  split_ifs
  · exact h.complete
  · exact h.complete
  · split
    · exact h.complete
    · split
      · exact h.setPath.submitAndAnswer
      · exact h.complete

theorem State.CountersLawful.openOnCard : (openOnCard s).CountersLawful := by
  unfold Machine.openOnCard
  split
  · exact h.complete
  · exact h.complete
  · exact h.complete
  · split
    · split
      · exact h.openPurse
      · exact h.openAccount
    · split
      · exact h.openAccount
      · exact h.complete
    · exact h.complete

theorem State.CountersLawful.openJob : (openJob ps s).CountersLawful := by
  unfold Machine.openJob
  split
  · exact h.complete
  · split
    · exact h.complete
    · exact h.openOnCard
    · split
      · exact h.complete
      · exact h.openAccount

theorem State.CountersLawful.takeFeed : (Machine.feed ps s).CountersLawful := by
  unfold Machine.feed
  split
  · exact h.complete
  · exact h.complete
  · split
    · exact h.feedGate
    · exact h.complete
  · exact h.complete

theorem State.CountersLawful.closeJob : (closeJob s).CountersLawful := by
  unfold Machine.closeJob
  split
  · exact h.complete
  · exact h.complete
  · exact h.stopFeeding.complete

theorem State.CountersLawful.resumeJob : (resumeJob s).CountersLawful := by
  unfold Machine.resumeJob
  split
  · exact h.setCtx.enterPath
  · exact h.enterPath.enterSettling
  · exact h.enterPath

theorem State.CountersLawful.resume : (resume s).CountersLawful := by
  unfold Machine.resume
  dsimp only
  split_ifs
  · exact h.complete
  · exact h.complete
  · exact h.setPath.resumeJob.complete

theorem State.CountersLawful.purgeStart : (purgeStart s).CountersLawful := by
  unfold Machine.purgeStart
  split_ifs
  · exact h.complete
  · exact h.complete
  · exact h.enterPath.complete

theorem State.CountersLawful.purgeEnd : (purgeEnd s).CountersLawful := by
  unfold Machine.purgeEnd
  split
  · exact h.setPath
  · exact h.complete

theorem State.CountersLawful.serviceClear : (serviceClear s).CountersLawful := by
  unfold Machine.serviceClear
  split_ifs
  · exact h.complete
  · exact h.complete
  · exact h.setPath.enterPath.clearOnEntry.complete

theorem State.CountersLawful.readMeters : (readMeters ps s).CountersLawful := by
  unfold Machine.readMeters
  split
  · exact h.complete
  · dsimp only
    split
    · exact h.setMeter.complete
    · exact h.complete

theorem State.CountersLawful.writeTable {a : Account} (ha : a.lawful) {v : Values} : (writeTable a v s).CountersLawful :=
  (h.putTable ha).submitAndAnswer (w := writeAccount a) ha

theorem State.CountersLawful.accountAdd : (accountAdd ps s).CountersLawful := by
  unfold Machine.accountAdd
  split
  · exact h.complete
  · split_ifs
    · exact h.complete
    · exact h.complete
    · exact h.complete
    · exact h.complete
    · exact h.writeTable (AccountAddOperand.record_lawful _)

/-- ACCOUNT CREDIT and ACCOUNT SET leave the figures of the account as they were (R144, R145). -/
theorem State.CountersLawful.accountCredit : (accountCredit ps s).CountersLawful := by
  unfold Machine.accountCredit
  split
  · exact h.complete
  · split
    · exact h.complete
    · split
      · exact h.complete
      · exact h.writeTable (h.found ‹_›).of_figures

theorem State.CountersLawful.accountSet : (accountSet ps s).CountersLawful := by
  unfold Machine.accountSet
  split
  · exact h.complete
  · split
    · exact h.complete
    · split
      · exact h.complete
      · split
        · exact h.complete
        · exact h.writeTable (h.found ‹_›).of_figures

theorem State.CountersLawful.accountRemove : (accountRemove ps s).CountersLawful := by
  unfold Machine.accountRemove
  split
  · exact h.complete
  · split
    · exact h.complete
    · split_ifs
      · exact h.complete
      · exact h.complete
      · exact (h.setTable fun a ha => h.table a (List.mem_of_mem_filter ha)).submitAndAnswer

theorem State.CountersLawful.readAccount : (readAccount ps s).CountersLawful := by
  unfold Machine.readAccount
  split
  · exact h.complete
  · split <;> exact h.complete

theorem State.CountersLawful.listAccounts : (listAccounts ps s).CountersLawful := by
  unfold Machine.listAccounts
  split <;> exact h.complete

theorem State.CountersLawful.readStatement : (readStatement ps s).CountersLawful := by
  unfold Machine.readStatement
  split
  · exact h.complete
  · split
    · exact h.complete
    · split
      · exact h.complete
      · dsimp only
        split
        · exact h.setAccounts.complete
        · exact h.complete

theorem State.CountersLawful.discardRefund : (discardRefund ps s).CountersLawful := by
  unfold Machine.discardRefund
  split
  · exact h.complete
  · split
    · exact h.setCard.submitAndAnswer
    · exact h.complete

theorem State.CountersLawful.releaseOnImage {i : PurseImage} : (releaseOnImage i ps s).CountersLawful := by
  unfold Machine.releaseOnImage
  split_ifs
  · exact h.complete
  · exact h.complete
  · exact h.complete
  · split
    · exact h.complete
    · split
      · exact h.complete
      · split
        · exact h.startWrite
        · exact h.complete

theorem State.CountersLawful.releaseEscrow : (releaseEscrow ps s).CountersLawful := by
  unfold Machine.releaseEscrow
  split
  · exact h.complete
  · exact h.complete
  · exact h.complete
  · split
    · exact h.complete
    · exact h.releaseOnImage

/-- Every command of the catalogue keeps the law of counters. -/
theorem State.CountersLawful.runCommand {o : Opcode} {ps : List Byte} :
    (runCommand o ps s).CountersLawful := by
  cases o with
  | status => exact h.takeBare fun _ hx => hx.complete
  | readNotice => exact h.takeBare fun _ hx => hx.complete
  | setOptions => exact h.takeCommand fun _ hx => hx.setOptions
  | loadTariff => exact h.takeCommand fun _ hx => hx.loadTariff
  | loadProfile => exact h.takeCommand fun _ hx => hx.loadProfile
  | openJob => exact h.takeCommand fun _ hx => hx.openJob
  | feed => exact h.takeCommand fun _ hx => hx.takeFeed
  | closeJob => exact h.takeBare fun _ hx => hx.closeJob
  | readLost => exact h.takeBare fun _ hx => hx.complete
  | resume => exact h.takeBare fun _ hx => hx.resume
  | purgeStart => exact h.takeBare fun _ hx => hx.purgeStart
  | purgeEnd => exact h.takeBare fun _ hx => hx.purgeEnd
  | serviceClear => exact h.takeBare fun _ hx => hx.serviceClear
  | readMeters => exact h.takeCommand fun _ hx => hx.readMeters
  | readRoster => exact h.takeBare fun _ hx => hx.complete
  | accountAdd => exact h.takeCommand fun _ hx => hx.accountAdd
  | accountCredit => exact h.takeCommand fun _ hx => hx.accountCredit
  | accountSet => exact h.takeCommand fun _ hx => hx.accountSet
  | accountRemove => exact h.takeCommand fun _ hx => hx.accountRemove
  | readAccount => exact h.takeCommand fun _ hx => hx.readAccount
  | listAccounts => exact h.takeCommand fun _ hx => hx.listAccounts
  | readStatement => exact h.takeCommand fun _ hx => hx.readStatement
  | readRefunds => exact h.takeBare fun _ hx => hx.complete
  | discardRefund => exact h.takeCommand fun _ hx => hx.discardRefund
  | releaseEscrow => exact h.takeCommand fun _ hx => hx.releaseEscrow
  | restart => exact h.takeBare fun _ hx => hx.restart

theorem State.CountersLawful.answerAtOnce {r : Reason} : (answerAtOnce r s).CountersLawful := by
  unfold Machine.answerAtOnce
  split
  · exact h.countRefused
  · exact h.discardResult.placeResult

theorem State.CountersLawful.takeMessage {bytes : List Byte} : (takeMessage bytes s).CountersLawful := by
  unfold Machine.takeMessage
  split
  · exact h
  · exact h.answerAtOnce
  · exact h.answerAtOnce
  · exact h.runCommand

/-! #### Read transactions -/

theorem State.CountersLawful.commitMeters : (commitMeters s).CountersLawful := by
  unfold Machine.commitMeters
  split
  · exact h
  · exact (h.setCounters (h.meter.zip Counter.lawful.clear _)).noteMeters

theorem State.CountersLawful.commitStatement : (commitStatement s).CountersLawful := by
  unfold Machine.commitStatement
  split
  · exact h
  · dsimp only
    split
    · have cleared := (h.found ‹_›).clearStatement
      exact (h.setAccounts.putTable (cleared _)).submit (cleared _)
    · exact h.setAccounts

theorem State.CountersLawful.commitResult {r : Result} : (commitResult r s).CountersLawful := by
  unfold Machine.commitResult
  dsimp only
  split
  · exact h.setPort.commitMeters
  · exact h.setPort.commitStatement
  · exact h.setPort.setPort
  · exact h.setPort

theorem State.CountersLawful.readReply {clocked : Nat} : (readReply clocked s).CountersLawful := by
  unfold Machine.readReply
  dsimp only
  split
  · split
    · exact h.setPort.commitResult
    · exact h.setPort
  · exact h.setPort

/-! #### Events and time -/

theorem State.CountersLawful.insertCard : (insertCard s).CountersLawful := by
  unfold Machine.insertCard
  dsimp only
  split
  · exact h.setCard.beginReading
  · exact h.setCard

theorem State.CountersLawful.takeRemoval : (takeRemoval s).CountersLawful := by
  unfold Machine.takeRemoval
  dsimp only
  split
  · exact h.setCard
  · exact h.setCard.removeCard

theorem State.CountersLawful.writeAcknowledged : (writeAcknowledged s).CountersLawful := by
  unfold Machine.writeAcknowledged
  split
  · exact h.takeWrite.writeCompleted
  · exact h

theorem State.CountersLawful.postPeriodically : (postPeriodically s).CountersLawful := by
  unfold Machine.postPeriodically
  dsimp only
  split
  · exact h.setJob
  · exact h.setJob.askJob

theorem State.CountersLawful.idle : (idle s).CountersLawful := by
  unfold Machine.idle
  split
  · split
    · exact h.count.setCtx
    · exact h.setPending
  · exact h

end

end Sys2Proof.Machine
end

section
/-! ### Every step keeps the law of counters (R164) -/

namespace Sys2Proof.Machine

/-- Every command and event keeps the law of counters. -/
theorem exec_countersLawful (i : Instr) (s t : State) (h : s.CountersLawful) (e : exec i s = .next t) :
    t.CountersLawful := by
  have command (o : Opcode) (ps : List Byte) (e : whenPowered s (runCommand o ps) = .next t) : t.CountersLawful :=
    whenPowered_keeps h h.runCommand e
  have heard (f : Frame) (e : whenPowered s (hearByKind f) = .next t) : t.CountersLawful :=
    whenPowered_keeps h h.hearByKind e
  cases i with
  | powerOn =>
    cases e
    exact start_countersLawful _ h.losePower.records
  | powerLoss => exact whenPowered_keeps h h.losePower e
  | interruptedCardWaitEnd => exact whenDue_keeps h h.interruptedNoCard e
  | status ps => exact command .status ps e
  | readNotice ps => exact command .readNotice ps e
  | setOptions ps => exact command .setOptions ps e
  | loadTariff ps => exact command .loadTariff ps e
  | loadProfile ps => exact command .loadProfile ps e
  | openJob ps => exact command .openJob ps e
  | feed ps => exact command .feed ps e
  | closeJob ps => exact command .closeJob ps e
  | readLost ps => exact command .readLost ps e
  | resume ps => exact command .resume ps e
  | purgeStart ps => exact command .purgeStart ps e
  | purgeEnd ps => exact command .purgeEnd ps e
  | serviceClear ps => exact command .serviceClear ps e
  | readMeters ps => exact command .readMeters ps e
  | readRoster ps => exact command .readRoster ps e
  | accountAdd ps => exact command .accountAdd ps e
  | accountCredit ps => exact command .accountCredit ps e
  | accountSet ps => exact command .accountSet ps e
  | accountRemove ps => exact command .accountRemove ps e
  | readAccount ps => exact command .readAccount ps e
  | listAccounts ps => exact command .listAccounts ps e
  | readStatement ps => exact command .readStatement ps e
  | readRefunds ps => exact command .readRefunds ps e
  | discardRefund ps => exact command .discardRefund ps e
  | releaseEscrow ps => exact command .releaseEscrow ps e
  | restart ps => exact command .restart ps e
  | unknownCommandMessage bytes => exact whenPowered_keeps h h.takeMessage e
  | readTransaction clocked => exact whenPowered_keeps h h.readReply e
  | storeWriteComplete => exact whenDue_keeps h h.storeCompletes e
  | leadingEdge x =>
    simp only [exec, execLeadingEdge] at e
    refine whenPowered_keeps h ?_ e
    split
    · exact h.takeSensorEdge fun _ hy => hy.matchLeading
    · exact h
  | trailingEdge x =>
    simp only [exec, execTrailingEdge] at e
    refine whenPowered_keeps h ?_ e
    split
    · exact h.takeSensorEdge fun _ hy => hy.matchTrailing
    · exact h
  | doorOpenEdge =>
    simp only [exec, execDoorOpenEdge] at e
    refine whenPowered_keeps h ?_ e
    split
    · exact h.takeDoorEdge
    · exact h
  | doorClosedEdge =>
    simp only [exec, execDoorClosedEdge] at e
    refine whenPowered_keeps h ?_ e
    split
    · exact h.takeDoorEdge
    · exact h
  | windowDeadline n =>
    simp only [exec, execWindowDeadline] at e
    refine whenPowered_keeps h ?_ e
    split
    · exact h.deadlineJam
    · exact h
  | purgeSettlingWaitEnd => exact whenDue_keeps h h.judgePurge e
  | periodicPostDue => exact whenDue_keeps h h.postPeriodically e
  | cardInsertion => exact whenDue_keeps h h.insertCard e
  | cardRemoval => exact whenDue_keeps h h.takeRemoval e
  | cardReadAnswer bytes => exact whenDue_keeps h h.readAnswered e
  | cardWriteAck => exact whenDue_keeps h h.writeAcknowledged e
  | cardAnswerDeadline => exact whenDue_keeps h h.cardSilent e
  | roll head p => exact heard ⟨head, .roll p⟩ e
  | holdRequest head p => exact heard ⟨head, .holdRequest p⟩ e
  | topUpRequest head p => exact heard ⟨head, .topUpRequest p⟩ e
  | post head p => exact heard ⟨head, .post p⟩ e
  | holdAnswer head p => exact heard ⟨head, .holdAnswer p⟩ e
  | postAnswer head p => exact heard ⟨head, .postAnswer p⟩ e
  | escrowQuery head p => exact heard ⟨head, .escrowQuery p⟩ e
  | escrowAnswer head p => exact heard ⟨head, .escrowAnswer p⟩ e
  | escrowRelease head p => exact heard ⟨head, .escrowRelease p⟩ e
  | releaseAnswer head p => exact heard ⟨head, .releaseAnswer p⟩ e
  | frameDiscarded bytes =>
    simp only [exec, execFrameDiscarded] at e
    refine whenPowered_keeps h ?_ e
    split
    · exact h.hearByKind
    · split
      · exact h
      · exact h.lineGoesIdle
  | frameSendStart idle => exact whenPowered_keeps h h.sendStarts e
  | frameSent => exact whenPowered_keeps h h.frameSentWhole e
  | collision => exact whenPowered_keeps h h.collide e
  | exchangeAnswerDeadline => exact whenDue_keeps h h.attemptFails e
  | exchangeStart => exact whenPowered_keeps h h.startExchange e
  | joiningWindowEnd => exact whenDue_keeps h h.becomeMember e
  | rollAnswerDelayEnd => exact whenDue_keeps h h.answerRoll e
  | accountRequestTaken =>
    simp only [exec, execAccountRequestTaken] at e
    refine whenPowered_keeps h ?_ e
    split
    · exact h.takeRequest
    · exact h
  | holdLapse id =>
    simp only [exec, execHoldLapse] at e
    refine whenPowered_keeps h ?_ e
    split
    · exact h.lapseHold
    · exact h
  | outboundRound => exact whenDue_keeps h h.beginRound e
  | sensorSample l door => exact whenDue_keeps h h.samplePath e
  | cardPresenceSample p => exact whenDue_keeps h h.samplePresence e
  | lineBusy => exact whenPowered_keeps h h.lineGoesBusy e

/-- Settles O54: every command (`exec_countersLawful`) and every count of the time base keeps the law, since an addition
keeps the order of a counter's two values (`Counter.lawful.add`) and a clear lowers the period value alone. -/
theorem periodNeverPassesLifetime : Obligations.PeriodNeverPassesLifetime := by
  unfold Obligations.PeriodNeverPassesLifetime
  refine ⟨fun n c => ⟨?_, rfl⟩, fun s t h e => ?_⟩
  · simp only [Counter.add, counterMax, Nat.min_comm 4294967295, Nat.min_def]
  · rw [State.periodsWithinLifetimes_iff] at h ⊢
    exact step_keeps (P := State.CountersLawful) (fun _ _ hx => hx.setPending) exec_countersLawful (fun _ hx => hx.idle) h e

end Sys2Proof.Machine
end

section
/-! ## READ METERS and READ STATEMENT with the clear option on (R166, R167, R169, R170) -/

namespace Sys2Proof.Machine

/-! ### The commands taken by the port -/

section
variable {s : State} (h : s.accepts) {ps : List Byte} (hp : ps.length ≤ 240)
include h hp

theorem execReadMeters_taken : exec (.readMeters ps) s = .next (readMeters ps (commandTaken .readMeters s)) := by
  show whenPowered s (readMetersCommand ps) = _
  rw [whenPowered_on _ _ h.1, readMetersCommand, takeCommand_taken _ _ _ _ h.2 hp, commandTaken]

theorem execReadStatement_taken :
    exec (.readStatement ps) s = .next (readStatement ps (commandTaken .readStatement s)) := by
  show whenPowered s (readStatementCommand ps) = _
  rw [whenPowered_on _ _ h.1, readStatementCommand, takeCommand_taken _ _ _ _ h.2 hp, commandTaken]

end

/-! ### The reports and their snapshots (R166, R169) -/

/-- READ METERS with the clear option on keeps the period values it reports (R166). -/
theorem readMeters_clear (s : State) :
    readMeters [1] s = complete .ok (.meters s.meter.record.clearSerial true s.meter.record.counters)
      (s.setMeter { s.meter with snapshot := some (MetersOf.map Counter.period s.meter.record.counters) }) := by
  have operand : metersOperand [1] = some true := by decide
  rw [readMeters, operand]
  rfl

theorem statementOperand_spell {n : Nat} (hn : n < 65536) : statementOperand (spell 2 n ++ [1]) = some (n, 1) := by
  have number : field (spell 2 n ++ [1]) 0 2 = n := by rw [field_spell, Nat.mod_eq_of_lt (by omega)]
  have option : field (spell 2 n ++ [1]) 2 1 = 1 := by
    rw [field_behind _ _ (k := 0) 1 (by rw [Laws.Wire.spell_length])]
    rfl
  rw [statementOperand, if_pos (by simp [Laws.Wire.spell_length]), number, option]

/-- READ STATEMENT with the clear option on keeps the period figures it reports (R169). -/
theorem readStatement_clear {s : State} {n : Nat} (hn : n < 65536) {a : Account} (found : s.accounts.find n = some a) :
    readStatement (spell 2 n ++ [1]) s = complete .ok (.statement a true) (s.setAccounts { s.accounts with
      snapshot := some { number := n, figures := FiguresOf.map Counter.period a.figures } }) := by
  rw [readStatement, statementOperand_spell hn]
  dsimp only
  rw [found]
  rfl

/-- A discarded result leaves nothing of the account unit behind but its snapshot (R170, R176). -/
theorem discardResult_accounts_snapshot (s : State) (x : Option StatementSnapshot) :
    { (discardResult s).accounts with snapshot := x } = { s.accounts with snapshot := x } := by
  unfold discardResult; split <;> rfl

/-! ### A result read through its last byte (R175) -/

/-- The port once the result in its place has been read through its last byte. -/
def readThrough (r : Result) (s : State) : State := s.setPort { s.port with state := .idle, shifted := .result r }

section
variable {s : State} {n : Nat} {r : Result} (powered : s.powered = true) (held : s.port.state = .result r)
  (whole : r.message.length ≤ n)
include powered held whole

theorem execReadTransaction_whole : exec (.readTransaction n) s =
    .next (commitResult r (s.setPort { s.port with shifted := .result r })) := by
  show whenPowered s (readReply n) = _
  rw [whenPowered_on _ _ powered]
  simp [readReply, State.reply, held, whole]

/-- The commit of a meter clear (R167). -/
theorem execReadTransaction_meters {serial : Nat} {clear : Bool} {m : MetersOf Counter}
    (values : r.values = .meters serial clear m) :
    exec (.readTransaction n) s = .next (commitMeters (readThrough r s)) := by
  rw [execReadTransaction_whole powered held whole, commitResult, values]
  rfl

/-- The commit of a statement clear (R170). -/
theorem execReadTransaction_statement {a : Account} {clear : Bool} (values : r.values = .statement a clear) :
    exec (.readTransaction n) s = .next (commitStatement (readThrough r s)) := by
  rw [execReadTransaction_whole powered held whole, commitResult, values]
  rfl

end

/-! ### What the commits do (R165, R167, R170) -/

/-- The meters with a reported snapshot taken off their period values (R167). -/
def MeterUnit.cleared (snap : MetersOf Nat) (u : MeterUnit) : MeterUnit :=
  { record := { counters := MetersOf.zip Counter.clear snap u.record.counters
                clearSerial := (u.record.clearSerial + 1) % 65536 }
    snapshot := none }

/-- Each period value falls by its snapshot value, down to 0. -/
theorem MeterUnit.cleared_period (snap : MetersOf Nat) (u : MeterUnit) :
    MetersOf.map Counter.period (u.cleared snap).record.counters =
      MetersOf.zip (fun c x => c.period - x) u.record.counters snap := rfl

theorem MeterUnit.cleared_life (snap : MetersOf Nat) (u : MeterUnit) :
    MetersOf.map Counter.life (u.cleared snap).record.counters = MetersOf.map Counter.life u.record.counters := rfl

theorem commitMeters_snapshot {s : State} {snap : MetersOf Nat} (h : s.meter.snapshot = some snap) :
    commitMeters s = noteMeters (s.setMeter (s.meter.cleared snap)) := by
  rw [commitMeters, h]
  rfl

theorem commitStatement_snapshot {s : State} {snap : StatementSnapshot} {a : Account}
    (h : s.accounts.snapshot = some snap) (found : s.accounts.find snap.number = some a) :
    commitStatement s = submit .plain (writeAccount (a.clearStatement snap.figures))
      (s.setAccounts { s.accounts with
        snapshot := none, table := putSorted Account.number (a.clearStatement snap.figures) s.accounts.table }) := by
  rw [commitStatement, h]
  dsimp only
  rw [found]
  rfl

section
variable {s : State}

/-- A meter write that waits to begin will carry the counters as they are now (R165). -/
theorem noteMeters_waits (waits : ((s.store.queue ++ s.store.waiting).any fun w => w.what.isMeters) = true) :
    noteMeters s = s := by
  rw [noteMeters, if_pos waits]

/-- A meter write in progress is followed by another (R165). -/
theorem noteMeters_inProgress (waits : ((s.store.queue ++ s.store.waiting).any fun w => w.what.isMeters) = false)
    (inProgress : (s.store.current.any fun w => w.1.what.isMeters) = true) :
    noteMeters s = s.setStore { s.store with metersAgain := true } := by
  rw [noteMeters, if_neg (by rw [waits]; exact Bool.false_ne_true), if_pos inProgress]

theorem noteMeters_idle (waits : ((s.store.queue ++ s.store.waiting).any fun w => w.what.isMeters) = false)
    (inProgress : (s.store.current.any fun w => w.1.what.isMeters) = false) :
    noteMeters s = submit .plain (.meters s.meter.record) s := by
  rw [noteMeters, if_neg (by rw [waits]; exact Bool.false_ne_true),
    if_neg (by rw [inProgress]; exact Bool.false_ne_true)]

end

/-- Settles O9: the two reports keep their snapshots (`readMeters_clear`, `readStatement_clear`), and the commits take
them off (`commitMeters_snapshot`, `commitStatement_snapshot`). -/
theorem clearsTakeOffWhatWasReported : Obligations.ClearsTakeOffWhatWasReported := by
  unfold Obligations.ClearsTakeOffWhatWasReported
  refine ⟨fun s h => ?_, fun s n serial m snap r powered held values kept whole => ?_, fun s n a h hn found => ?_,
    fun s n reported a snap r powered orderly held values kept found whole => ?_⟩
  · refine ⟨_, (execReadMeters_taken h (by decide)).trans (by rw [readMeters_clear]), ?_, ?_, ?_⟩
    · rw [commandTaken_meter, discardResult_record]
      exact complete_holdsResult _ _ rfl
    · simp
    · simp [State.unchangedBut]
  · let read := (readThrough r s).setMeter (s.meter.cleared snap)
    have meter : (noteMeters read).meter = s.meter.cleared snap := noteMeters_meter _
    refine ⟨noteMeters read, (execReadTransaction_meters powered held whole values).trans
      (by rw [commitMeters_snapshot (snap := snap) (by exact kept)]; rfl), noteMeters_port _, ?_⟩
    rw [meter]
    refine ⟨MeterUnit.cleared_period .., MeterUnit.cleared_life .., rfl, rfl, noteMeters_records _,
      ⟨fun waits => ?_, fun waits inProgress => ?_, fun waits inProgress orderly => ?_⟩, ?_⟩
    · rw [noteMeters_waits (by exact waits)]
      rfl
    · rw [noteMeters_inProgress (by exact waits) (by exact inProgress)]
      rfl
    · rw [noteMeters_idle (by exact waits) (by exact inProgress)]
      exact submit_writes _ _ read orderly (begun_meters _)
    · simp [read, readThrough, State.unchangedBut]
  · have taken : (commandTaken .readStatement s).accounts.find n = some a := by
      rw [commandTaken_accounts, discardResult_find, found]
    refine ⟨_, (execReadStatement_taken h (by simp [Laws.Wire.spell_length])).trans
      (by rw [readStatement_clear hn taken]), complete_holdsResult _ _ rfl, ?_, ?_⟩
    · rw [complete_accounts]
      exact discardResult_accounts_snapshot s _
    · simp [State.unchangedBut]
  · refine ⟨_, (execReadTransaction_statement powered held whole values).trans
      (by rw [commitStatement_snapshot (snap := snap) (a := a) (by exact kept) (by exact found)]), ?_⟩
    refine ⟨submit_port _ _ _, submit_accounts _ _ _, submit_writes _ _ _ orderly rfl, submit_records _ _ _, ?_⟩
    simp [readThrough, State.unchangedBut]

end Sys2Proof.Machine
end

section
/-! ## A start from the factory (R162, R177, R182, R185) -/

namespace Sys2Proof.Machine

/-- A power-on start with a factory store leaves the part as reset has it, but for the free values and the queue. -/
theorem start_factory {s : State} (h : s.store.records = StoreRecords.factory) :
    start .powerOn (losePower s) = { State.reset with free := s.free, pending := s.pending } := by
  have blocks : startBlocks .powerOn (losePower s) = { State.reset with free := s.free, pending := s.pending } := by
    have records : (losePower s).store.records = StoreRecords.factory := h
    rw [startBlocks, records]
    rfl
  rw [start, blocks]
  rfl

/-- The state after reset is a start from the factory (log 1), so what every start obeys it obeys. -/
theorem reset_eq_start : State.reset = start .powerOn (losePower State.reset) :=
  (start_factory (s := State.reset) rfl).symm

/-- The counters of a factory store are all 0. -/
theorem StoreRecords.factory_lawful : StoreRecords.factory.lawful where
  meters := by unfold MetersOf.lawful Counter.lawful; decide
  accounts := fun _ ha => nomatch ha

theorem StoreRecords.factory_storedHolds : StoredHolds StoreRecords.factory.holds :=
  ⟨.nil, .nil, fun _ hh => nomatch hh⟩

/-- After reset no place is taken or claimed, and a start would find the factory store again. -/
theorem reset_placesKept : State.reset.placesKept where
  store := Store.quiet_orderly _
  refunds := by decide
  refundNames := by decide
  outbound := by decide
  outboundKeys := by decide
  purse := fun _ h => nomatch h
  account := fun _ h => nomatch h
  card := by decide
  found := fun n => by
    have quiet : State.reset.store.after n = StoreRecords.factory := Store.after_quiet _ n
    rw [quiet]
    exact StoreRecords.factory_placesKept
  kept := fun _ => ⟨rfl, rfl, fun _ => rfl, fun _ h => nomatch h⟩

theorem reset_safe : State.reset.safe where
  totals := by rw [reset_eq_start]; exact start_roundedTotals _ (fun _ h => nomatch h)
  counters := by
    rw [State.periodsWithinLifetimes_iff, reset_eq_start]
    exact start_countersLawful _ StoreRecords.factory_lawful
  capacities := by rw [reset_eq_start]; exact start_withinCapacities _ _
  funds := by rw [reset_eq_start]; exact start_withinFunds _ (fun _ h => nomatch h)
  holds := by rw [reset_eq_start]; exact (start_keepsPool _ StoreRecords.factory_storedHolds).holdsKept
  places := reset_placesKept

/-- Settles O59: reset is a start from the factory (`start_factory`), and such a start obeys every law (`reset_safe`). -/
theorem resetObeysEveryLaw : Obligations.ResetObeysEveryLaw := by
  unfold Obligations.ResetObeysEveryLaw
  exact ⟨reset_safe, rfl, rfl, rfl, fun s h => ⟨_, congrArg Host.Outcome.next (start_factory h), rfl⟩⟩

end Sys2Proof.Machine
end

section
/-! ## Command messages run or refused by the port (R171, R173, R176, R190) -/

namespace Sys2Proof.Machine

/-! ### Every message of the catalogue passes the port -/

/-- A message of the catalogue is its command, where the part has power. -/
theorem exec_ofMessage (o : Opcode) (ps : List Byte) (s : State) :
    exec (Instr.ofMessage o ps) s = whenPowered s (runCommand o ps) := by
  cases o <;> rfl

/-- The commands of the catalogue without parameters pass the port by `takeBare` (10.4, R173). -/
theorem runCommand_takeBare (ps : List Byte) : ∀ o ∈ [Opcode.status, .readNotice, .closeJob, .readLost, .resume,
    .purgeStart, .purgeEnd, .serviceClear, .readRoster, .readRefunds, .restart],
    ∃ owner, runCommand o ps = takeBare o ps owner := by
  simp only [List.forall_mem_cons, List.not_mem_nil, false_imp_iff, implies_true, and_true]
  refine ⟨?_, ?_, ?_, ?_, ?_, ?_, ?_, ?_, ?_, ?_, ?_⟩ <;> exact ⟨_, rfl⟩

/-- A command without parameters is one whose owner judges their count first (R173; log 7). -/
theorem takeBare_eq_takeCommand (o : Opcode) (ps : List Byte) (owner : State → State) :
    takeBare o ps owner = takeCommand o ps fun s => if ps = [] then owner s else complete .badParam .none s := rfl

/-- The port judges every command before its owner runs (R173). -/
theorem runCommand_takeCommand (o : Opcode) (ps : List Byte) : ∃ owner, runCommand o ps = takeCommand o ps owner := by
  cases o
  case status | readNotice | closeJob | readLost | resume | purgeStart | purgeEnd | serviceClear | readRoster |
      readRefunds | restart => exact ⟨_, takeBare_eq_takeCommand _ ps _⟩
  all_goals exact ⟨_, rfl⟩

/-- With a command in hand every command of the catalogue is refused and counted (R173). -/
theorem runCommand_busy (o : Opcode) (ps : List Byte) {s : State} {c : Opcode} (busy : s.port.state = .executing c) :
    runCommand o ps s = s.setPort { s.port with refused := min 255 (s.port.refused + 1) } := by
  obtain ⟨owner, run⟩ := runCommand_takeCommand o ps
  rw [run, takeCommand_busy o ps owner s c busy]

/-- The bytes of a command message run the command that they spell (R171, R190). -/
theorem exec_commandMessage (o : Opcode) {ps : List Byte} (len : ps.length ≤ 240) (s : State) :
    exec (.unknownCommandMessage (commandMessage o ps)) s = exec (Instr.ofMessage o ps) s := by
  have spelled : takeMessage (commandMessage o ps) = runCommand o ps := by
    funext x
    rw [takeMessage, Message.read_commandMessage o len]
  rw [exec_ofMessage, ← spelled]
  rfl

section
variable {s : State} (h : s.accepts)
include h

/-- The owner of a command runs with the command in hand (R173). -/
theorem whenPowered_takeCommand (o : Opcode) {ps : List Byte} (len : ps.length ≤ 240) (owner : State → State) :
    whenPowered s (takeCommand o ps owner) = .next (owner (commandTaken o s)) := by
  rw [whenPowered_on _ _ h.1, takeCommand_taken _ _ _ _ h.2 len, commandTaken]

/-- A command without parameters that is given some is refused BAD_PARAM (R173; log 7). -/
theorem whenPowered_takeBare_params (o : Opcode) {ps : List Byte} (given : ps ≠ []) (len : ps.length ≤ 240)
    (owner : State → State) : whenPowered s (takeBare o ps owner) = .next (answered o .badParam .none s) := by
  rw [takeBare_eq_takeCommand, whenPowered_takeCommand h o len, if_neg given, complete_commandTaken]

/-- A message that names no command is answered at once (R173, R176). -/
theorem answerAtOnce_accepted (r : Reason) :
    answerAtOnce r s = placeResult { command := none, reason := r, values := .none } (discardResult s) := by
  unfold answerAtOnce
  split
  next c busy => exact absurd busy (h.2 c)
  next => rfl

theorem execUnknownCommandMessage_powered (bytes : List Byte) :
    exec (.unknownCommandMessage bytes) s = .next (takeMessage bytes s) :=
  whenPowered_on s (takeMessage bytes) h.1

theorem exec_malformed {bytes : List Byte} (read : Message.read bytes = .malformed) :
    exec (.unknownCommandMessage bytes) s =
      .next (placeResult { command := none, reason := .badFrame, values := .none } (discardResult s)) := by
  rw [execUnknownCommandMessage_powered h, takeMessage, read]
  exact congrArg _ (answerAtOnce_accepted h .badFrame)

theorem exec_unknownOpcode {bytes : List Byte} (read : Message.read bytes = .unknownOpcode) :
    exec (.unknownCommandMessage bytes) s =
      .next (placeResult { command := none, reason := .invalid, values := .none } (discardResult s)) := by
  rw [execUnknownCommandMessage_powered h, takeMessage, read]
  exact congrArg _ (answerAtOnce_accepted h .invalid)

end

/-- Settles O6: every message of the catalogue passes the port (`exec_ofMessage`, `runCommand_takeCommand`), and the
port's judgement of each message is one of the lemmas above. -/
theorem messagesRunOrAreRefused : Obligations.MessagesRunOrAreRefused := by
  unfold Obligations.MessagesRunOrAreRefused
  refine ⟨fun o ps s c powered busy => ?_, fun o ps s len => exec_commandMessage o len s,
    fun s h => ⟨fun bytes => exec_malformed h, fun bytes => exec_unknownOpcode h, fun o ps bare given len => ?_⟩⟩
  · rw [exec_ofMessage, whenPowered_on _ _ powered, runCommand_busy o ps busy]
    rfl
  · obtain ⟨owner, run⟩ := runCommand_takeBare ps o bare
    rw [exec_ofMessage, run, whenPowered_takeBare_params h o given len]

end Sys2Proof.Machine
end

section
/-! ## The readouts (R76, R100, R117, R147, R166, R169, R178, R180) -/

namespace Sys2Proof.Machine

/-! ### An unread result discarded (R168, R170, R176) -/

theorem discardResult_of_result {s : State} {r : Result} (unread : s.port.state = .result r) :
    discardResult s = { s with
      port := { s.port with state := .idle }
      meter := { s.meter with snapshot := none }
      accounts := { s.accounts with snapshot := none } } := by
  rw [discardResult, unread]
  rfl

theorem discardResult_of_no_result {s : State} (empty : ∀ r, s.port.state ≠ .result r) : discardResult s = s := by
  unfold discardResult
  split
  next r unread => exact absurd unread (empty r)
  next => rfl

@[simp] theorem discardResult_overflow (s : State) : (discardResult s).port.overflow = s.port.overflow := by
  unfold discardResult; split <;> rfl

/-! ### What is read out does not change when the port takes the command -/

section
variable (o : Opcode) (s : State)

@[simp] theorem commandTaken_overflow : (commandTaken o s).port.overflow = s.port.overflow := by simp [commandTaken]

@[simp] theorem commandTaken_own : (commandTaken o s).own = s.own := by simp [State.own]

@[simp] theorem statusReport_commandTaken : (commandTaken o s).statusReport = s.statusReport := by
  simp [State.statusReport]

@[simp] theorem accountLine_commandTaken : (commandTaken o s).accountLine = s.accountLine := by
  funext a
  simp [State.accountLine, State.shadowed]

end

/-! ### The commands taken by the port -/

section
variable {s : State} (h : s.accepts)
include h

theorem execStatus_taken : exec (.status []) s = .next (status (commandTaken .status s)) :=
  whenPowered_takeBare h .status status

theorem execReadNotice_taken : exec (.readNotice []) s = .next (readNotice (commandTaken .readNotice s)) :=
  whenPowered_takeBare h .readNotice readNotice

theorem execReadLost_taken : exec (.readLost []) s = .next (readLost (commandTaken .readLost s)) :=
  whenPowered_takeBare h .readLost readLost

theorem execReadRoster_taken : exec (.readRoster []) s = .next (readRoster (commandTaken .readRoster s)) :=
  whenPowered_takeBare h .readRoster readRoster

theorem execReadRefunds_taken : exec (.readRefunds []) s = .next (readRefunds (commandTaken .readRefunds s)) :=
  whenPowered_takeBare h .readRefunds readRefunds

theorem execReadAccount_taken {ps : List Byte} (len : ps.length ≤ 240) :
    exec (.readAccount ps) s = .next (readAccount ps (commandTaken .readAccount s)) :=
  whenPowered_takeCommand h .readAccount len (readAccount ps)

theorem execListAccounts_taken {ps : List Byte} (len : ps.length ≤ 240) :
    exec (.listAccounts ps) s = .next (listAccounts ps (commandTaken .listAccounts s)) :=
  whenPowered_takeCommand h .listAccounts len (listAccounts ps)

end

/-! ### The readouts with parameters -/

/-- READ METERS with the clear option off takes no snapshot (R166). -/
theorem readMeters_off (s : State) :
    readMeters [0] s = complete .ok (.meters s.meter.record.clearSerial false s.meter.record.counters) s := by
  have operand : metersOperand [0] = some false := by decide
  rw [readMeters, operand]
  rfl

section
variable {s : State} {n : Nat} (hn : n < 65536)
include hn

theorem readAccount_found {a : Account} (found : s.accounts.find n = some a) :
    readAccount (spell 2 n) s = complete .ok (.account a (s.accounts.available a)
      (decide (s.accounts.available a < 0)) (holdCount s.accounts.pool n .active)
      (holdCount s.accounts.pool n .lapsed)) s := by
  rw [readAccount, accountNumber_spell hn]
  dsimp only
  rw [found]
  rfl

theorem readAccount_missing (missing : s.accounts.find n = none) :
    readAccount (spell 2 n) s = complete .noAccount .none s := by
  rw [readAccount, accountNumber_spell hn]
  dsimp only
  rw [missing]

theorem listAccounts_from :
    listAccounts (spell 2 n) s = complete .ok
      (.accounts (((s.accounts.table.filter fun a => n ≤ a.number).take 16).map s.accountLine)
        (16 < (s.accounts.table.filter fun a => n ≤ a.number).length)) s := by
  rw [listAccounts, accountNumber_spell hn]

theorem statementOperand_off : statementOperand (spell 2 n ++ [0]) = some (n, 0) := by
  have number : field (spell 2 n ++ [0]) 0 2 = n := by rw [field_spell, Nat.mod_eq_of_lt (by omega)]
  have option : field (spell 2 n ++ [0]) 2 1 = 0 := by
    rw [field_behind _ _ (k := 0) 1 (by rw [Laws.Wire.spell_length])]
    rfl
  rw [statementOperand, if_pos (by simp [Laws.Wire.spell_length]), number, option]

/-- READ STATEMENT with the clear option off takes no snapshot (R169). -/
theorem readStatement_off {a : Account} (found : s.accounts.find n = some a) :
    readStatement (spell 2 n ++ [0]) s = complete .ok (.statement a false) s := by
  rw [readStatement, statementOperand_off hn]
  dsimp only
  rw [found]
  rfl

end

/-- Settles O7: each readout is taken by the port and answered there, with what it reads the same as before. -/
theorem readoutsOnlyPlaceTheirResult : Obligations.ReadoutsOnlyPlaceTheirResult := by
  unfold Obligations.ReadoutsOnlyPlaceTheirResult
  have two (n : Nat) : (spell 2 n).length ≤ 240 := by simp [Laws.Wire.spell_length]
  refine ⟨fun s => ⟨fun r => discardResult_of_result, discardResult_of_no_result⟩, fun s h =>
    ⟨?_, ?_, ?_, ?_, ?_, ?_, fun n a hn found => ⟨?_, ?_⟩, fun n hn missing => ?_, fun n hn => ?_⟩⟩
  · rw [execStatus_taken h, status, statusReport_commandTaken, complete_commandTaken]
  · rw [execReadNotice_taken h, readNotice, commandTaken_notices, commandTaken_overflow, complete_commandTaken]
  · rw [execReadLost_taken h, readLost, commandTaken_job, complete_commandTaken]
  · rw [execReadRoster_taken h, readRoster, commandTaken_line, commandTaken_own, complete_commandTaken]
  · rw [execReadRefunds_taken h, readRefunds, commandTaken_card, complete_commandTaken]
  · rw [execReadMeters_taken h (by decide), readMeters_off, commandTaken_meter, discardResult_record,
      complete_commandTaken]
  · rw [execReadAccount_taken h (two n), readAccount_found hn (a := a) (by simpa using found), commandTaken_accounts,
      discardResult_available, discardResult_pool, complete_commandTaken]
  · rw [execReadStatement_taken h (by simp [Laws.Wire.spell_length]),
      readStatement_off hn (a := a) (by simpa using found), complete_commandTaken]
  · rw [execReadAccount_taken h (two n), readAccount_missing hn (by simpa using missing), complete_commandTaken]
  · rw [execListAccounts_taken h (two n), listAccounts_from hn, commandTaken_accounts, discardResult_table,
      accountLine_commandTaken, complete_commandTaken]

end Sys2Proof.Machine
end

section
/-! ## A read transaction (R167, R170, R175, R180) -/

namespace Sys2Proof.Machine

/-! ### The reply by the port state (R175) -/

section
variable {s : State} {n : Nat} (powered : s.powered = true)
include powered

theorem execReadTransaction_powered : exec (.readTransaction n) s = .next (readReply n s) :=
  whenPowered_on s (readReply n) powered

theorem execReadTransaction_idle (empty : s.port.state = .idle) :
    exec (.readTransaction n) s = .next (s.setPort { s.port with shifted := .empty }) := by
  simp [execReadTransaction_powered powered, readReply, State.reply, empty]

theorem execReadTransaction_executing {c : Opcode} (busy : s.port.state = .executing c) :
    exec (.readTransaction n) s = .next (s.setPort { s.port with shifted := .busy c s.port.refused }) := by
  simp [execReadTransaction_powered powered, readReply, State.reply, busy]

/-- A result read short of its check byte stays in its place. -/
theorem execReadTransaction_short {r : Result} (held : s.port.state = .result r) (short : n < r.message.length) :
    exec (.readTransaction n) s = .next (s.setPort { s.port with shifted := .result r }) := by
  simp [execReadTransaction_powered powered, readReply, State.reply, held, Nat.not_le.mpr short]

end

/-! ### The commit of a result read whole -/

section
variable {s : State} {n : Nat} {r : Result} (powered : s.powered = true) (held : s.port.state = .result r)
  (whole : r.message.length ≤ n)
include powered held whole

/-- The commit of a READ NOTICE result (R180). -/
theorem execReadTransaction_notice {count : Nat} {overflow : Bool} {oldest : Option Notice}
    (values : r.values = .notice count overflow oldest) :
    exec (.readTransaction n) s = .next (commitNotice overflow oldest (readThrough r s)) := by
  rw [execReadTransaction_whole powered held whole, commitResult, values]
  rfl

/-- The other results commit nothing (R175). -/
theorem execReadTransaction_plain (notice : ∀ count overflow oldest, r.values ≠ .notice count overflow oldest)
    (meters : ∀ serial clear counters, r.values ≠ .meters serial clear counters)
    (statement : ∀ a clear, r.values ≠ .statement a clear) :
    exec (.readTransaction n) s = .next (readThrough r s) := by
  rw [execReadTransaction_whole powered held whole, commitResult]
  split
  next values => exact absurd values (meters _ _ _)
  next values => exact absurd values (statement _ _)
  next values => exact absurd values (notice _ _ _)
  next => rfl

end

section
variable {s : State}

/-- Without a snapshot a READ METERS result commits nothing (R167). -/
theorem commitMeters_none (h : s.meter.snapshot = none) : commitMeters s = s := by
  rw [commitMeters, h]

/-- Without a snapshot a READ STATEMENT result commits nothing (R170). -/
theorem commitStatement_none (h : s.accounts.snapshot = none) : commitStatement s = s := by
  rw [commitStatement, h]

/-- The statement clear of an account that is no longer in the table drops the snapshot alone. -/
theorem commitStatement_missing {snap : StatementSnapshot} (h : s.accounts.snapshot = some snap)
    (missing : s.accounts.find snap.number = none) :
    commitStatement s = s.setAccounts { s.accounts with snapshot := none } := by
  rw [commitStatement, h]
  dsimp only
  rw [missing]

end

/-- Settles O8: the reply by the port state, and a whole result by the command whose values it carries. -/
theorem readTransactionRepliesAndCommits : Obligations.ReadTransactionRepliesAndCommits := by
  unfold Obligations.ReadTransactionRepliesAndCommits
  intro s n powered
  refine ⟨execReadTransaction_idle powered, fun c => execReadTransaction_executing powered,
    fun r => execReadTransaction_short powered, fun r held whole => ?_⟩
  intro port plain
  refine ⟨fun count overflow oldest => execReadTransaction_notice powered held whole,
    fun serial clear counters values => ⟨fun absent => ?_, fun snap kept => ?_⟩,
    fun a clear values => ⟨fun absent => ?_, fun snap kept => ?_⟩, execReadTransaction_plain powered held whole⟩
  · exact (execReadTransaction_meters powered held whole values).trans
      (congrArg _ (commitMeters_none (s := readThrough r s) absent))
  · have ran := execReadTransaction_meters powered held whole values
    rw [commitMeters_snapshot (s := readThrough r s) kept] at ran
    refine ⟨_, ran, noteMeters_port _, noteMeters_meter _, noteMeters_records _, ?_⟩
    simp [readThrough, State.unchangedBut]
  · exact (execReadTransaction_statement powered held whole values).trans
      (congrArg _ (commitStatement_none (s := readThrough r s) absent))
  · have ran := execReadTransaction_statement powered held whole values
    cases found : s.accounts.find snap.number with
    | none =>
      rw [commitStatement_missing (s := readThrough r s) kept found] at ran
      exact ⟨_, ran, rfl, rfl, rfl, by simp [readThrough, State.unchangedBut]⟩
    | some b =>
      rw [commitStatement_snapshot (s := readThrough r s) kept found] at ran
      refine ⟨_, ran, submit_port _ _ _, submit_accounts _ _ _, submit_records _ _ _, ?_⟩
      simp [readThrough, State.unchangedBut]

end Sys2Proof.Machine
end

section
/-! ## A start with no checkpoint (R92, R115, R129, R177, R182, R185) -/

namespace Sys2Proof.Machine

/-! ### The commands that start the part -/

/-- A RESTART completes the writes of the store as it stands (R182): a discarded result changes none of them. -/
theorem finishWrites_commandTaken (o : Opcode) (s : State) :
    (finishWrites (commandTaken o s)).store = (finishWrites s).store := by
  simp [finishWrites]

/-- POWER_ON and RESTART start the part from a state that holds their records (R182, R185; log 4, log 19). -/
theorem exec_start {s : State} {c : Instr} {cause : StartCause} {k : StoreRecords}
    (starts : (c = .powerOn ∧ cause = .powerOn ∧ k = s.store.records) ∨
      (c = .restart [] ∧ cause = .restart ∧ s.accepts ∧ k = (finishWrites s).store.records)) :
    ∃ x, exec c s = .next (start cause x) ∧ x.store.records = k ∧ x.free = s.free ∧ x.pending = s.pending := by
  rcases starts with ⟨rfl, rfl, rfl⟩ | ⟨rfl, rfl, h, rfl⟩
  · exact ⟨losePower s, rfl, rfl, rfl, rfl⟩
  · refine ⟨finishWrites (commandTaken .restart s), whenPowered_takeBare h .restart restart, ?_, ?_, ?_⟩
    · rw [finishWrites_commandTaken]
    · simp [finishWrites]
    · simp [finishWrites]

/-! ### What the blocks take back -/

/-- With no checkpoint there is no interrupted job: a start takes the blocks and the line back (R185). -/
theorem start_of_no_checkpoint (cause : StartCause) {x : State} (h : x.store.records.checkpoint = none) :
    start cause x = startLine (startBlocks cause x) := by
  have kept : (startLine (startBlocks cause x)).store.records.checkpoint = none := by
    unfold startLine; split <;> exact h
  rw [start, takeCheckpoint, kept]

/-- The line is the only block that a start changes behind the blocks' records. -/
theorem startLine_eq (s : State) : startLine s = s.setLine (startLine s).line := by
  unfold startLine; split <;> rfl

/-- The line of a start (R114, R115). -/
theorem startLine_startBlocks (cause : StartCause) (x : State) :
    (startLine (startBlocks cause x)).line = (match x.store.records.startOptions.1.station with
      | none => LineUnit.off
      | some n => { LineUnit.off with
          state := .joining
          roster := [{ station := n, present := true, home := x.store.records.startOptions.1.home, overlap := false }]
          waiting := [{ place := .roll, k := 0, frame :=
            { head := { dest := 63, source := n, exch := 0 }
              body := .roll { first := (x.store.records.startOptions.1.home.map HomeRange.first).getD 0
                              last := (x.store.records.startOptions.1.home.map HomeRange.last).getD 0
                              joining := true } } }] }) := by
  have own : (startBlocks cause x).own = x.store.records.startOptions.1.station := rfl
  rw [startLine, own]
  cases station : x.store.records.startOptions.1.station with
  | none => rfl
  | some n => simp [readyFrame, State.rollFrame, State.own, startBlocks, station, LineUnit.off]

/-- The pool of a start has the stored holds, each ACTIVE one with 120 s to run (R129). -/
theorem StoreRecords.mem_startPool (r : StoreRecords) (h : Hold) :
    h ∈ r.startPool ↔ ∃ x ∈ r.holds, h = { x with expiry := if x.state = .active then some 120000#32 else none } := by
  have same (x : Hold) : x ∈ r.holds.foldl (fun l h => orderHold h l) [] ↔ x ∈ r.holds := by
    simpa using (foldl_orderHold_perm r.holds []).mem_iff (a := x)
  have expiry : after 0 holdLifetime = 120000#32 := by decide
  simp only [StoreRecords.startPool, List.mem_map, same, expiry, eq_comm]

/-- Settles O3: either command is a start (`exec_start`), which without a checkpoint is its blocks and its line
(`start_of_no_checkpoint`). -/
theorem startTakesEveryBlockBack : Obligations.StartTakesEveryBlockBack := by
  unfold Obligations.StartTakesEveryBlockBack
  intro s c cause k starts clean
  obtain ⟨x, ran, rfl, free, pending⟩ := exec_start starts
  refine ⟨_, ran, ?_⟩
  rw [start_of_no_checkpoint cause clean, startLine_eq, startLine_startBlocks]
  exact ⟨rfl, rfl, rfl, rfl, rfl, rfl, rfl, rfl, rfl, rfl, rfl, rfl, StoreRecords.mem_startPool _, rfl, rfl, rfl, rfl,
    free, pending⟩

end Sys2Proof.Machine
end

section
/-! ## The part's own time, and a part without power (R182, R186) -/

namespace Sys2Proof.Machine

/-! ### An empty queue (log 2) -/

theorem step_empty {s : State} (empty : s.pending = []) : step s = .next (idle s) := by
  rw [step, empty]

theorem idle_unpowered {s : State} (off : s.powered = false) : idle s = s := by
  simp [idle, off]

section
variable {s : State} (on : s.powered = true)
include on

theorem idle_due (due : s.dueEvents ≠ []) : idle s = s.setPending (s.pending ++ s.dueEvents) := by
  rw [idle, if_pos on, if_neg due]

theorem idle_quiet (quiet : s.dueEvents = []) : idle s = tick s := by
  rw [idle, if_pos on, if_pos quiet]

end

/-! ### A part without power (log 4) -/

/-- An event with a condition of its own needs power before it is judged (log 3, log 4). -/
theorem whenDue_off (d : State → Bool) (f : State → State) {s : State} (off : s.powered = false) :
    whenDue d s f = .next s := whenPowered_off s _ off

/-- Every command but POWER_ON runs under power alone (R182). -/
theorem exec_unpowered {i : Instr} (other : i ≠ .powerOn) {s : State} (off : s.powered = false) :
    exec i s = .next s := by
  cases i
  case powerOn => exact absurd rfl other
  -- events that are taken only when they are due
  case interruptedCardWaitEnd | storeWriteComplete | purgeSettlingWaitEnd | periodicPostDue | cardInsertion |
      cardRemoval | cardReadAnswer | cardWriteAck | cardAnswerDeadline | exchangeAnswerDeadline | joiningWindowEnd |
      rollAnswerDelayEnd | outboundRound | sensorSample | cardPresenceSample => exact whenDue_off _ _ off
  -- events that first look for the edge, the record, the hold or the request that they take
  case leadingEdge | trailingEdge | doorOpenEdge | doorClosedEdge | windowDeadline | frameDiscarded |
      accountRequestTaken | holdLapse =>
    simp only [exec, execLeadingEdge, execTrailingEdge, execDoorOpenEdge, execDoorClosedEdge, execWindowDeadline,
      execFrameDiscarded, execAccountRequestTaken, execHoldLapse, whenPowered_off s _ off]
  -- command messages, frames and the other events
  all_goals exact whenPowered_off s _ off

/-- Settles O2: an empty queue by the branches of `idle`, the unpowered part by `exec_unpowered`. -/
theorem emptyQueueAndUnpoweredPart : Obligations.EmptyQueueAndUnpoweredPart := by
  unfold Obligations.EmptyQueueAndUnpoweredPart
  refine ⟨fun s empty => ⟨fun off => ?_, fun on due => ?_, fun on quiet => ?_⟩, fun i s off other => ?_⟩
  · rw [step_empty empty, idle_unpowered off]
  · rw [step_empty empty, idle_due on due, empty, List.nil_append]
    rfl
  · rw [step_empty empty, idle_quiet on quiet]
    rfl
  · exact exec_unpowered other off

end Sys2Proof.Machine
end

section
/-! ## The store at a power loss and at a RESTART (R182) -/

namespace Sys2Proof.Machine

/-- The write in progress and the queued ones complete in their order: with no meter write queued, each as it was
submitted (R165, R182). -/
theorem finishWrites_records {s : State} {w : QueuedWrite} {t0 : TimePoint} (hc : s.store.current = some (w, t0))
    (noMeters : ∀ x ∈ s.store.queue, x.what.isMeters = false) : (finishWrites s).store.records =
      s.store.queue.foldl (fun r x => x.what.apply r) (w.what.apply s.store.records) := by
  have queued : (s.store.queue.map fun x => x.what.begun s.meter.record) = s.store.queue.map QueuedWrite.what :=
    List.map_congr_left fun x hx => begun_of_not_meters _ _ (noMeters x hx)
  simp [finishWrites, Store.quiet, hc, queued, List.foldl_map]

/-- The store of a part started without a checkpoint (R182, R185). -/
theorem start_store_of_no_checkpoint (cause : StartCause) {x : State} (h : x.store.records.checkpoint = none) :
    (start cause x).store = Store.quiet x.store.records := by
  rw [start_of_no_checkpoint cause h, startLine_eq]
  rfl

/-- Settles O4: a power loss by `losePower`, a RESTART by `exec_start` from the records that `finishWrites` leaves. -/
theorem storeAtPowerLossAndRestart : Obligations.StoreAtPowerLossAndRestart := by
  unfold Obligations.StoreAtPowerLossAndRestart
  refine ⟨fun s on => ⟨losePower s, whenPowered_on s losePower on, rfl, rfl⟩, fun s w t0 h hc noMeters clean => ?_⟩
  obtain ⟨x, ran, records, -, -⟩ := exec_start (s := s) (.inr ⟨rfl, rfl, h, rfl⟩)
  rw [finishWrites_records hc noMeters] at records
  refine ⟨_, ran, ?_⟩
  rw [start_store_of_no_checkpoint _ (by rw [records]; exact clean), records]

end Sys2Proof.Machine
end

section
/-! ## The store's progress (R131, R174, R181) -/

namespace Sys2Proof.Machine

section
variable {s : State}

theorem beginWrite_of_no_queue (empty : s.store.queue = []) : beginWrite s = s := by
  unfold beginWrite
  rw [empty]
  cases s.store.current <;> rfl

/-- The oldest queued write begins as it was submitted, where it is no meter write (R165, R181). -/
theorem beginWrite_oldest {x : QueuedWrite} {rest : List QueuedWrite} (idle : s.store.current = none)
    (queue : s.store.queue = x :: rest) (plain : x.what.isMeters = false) :
    beginWrite s = s.setStore { s.store with current := some (x, s.timeBase), queue := rest } := by
  unfold beginWrite
  rw [idle, queue]
  dsimp only
  rw [begun_of_not_meters _ _ plain]

theorem passOn_of_none_waiting (none : s.store.waiting = []) : passOn s = beginWrite s := by
  rw [passOn, none]

/-- A command's write that takes the freed place has the command's result placed (R174, R181). -/
theorem passOn_command {y : QueuedWrite} {left : List QueuedWrite} (waits : s.store.waiting = y :: left)
    (command : y.tag = .command) : passOn s = releaseHeld
      (beginWrite (s.setStore { s.store with queue := s.store.queue ++ [y], waiting := left })) := by
  rw [passOn, waits]
  exact if_pos command

theorem releaseHeld_of_held {r : Result} (held : s.port.held = some r) : releaseHeld s = placeResult r s := by
  rw [releaseHeld, held]

/-- The last write of the request in hand lets its answer leave (R131). -/
theorem requestWritten_last {h : InHand} (inHand : s.accounts.inHand = some h) (last : h.outstanding = 1) :
    requestWritten s = releaseAnswer h (s.setAccounts { s.accounts with inHand := none }) := by
  rw [requestWritten, inHand]
  exact if_pos last.le

/-- The part with the record of the write in progress replaced, and nothing in progress (R181). -/
def written (w : QueuedWrite) (s : State) : State :=
  s.setStore { s.store with records := w.what.apply s.store.records, current := none }

variable {w : QueuedWrite}

/-- A completed write other than the meters' lets the store go on, and the account unit where it is its request's
(R131, R181). -/
theorem completeWrite_eq (plain : w.what.isMeters = false) : completeWrite w s =
    if w.tag = .request then requestWritten (passOn (written w s)) else passOn (written w s) := by
  rw [completeWrite, plain]
  rfl

theorem execStoreWriteComplete_due {t0 : TimePoint} (on : s.powered = true) (hc : s.store.current = some (w, t0))
    (late : 3 ≤ elapsed s.timeBase t0) : exec .storeWriteComplete s = .next (completeWrite w s) := by
  have completes : storeCompletes s = completeWrite w s := by rw [storeCompletes, hc]
  rw [← completes]
  exact whenDue_on _ _ _ on (by simp [State.writeOver, hc, late])

end

/-- Settles O5: `completeWrite_eq`, then what the store takes up by its queue and its waiting submitters. -/
theorem storeWriteCompletesInOrder : Obligations.StoreWriteCompletesInOrder := by
  unfold Obligations.StoreWriteCompletesInOrder
  intro s w t0 on hc late plain
  rw [execStoreWriteComplete_due on hc late, completeWrite_eq plain]
  refine ⟨fun other none empty => ?_, fun x rest other none queue hx => ?_,
    fun x rest y left r other queue waits hx command held => ?_,
    fun h station exch request none empty inHand last origin member => ?_⟩
  · rw [if_neg other, passOn_of_none_waiting (by exact none), beginWrite_of_no_queue (by exact empty)]
    rfl
  · rw [if_neg other, passOn_of_none_waiting (by exact none), beginWrite_oldest rfl (by exact queue) hx]
    rfl
  · have joined : (written w s).store.queue ++ [y] = x :: (rest ++ [y]) := by rw [← List.cons_append, ← queue]; rfl
    rw [if_neg other, passOn_command (by exact waits) command, beginWrite_oldest rfl joined hx,
      releaseHeld_of_held (by exact held)]
    rfl
  · rw [if_pos request, passOn_of_none_waiting (by exact none), beginWrite_of_no_queue (by exact empty),
      requestWritten_last (by exact inHand) last, releaseAnswer_peer origin (by exact member)]
    rfl

end Sys2Proof.Machine
end

section
/-! ## An interrupted job taken up at the start (R5, R23, R155, R187) -/

namespace Sys2Proof.Machine

/-- The part that a POWER_ON starts with this checkpoint, its job SETTLING and its place reserved, before the job's
settlement (R185, R187). -/
def interruptedStart (k : Checkpoint) (s : State) : State :=
  reservePlace k.funding ((startLine (startBlocks .powerOn (losePower s))).setCtx k.interrupted)

section
variable (k : Checkpoint) (s : State)

/-- The part is its blocks from the records of the store and the line of its start, with the job taken up and its place
reserved in the refund list or in the outbound queue (R185, R187). -/
theorem interruptedStart_eq : interruptedStart k s =
    { startBlocks .powerOn (losePower s) with
      line := (startLine (startBlocks .powerOn (losePower s))).line
      job := { JobUnit.start s.store.records.serial with ctx := k.interrupted }
      card := { CardUnit.start s.store.records.startRefunds with refundReserved := decide (k.funding = .purse) }
      settle := { SettlementUnit.start s.store.records.outbound with
        reservedJob := decide (k.funding ≠ .purse) } } := by
  rw [interruptedStart, startLine_eq, reservePlace]
  split
  next purse => rw [decide_eq_true purse, decide_eq_false (not_not_intro purse)]; rfl
  next other => rw [decide_eq_false other, decide_eq_true other]; rfl

@[simp] theorem interruptedStart_timeBase : (interruptedStart k s).timeBase = 0 :=
  congrArg State.timeBase (interruptedStart_eq k s)

@[simp] theorem interruptedStart_port : (interruptedStart k s).port = Port.start
    { time := 0
      body := .start .powerOn s.store.records.startOptions.1.station s.store.records.startOptions.2 } :=
  congrArg State.port (interruptedStart_eq k s)

@[simp] theorem interruptedStart_job : (interruptedStart k s).job =
    { JobUnit.start s.store.records.serial with ctx := k.interrupted } :=
  congrArg State.job (interruptedStart_eq k s)

@[simp] theorem interruptedStart_path : (interruptedStart k s).path = PathMonitor.start s.store.records.profile :=
  congrArg State.path (interruptedStart_eq k s)

@[simp] theorem interruptedStart_card : (interruptedStart k s).card =
    { CardUnit.start s.store.records.startRefunds with refundReserved := decide (k.funding = .purse) } :=
  congrArg State.card (interruptedStart_eq k s)

@[simp] theorem interruptedStart_accounts : (interruptedStart k s).accounts =
    AccountUnit.start s.store.records.accounts s.store.records.startPool s.store.records.nextStamp :=
  congrArg State.accounts (interruptedStart_eq k s)

@[simp] theorem interruptedStart_settle : (interruptedStart k s).settle =
    { SettlementUnit.start s.store.records.outbound with reservedJob := decide (k.funding ≠ .purse) } :=
  congrArg State.settle (interruptedStart_eq k s)

@[simp] theorem interruptedStart_store : (interruptedStart k s).store = Store.quiet s.store.records :=
  congrArg State.store (interruptedStart_eq k s)

/-- The path of the part is IDLE (R59). -/
theorem interruptedStart_idle : (interruptedStart k s).path.state = .idle := by
  rw [interruptedStart_path]
  rfl

end

/-- A start that finds a checkpoint takes its job up and begins its settlement (R187; log 4). -/
theorem execPowerOn_interrupted {s : State} {k : Checkpoint} (found : s.store.records.checkpoint = some k) :
    exec .powerOn s = .next (settleInterrupted (interruptedStart k s)) := by
  have kept : (startLine (startBlocks .powerOn (losePower s))).store.records.checkpoint = some k := by
    rw [startLine_eq]; exact found
  have taken : start .powerOn (losePower s) = settleInterrupted (interruptedStart k s) := by
    rw [start, takeCheckpoint, kept]
    rfl
  exact congrArg _ taken

/-! ### The settlement by the job's funding -/

/-- The outbound queue with the final post of the interrupted job (R155). -/
theorem interruptedStart_queue (k : Checkpoint) (a : AccountPart) (s : State) :
    withOutbound ((interruptedStart k s).job.ctx.outEntry a) (interruptedStart k s).settle.queue =
      withOutbound (.finalPost a.home a.hold a.number k.charged k.usage a.acked (decide (k.funding = .offline)))
        s.store.records.outbound := by
  rw [JobContext.outEntry_eq a (by rw [interruptedStart_job]; rfl), interruptedStart_job, interruptedStart_settle]
  rfl

section
variable {k : Checkpoint}

/-- A purse job with an escrow tag awaits the card controller's first outcome. -/
theorem settleInterrupted_tagged (s : State) {p : PursePart} {tag : Nat} (purse : k.funding = .purse)
    (part : k.purse = some p) (tagged : p.tag = some tag) : settleInterrupted (interruptedStart k s) =
      (interruptedStart k s).setJob { (interruptedStart k s).job with awaitsCard := true } := by
  simp [settleInterrupted, Checkpoint.interrupted, purse, part, tagged]

/-- A purse job without one ends with route CARD. -/
theorem settleInterrupted_untagged (s : State) {p : PursePart} (purse : k.funding = .purse)
    (part : k.purse = some p) (untagged : p.tag = none) :
    settleInterrupted (interruptedStart k s) = endJob .card (interruptedStart k s) := by
  simp [settleInterrupted, Checkpoint.interrupted, purse, part, untagged]

variable {a : AccountPart} (part : k.account = some a)
include part

theorem interruptedStart_account (s : State) : (interruptedStart k s).job.ctx.account = some a := by
  rw [interruptedStart_job]
  exact part

theorem interruptedStart_jobIsLocal (s : State) :
    (interruptedStart k s).jobIsLocal = true ↔ a.home = a.hold.station :=
  jobIsLocal_iff (interruptedStart_account part s)

/-- The final post of a job of this station goes to its own account unit (R23; log 15). -/
theorem settleInterrupted_own (s : State) (account : k.funding = .account) (home : a.home = a.hold.station) :
    settleInterrupted (interruptedStart k s) = handOwn .job (.post
      { hold := a.hold, account := a.number, charged := k.charged, usage := k.usage, final := true, offline := false })
      (interruptedStart k s) := by
  have funding : (interruptedStart k s).job.ctx.funding = some .account := by
    rw [interruptedStart_job, ← account]; rfl
  have own := (interruptedStart_jobIsLocal part s).mpr home
  have free : (interruptedStart k s).ownBusy .job = false := by
    rw [State.ownBusy, interruptedStart_accounts]; rfl
  rw [settleInterrupted, if_neg (funding ▸ by simp), if_pos ⟨funding, own⟩,
    askJob_own (by rw [interruptedStart_job]; rfl) own free,
    JobContext.body_finalPost (interruptedStart_account part s) funding, interruptedStart_job]
  rfl

/-- The final post of another station's job, and of an offline one, fills its outbound place (R155). -/
theorem settleInterrupted_queued (s : State)
    (away : k.funding = .offline ∨ (k.funding = .account ∧ a.home ≠ a.hold.station)) :
    settleInterrupted (interruptedStart k s) = endJob .queued (queueFilled a (interruptedStart k s)) := by
  have funding : (interruptedStart k s).job.ctx.funding = some k.funding := by rw [interruptedStart_job]; rfl
  have notPurse : (interruptedStart k s).job.ctx.funding ≠ some .purse := by
    rw [funding]; rcases away with offline | ⟨account, -⟩ <;> simp [*]
  have notOwn : ¬ ((interruptedStart k s).job.ctx.funding = some .account ∧
      (interruptedStart k s).jobIsLocal = true) := by
    rw [funding, interruptedStart_jobIsLocal part s]
    rcases away with offline | ⟨-, other⟩
    · simp [offline]
    · exact fun ⟨_, home⟩ => other home
  rw [settleInterrupted, if_neg notPurse, if_neg notOwn,
    settleByQueue_eq (by rw [interruptedStart_job]; rfl) (interruptedStart_account part s)]

end

/-- The part with the interrupted job of this checkpoint ended by a route at the start from these records
(R24, R187). -/
def Checkpoint.endsBy (k : Checkpoint) (r : StoreRecords) (route : Route) (t : State) : Prop :=
  t.job.ctx = k.interrupted.ended ∧
  t.port.notices.getLast? = some (Notice.mk 0 (.jobEnd
    { serial := k.serial, delivered := k.usage.sheets, lostNotRedone := 0, charged := k.charged
      funding := k.funding, route := route, closeReason := some .interrupted })) ∧
  t.card.refundReserved = false ∧ t.settle.reservedJob = false ∧
  t.store.writes.getLast? = some (.checkpoint none) ∧ t.store.records = r ∧ t.path.state = .idle

/-- A job that ends with the start that takes it up (R24, R187). -/
theorem interruptedStart_endsBy {k : Checkpoint} {s y : State} (kept : (interruptedStart k s).routeKeeps y)
    (route : Route) : k.endsBy s.store.records route (endJob route y) := by
  obtain ⟨job, refund, place, -, records, last, path, -, notices⟩ :=
    kept.jobEnded (n := k.serial) (kind := k.funding) (by rw [interruptedStart_job]; rfl)
      (by rw [interruptedStart_job]; rfl) route
  have raised := notices (by rw [interruptedStart_port]; simp [Port.start])
  refine ⟨?_, ?_, refund, place, last ?_, ?_, ?_⟩
  · rw [job, interruptedStart_job]
    rfl
  · rw [raised, List.getLast?_concat, interruptedStart_job, interruptedStart_timeBase]
    rfl
  · rw [interruptedStart_store]
    exact Store.quiet_orderly _
  · rw [records, interruptedStart_store]
    rfl
  · rw [path, interruptedStart_path]
    rfl

end Sys2Proof.Machine
end

section
/-! ## The outcome that an interrupted purse job waits for (R91, R93, R187), and its settlement -/

namespace Sys2Proof.Machine

/-- The part with this outcome at the card controller: its card unit, and the notices raised for it (R85, R87). -/
def outcomeShown (card : CardUnit) (raised : List NoticeBody) (s : State) : State :=
  (s.setPort { s.port with notices := s.port.notices ++ raised.map (Notice.mk s.timeBase) }).setCard card

section
variable {s : State}

/-- The time of 15 ms that ends with no card shows nothing new. -/
theorem outcomeShown_nothing : outcomeShown s.card [] s = s := by
  simp only [outcomeShown, List.map_nil, List.append_nil]
  rfl

/-! ### Outcomes that end the wait -/

theorem rejectCard_shown (room : s.port.notices.length < 16) (reason : Reason) : rejectCard reason s =
    interruptedNoCard (outcomeShown
      { s.card with state := .rejected reason, request := none, record1 := none, image := none }
      [.cardRejected reason (s.card.identity.map CardIdentity.serial)] s) := by
  rw [rejectCard, raiseNotice_room (by exact room)]
  rfl

theorem readyAccountCard_shown (room : s.port.notices.length < 16) (id : CardIdentity) : readyAccountCard id s =
    interruptedNoCard (outcomeShown { s.card with state := .ready, request := none }
      [.cardInsertedAccount id.serial id.account] s) := by
  rw [readyAccountCard, raiseNotice_room (by exact room)]
  rfl

/-- A card with no write in flight is removed (R87). -/
theorem CardUnit.gone_of_idle {c : CardUnit} (idle : c.writing = none) : c.gone =
    { c with
      presence := { c.presence with on := false, edge := none }, state := .empty, identity := none, record1 := none
      image := none, resolving := false, request := none
      slot := c.slot.map CardExchange.stale, waiting := c.waiting.map CardExchange.stale } := by
  rw [CardUnit.gone, ← idle]

/-- A card removed while it is read (R87): the job unit is told of a serial after the wait has ended. -/
theorem takeRemoval_reading {j : Nat} (reading : s.card.state = .reading j) (present : s.card.presence.on = true)
    (room : s.port.notices.length < 16) : takeRemoval s =
      (s.card.identity.map CardIdentity.serial).elim (interruptedNoCard (cardGone s))
        fun n => openingCardRemoved n (interruptedNoCard (cardGone s)) := by
  have flipped : s.card.presence.flip = { s.card.presence with on := false, edge := none } := by
    simp [Filter.flip, present]
  rw [takeRemoval, if_neg (by simp [reading]), flipped, removeCard, raiseNotice_room (by exact room)]
  cases known : s.card.identity <;> simp [reading, known, cardGone, CardUnit.gone]

/-! ### What the wait ends with -/

/-- The conditions of an interrupted purse job that waits: its serial, its card and its escrow tag (R187). -/
structure State.awaitsOutcome (s : State) (card tag n : Nat) : Prop where
  awaits : s.job.awaitsCard = true
  settling : s.job.ctx.state = .settling
  part : s.job.ctx.purse = some { card := card, tag := some tag }
  purse : s.job.ctx.funding = some .purse
  serial : s.job.ctx.serial = some n

/-- What the job unit holds decides it, whatever the card controller shows. -/
theorem State.awaitsOutcome.of_job {x : State} {card tag n : Nat} (h : s.awaitsOutcome card tag n)
    (same : x.job = s.job) : x.awaitsOutcome card tag n := by
  obtain ⟨awaits, settling, part, purse, serial⟩ := h
  exact ⟨same ▸ awaits, same ▸ settling, same ▸ part, same ▸ purse, same ▸ serial⟩

/-- A purse card that reaches READY with no entry in the refund list: its notice, then its escrow (R85, R94). -/
theorem readyPurseCard_unlisted {i : PurseImage} (room : s.port.notices.length < 16)
    (unlisted : ∀ e ∈ s.card.refunds, e.serial ≠ i.serial) : readyPurseCard i s =
      if (purseShown i s).escrowIsJobs i then interruptedCard (purseShown i s)
      else lookAtEscrow i (interruptedCard (purseShown i s)) := by
  have kept : removeStale i (purseShown i s) = purseShown i s := removeStale_none (by exact unlisted)
  rw [readyPurseCard, raiseNotice_room (by exact room)]
  exact congrArg
    (fun x : State => if x.escrowIsJobs i then interruptedCard x else lookAtEscrow i (interruptedCard x)) kept

variable {card tag n : Nat} (h : s.awaitsOutcome card tag n)
include h

/-- Without its settlement write the job is left to the refund list (R93, R187). -/
theorem interruptedNoCard_lists :
    interruptedNoCard s = endJob .refundList (fillRefund card tag s.job.ctx.charged s) := by
  rw [interruptedNoCard, if_pos h.awaits, settleByRefund_eq h.settling h.part]

theorem interruptedNoCard_ended : (interruptedNoCard s).job.ctx.state = .none := by
  rw [interruptedNoCard_lists h, endJob_job]
  rfl

/-- A card that its settlement write can be made on receives it (R91, R187). -/
theorem interruptedCard_settles {i : PurseImage} (onCard : s.settleable card tag s.job.ctx.charged i) :
    interruptedCard s = (s.setJob { s.job with awaitsCard := false }).setCard
      (s.card.writes .jobSettlement i.slot (i.purse.settledTo s.job.ctx.charged) s.timeBase) := by
  rw [interruptedCard, if_pos h.awaits, h.part]
  dsimp only
  rw [settleableImage_eq_some.mpr onCard]
  exact startWrite_eq _ _ _ _

theorem interruptedCard_lists (notOnCard : ∀ i, ¬ s.settleable card tag s.job.ctx.charged i) :
    interruptedCard s = interruptedNoCard s := by
  have none : s.settleableImage card tag s.job.ctx.charged = none :=
    Option.eq_none_iff_forall_not_mem.mpr fun i hi => notOnCard i (settleableImage_eq_some.mp hi)
  rw [interruptedCard, interruptedNoCard, if_pos h.awaits, if_pos h.awaits, h.part]
  dsimp only
  rw [none]

/-- A purse card without an escrow leaves the job to the refund list (R93, R187). -/
theorem readyPurseCard_lists {i : PurseImage} (room : s.port.notices.length < 16) (empty : i.purse.escrow = 0)
    (unlisted : ∀ e ∈ s.card.refunds, e.serial ≠ i.serial) :
    readyPurseCard i s = interruptedNoCard (purseShown i s) := by
  have notJobs : ¬ (purseShown i s).escrowIsJobs i = true := by
    rw [escrowIsJobs_iff]
    exact fun ⟨_, _, ⟨held, _⟩, _⟩ => held empty
  have notOnCard (j : PurseImage) : ¬ (purseShown i s).settleable card tag (purseShown i s).job.ctx.charged j := by
    rintro ⟨⟨-, image, -⟩, -, held, -⟩
    obtain rfl : i = j := Option.some.inj image
    exact held empty
  rw [readyPurseCard_unlisted room unlisted, if_neg notJobs, lookAtEscrow_none empty,
    interruptedCard_lists (h.of_job (x := purseShown i s) rfl) notOnCard]

/-- Its own purse card with its escrow receives the settlement write (R91, R187). -/
theorem readyPurseCard_settles {i : PurseImage} (room : s.port.notices.length < 16)
    (onCard : (purseShown i s).settleable card tag s.job.ctx.charged i)
    (unlisted : ∀ e ∈ s.card.refunds, e.serial ≠ i.serial) :
    readyPurseCard i s = ((purseShown i s).setJob { s.job with awaitsCard := false }).setCard
      ((purseShown i s).card.writes .jobSettlement i.slot (i.purse.settledTo s.job.ctx.charged) s.timeBase) := by
  have ⟨_, own, held, station, same, _⟩ := onCard
  have jobs : (purseShown i s).escrowIsJobs i = true := by
    refine escrowIsJobs_iff.mpr ⟨?_, h.purse, ⟨held, station⟩, ?_⟩
    · show s.job.ctx.state ≠ .none
      simp [h.settling]
    · rw [own, same]
      exact h.part
  rw [readyPurseCard_unlisted room unlisted, if_pos jobs,
    interruptedCard_settles (h.of_job (x := purseShown i s) rfl) (by exact onCard)]
  rfl

/-- The job of `s` ended by the refund list, with this card unit and these notices shown before (R24, R93). -/
def State.refundListed (s : State) (card tag n : Nat) (unit : CardUnit) (raised : List NoticeBody) (t : State) : Prop :=
  let list := withEntry card tag s.job.ctx.charged s.card.refunds
  (s.setPort { s.port with notices := s.port.notices ++ raised.map (Notice.mk s.timeBase) }).jobEnded n .purse
    .refundList s.job.ctx.closeReason t ∧
  t.card = { unit with refunds := list, refundReserved := false } ∧ .refunds list ∈ t.store.writes ∧
  s.unchangedBut [.port, .job, .meter, .card, .settle, .line, .path, .store] t

/-- Whatever the outcome shown, the job that waits for it without its settlement write ends by the refund list
(R187). -/
theorem interruptedNoCard_refundListed {unit : CardUnit} (same : unit.refunds = s.card.refunds)
    (raised : List NoticeBody) :
    s.refundListed card tag n unit raised (interruptedNoCard (outcomeShown unit raised s)) := by
  have listed := mem_fillRefund card tag s.job.ctx.charged (outcomeShown unit raised s)
  have refunds : (outcomeShown unit raised s).card.refunds = s.card.refunds := same
  rw [refunds] at listed
  rw [interruptedNoCard_lists (h.of_job (x := outcomeShown unit raised s) rfl)]
  have kept := (setCard_routeKeeps unit
    (s.setPort { s.port with notices := s.port.notices ++ raised.map (Notice.mk s.timeBase) })).trans
    (fillRefund_routeKeeps card tag s.job.ctx.charged (outcomeShown unit raised s))
  refine ⟨kept.jobEnded h.serial h.purse .refundList, ?_, mem_endJob _ listed rfl, ?_⟩
  · rw [endJob_card, fillRefund_card, refunds]
    rfl
  · simp [outcomeShown, State.unchangedBut]

end

/-! ### Each outcome, as the command that brings it -/

section
variable {s : State} (on : s.powered = true)
include on

/-- With no card by the time of 15 ms the wait ends (R187). -/
theorem execInterruptedCardWaitEnd_shown (awaits : s.job.awaitsCard = true)
    (samples : s.card.startSamples = 3) (absent : s.card.presence.on = false) (taken : s.card.presence.edge = none)
    (empty : s.card.state = .empty) :
    exec .interruptedCardWaitEnd s = .next (interruptedNoCard (outcomeShown s.card [] s)) := by
  rw [outcomeShown_nothing]
  exact whenDue_on _ _ _ on (by simp [State.cardWaitOver, awaits, samples, absent, taken, empty])

variable (room : s.port.notices.length < 15)
include room

/-- The job that ended with the removal has no opening card that the removal could concern (R20, R187). -/
theorem execCardRemoval_shown {card tag n j : Nat} {time : TimePoint} (h : s.awaitsOutcome card tag n)
    (reading : s.card.state = .reading j) (present : s.card.presence.on = true)
    (edge : s.card.presence.edge = some time) : exec .cardRemoval s = .next (interruptedNoCard
      (outcomeShown s.card.gone [.cardRemoved (s.card.identity.map CardIdentity.serial)] s)) := by
  have told (m : Nat) : openingCardRemoved m (interruptedNoCard (cardGone s)) = interruptedNoCard (cardGone s) :=
    openingCardRemoved_other (.inr (.inl (interruptedNoCard_ended (h.of_job (x := cardGone s) rfl))))
  have shown : outcomeShown s.card.gone [.cardRemoved (s.card.identity.map CardIdentity.serial)] s = cardGone s := rfl
  rw [execCardRemoval_due on edge present, takeRemoval_reading reading present (by omega), shown]
  cases s.card.identity with
  | none => rfl
  | some id => exact congrArg _ (told id.serial)

variable {j : Nat} {t0 : TimePoint} (request : s.card.request = some (.read j, t0))
include request

theorem execCardAnswerDeadline_shown (idle : s.card.writing = none) (late : 20 ≤ elapsed s.timeBase t0) :
    exec .cardAnswerDeadline s = .next (interruptedNoCard (outcomeShown
      { s.card with state := .rejected .unreadable, request := none, record1 := none, image := none }
      [.cardRejected .unreadable (s.card.identity.map CardIdentity.serial)] s)) := by
  rw [execCardAnswerDeadline_due on request late, cardSilent_reading idle, rejectCard_shown (by omega)]

variable (inTime : elapsed s.timeBase t0 ≤ 20) {bytes : List Byte} (len : bytes.length = 16)
include inTime len

theorem execCardReadAnswer_badIdentity_shown (reading : s.card.state = .reading 0)
    (bad : onesSum (bytes.take 14) ≠ field bytes 14 2) :
    exec (.cardReadAnswer bytes) s = .next (interruptedNoCard (outcomeShown
      { s.card with state := .rejected .unreadable, request := none, record1 := none, image := none }
      [.cardRejected .unreadable (s.card.identity.map CardIdentity.serial)] s)) := by
  rw [execCardReadAnswer_taken on request inTime, readAnswered_record0 len reading,
    judgeIdentity_unreadable (IdentityRecord.read_bad bad), rejectCard_shown (by omega)]

theorem execCardReadAnswer_account_shown (reading : s.card.state = .reading 0)
    (good : onesSum (bytes.take 14) = field bytes 14 2) (kind : field bytes 4 2 = 2) (account : field bytes 6 2 ≠ 0)
    (issuer : field bytes 8 2 = s.options.issuer) :
    exec (.cardReadAnswer bytes) s = .next (interruptedNoCard (outcomeShown
      { s.card with
        state := .ready, request := none
        identity := some { serial := field bytes 0 4, kind := .account, account := field bytes 6 2 } }
      [.cardInsertedAccount (field bytes 0 4) (field bytes 6 2)] s)) := by
  rw [execCardReadAnswer_taken on request inTime, readAnswered_record0 len reading,
    judgeIdentity_account (IdentityRecord.read_good len good) kind account issuer,
    readyAccountCard_shown (by exact Nat.lt_succ_of_lt room)]
  rfl

omit room in
/-- A current slot with room in its counter makes the purse card READY (R84, R85). -/
theorem execCardReadAnswer_purse {id : CardIdentity} {first : List Byte} {slot : SlotName} {p : Purse}
    (reading : s.card.state = .reading 2) (hid : s.card.identity = some id) (hfirst : s.card.record1 = some first)
    (current : currentSlot (Purse.read first) (Purse.read bytes) = some (slot, p)) (fresh : p.counter < 4294967295) :
    exec (.cardReadAnswer bytes) s = .next (readyPurseCard { serial := id.serial, slot := slot, purse := p } s) := by
  rw [execCardReadAnswer_taken on request inTime, readAnswered_record2 len reading, hfirst, Option.getD_some,
    judgeSlots_ready hid current (Nat.ne_of_lt fresh)]

end

/-- Settles O33: the start by `execPowerOn_interrupted` and the branches of `settleInterrupted`; each outcome at the
card controller by what it shows, then `interruptedNoCard_refundListed` or the settlement write. -/
theorem interruptedJobsSettle : Obligations.InterruptedJobsSettle := by
  unfold Obligations.InterruptedJobsSettle
  refine ⟨fun s k found => ?_, fun s card tag n on awaits settling part purse serial room => ?_⟩
  · intro ctx ends
    rw [execPowerOn_interrupted found]
    refine ⟨fun p tag purse part tagged => ⟨_, rfl, ?_⟩, fun p purse part untagged => ⟨_, rfl, ?_⟩, fun a part => ?_⟩
    · rw [settleInterrupted_tagged s purse part tagged]
      exact ⟨congrArg JobUnit.ctx (interruptedStart_job k s), rfl, by simp [purse], interruptedStart_idle k s,
        interruptedStart_store k s⟩
    · rw [settleInterrupted_untagged s purse part untagged]
      exact interruptedStart_endsBy (.refl _) .card
    · intro queue
      refine ⟨fun away => ⟨_, rfl, ?_⟩, fun account home => ⟨_, rfl, ?_⟩⟩
      · have filled : withOutbound ((interruptedStart k s).job.ctx.outEntry a) (interruptedStart k s).settle.queue =
            queue := interruptedStart_queue k a s
        rw [settleInterrupted_queued part s away]
        refine ⟨interruptedStart_endsBy (queueFilled_routeKeeps a _) .queued, ?_, ?_⟩
        · rw [endJob_settle, queueFilled_settle, filled]
        · exact filled ▸ mem_endJob _ (mem_queueFilled a (interruptedStart k s)) rfl
      · rw [settleInterrupted_own part s account home]
        refine ⟨congrArg JobUnit.ctx (interruptedStart_job k s), by simp [handOwn, account],
          interruptedStart_idle k s, ?_⟩
        rw [handOwn, State.setAccounts_accounts, interruptedStart_accounts]
        rfl
  · intro charged listed
    have h : s.awaitsOutcome card tag n := ⟨awaits, settling, part, purse, serial⟩
    have ends {c : Instr} {unit : CardUnit} {raised : List NoticeBody}
        (ran : exec c s = .next (interruptedNoCard (outcomeShown unit raised s)))
        (same : unit.refunds = s.card.refunds) :
        listed c (fun list => { unit with refunds := list, refundReserved := false }) raised :=
      ⟨_, ran, interruptedNoCard_refundListed h same raised⟩
    refine ⟨fun samples absent taken empty => ?_, fun j t0 reading idle request =>
      ⟨fun late => ?_, fun time present edge => ?_,
        fun bytes hj inTime len => ⟨fun bad => ?_, fun good kind account issuer => ?_⟩,
        fun id first bytes slot p hj inTime hid hfirst len current fresh unlisted => ?_⟩⟩
    · exact ends (execInterruptedCardWaitEnd_shown on awaits samples absent taken empty) rfl
    · exact ends (execCardAnswerDeadline_shown on room request idle late) rfl
    · have removed := ends (execCardRemoval_shown on room h reading present edge) rfl
      rw [CardUnit.gone_of_idle idle] at removed
      exact removed
    · exact ends (execCardReadAnswer_badIdentity_shown on room request inTime len (hj ▸ reading) bad) rfl
    · exact ends
        (execCardReadAnswer_account_shown on room request inTime len (hj ▸ reading) good kind account issuer) rfl
    · intro ready own
      have judged := execCardReadAnswer_purse on request inTime len (hj ▸ reading) hid hfirst current fresh
      refine ⟨fun mine held station same enough settled => ?_, fun empty => ends (unit := ready) (judged.trans ?_) rfl⟩
      · rw [judged, readyPurseCard_settles h (by omega)
          ⟨⟨rfl, rfl, idle, settled, fresh⟩, mine, held, station, same, enough⟩ unlisted]
        rfl
      · rw [readyPurseCard_lists h (by omega) empty unlisted]
        rfl

end Sys2Proof.Machine
end

section
/-! ## The command at the front of the queue (log 2) -/

namespace Sys2Proof.Machine

/-- Settles O1: the branch of `step` for a queue that is not empty; `step_empty` is the other one. -/
theorem stepRunsFrontCommand : Obligations.StepRunsFrontCommand := by
  unfold Obligations.StepRunsFrontCommand
  intro s c rest front
  rw [step, front]

end Sys2Proof.Machine
end
